-- ==== Sys2Proof/Word.lean ====
section
/-! DEFINITION. The words and index types of the WDN-4320, with the spec's own widths. -/

namespace Sys2Proof

/-- A register of the port, a cap, a commit number or a check value. -/
abbrev Word16 := BitVec 16
/-- An 8-bit argument or group code. -/
abbrev Byte := BitVec 8
/-- A 7-bit time code (R1). -/
abbrev TimeCode := BitVec 7
/-- A station address 0..31. -/
abbrev Station := Fin 32
/-- A load number 0..7. -/
abbrev LoadIx := Fin 8
/-- A priority class 0..3. -/
abbrev ClassIx := Fin 4

/-- Every station address, ascending. -/
abbrev allStations : List Station := List.finRange 32
/-- Every load number, ascending. -/
abbrev allLoads : List LoadIx := List.finRange 8
/-- Every class, ascending. -/
abbrev allClasses : List ClassIx := List.finRange 4

/-- One bit as a number, for register layouts. -/
def bit (b : Bool) : Nat := if b then 1 else 0

end Sys2Proof
end

