-- ==== Sys2Proof/Syntax.lean ====
section
/-! DEFINITION. The commands of the block: one constructor for each row of spec/opcode_table.json, with its operands, and the frame contents they carry. -/

namespace Sys2Proof

/-- The twelve frame kinds (Table 2.4). -/
inductive FrameKind
  | cap | evict | release | alive | leave | freeze | thaw | join | claim | image | seek | group
  deriving DecidableEq, Repr

/-- The base fields of a state-changing frame (Table 2.4, R10). -/
structure Base where
  commit : Word16
  check  : Word16
  deriving DecidableEq, Repr

/-- The levels read in the acknowledge and objection slots: true is dominant (R32). -/
structure Slots where
  ack : Bool
  obj : Bool
  deriving DecidableEq, Repr

/-- What a state-changing frame asks of the table: its body after the base fields (Table 2.4). -/
inductive Change
  | cap     (value : Word16)
  | evict   (target : Station)
  | release (amounts : Vector (BitVec 11) 4)
  | leave
  | freeze  (duration : TimeCode)
  | thaw
  | join
  | claim   (cls : ClassIx) (units : Byte) (tag : LoadIx)
  deriving DecidableEq, Repr

/-- The header of an image, segment 0 (Table 2.5). -/
structure ImageHeader where
  commit    : Word16
  check     : Word16
  cap       : Word16
  frozen    : Bool
  remaining : TimeCode
  lease     : TimeCode
  deriving DecidableEq, Repr

/-- One station entry as an image segment carries it: a membership bit and four 11-bit holdings (Table 2.5). -/
structure WireEntry where
  member : Bool
  held   : Vector (BitVec 11) 4
  deriving DecidableEq, Repr

/-- An image segment: the header (index 0), or four entries; `entries i` is segment index i + 1 (Table 2.5). -/
inductive Segment
  | header  (h : ImageHeader)
  | entries (index : Fin 8) (rows : Vector WireEntry 4)
  deriving DecidableEq, Repr

/-- The body of a frame of any kind. -/
inductive FrameBody
  | change (base : Base) (c : Change)
  | alive
  | image (seg : Segment)
  | seek
  | group (code : Byte)
  deriving DecidableEq, Repr

/-- Why a followed frame was discarded (R29). Only a bad check code leaves the node following the line. -/
inductive DiscardReason
  | badCheck | stuffing | unknownKind | unknownSegment | dominantEnd
  deriving DecidableEq, Repr

/-- The steps of the part: the rows of the opcode table. -/
inductive Instr
  -- resets
  | powerOnResetBegin
  | powerOnReset (straps : Station)
  | rstnAsserted
  | rstnReleased
  -- COMMAND writes, each with COMMAND bits 7:0
  | start (arg : Byte)
  | request (arg : Byte)
  | withdraw (arg : Byte)
  | setLevel (arg : Byte)
  | inhibit (arg : Byte)
  | permit (arg : Byte)
  | clearFault (arg : Byte)
  | sendGroup (arg : Byte)
  | setCap (arg : Byte)
  | freeze (arg : Byte)
  | detach (arg : Byte)
  | rejoin (arg : Byte)
  | resetStation (arg : Byte)
  | unassignedCommand (code : Byte) (arg : Byte)
  -- other accesses of the register port
  | eventARead (emptyAtFix : Bool)
  | statusWrite (value : Word16)
  | settingDataWrite (value : Word16)
  | registerWrite (addr : BitVec 7) (value : Word16)
  -- the line
  | contention
  | arbitrationLost
  | itemLatch
  | transmitFailure
  | lineError
  | integrationComplete
  | frameDiscarded (why : DiscardReason)
  -- ends of frames
  | capFrame (src : Station) (base : Base) (value : Word16) (slots : Slots)
  | evictFrame (src : Station) (base : Base) (target : Station) (slots : Slots)
  | releaseFrame (src : Station) (base : Base) (amounts : Vector (BitVec 11) 4) (slots : Slots)
  | leaveFrame (src : Station) (base : Base) (slots : Slots)
  | freezeFrame (src : Station) (base : Base) (duration : TimeCode) (slots : Slots)
  | thawFrame (src : Station) (base : Base) (slots : Slots)
  | joinFrame (src : Station) (base : Base) (slots : Slots)
  | claimFrame (src : Station) (base : Base) (cls : ClassIx) (units : Byte) (tag : LoadIx) (slots : Slots)
  | aliveFrame (src : Station)
  | seekFrame (src : Station)
  | imageFrame (src : Station) (seg : Segment)
  | groupFrame (src : Station) (code : Byte)
  -- timers
  | fairGapExpiry
  | seekWaitExpiry
  | imageGapExpiry
  | silenceTimerExpiry (station : Station)
  | quietTimerExpiry
  | rampTimerExpiry (load : LoadIx)
  | freezeTimerExpiry
  -- debounced inputs
  | reqDebouncedChange (load : LoadIx) (asserted : Bool)
  | rdyDebouncedChange (load : LoadIx) (asserted : Bool)
  | limitDebouncedChange (asserted : Bool)
  | trgDebouncedAssertion (trigger : Fin 2)
  -- the slots of another node's frame
  | ackObjSlotDrive (src : Station) (base : Base)
  deriving DecidableEq, Repr

end Sys2Proof
end

