-- ==== Sys2Proof/Decode.lean ====
section
/-! DEFINITION. The command that a word of the opcode table spells. No row of this block's table gives bits, so no word spells a command.
The command that a transaction of the register port stands for is Sys2Proof.Machine.spiInstr, in Machine/Port.lean. -/

namespace Sys2Proof

/-- The table's rows have no bits: no word spells a command. -/
def decodeTableWord (_nbits _w : Nat) : Option Instr := none

end Sys2Proof
end

