-- ==== Sys2Proof/Config.lean ====
section
/-! DEFINITION. The fixed quantities of Table I.5. Nothing of the part is left open as a value, so there is no free value here. -/

namespace Sys2Proof.Config

/-- Holding per station per class: 0..2047 BU. -/
def maxHolding : Nat := 2047
/-- Pending change list: 16 records. -/
def maxChanges : Nat := 16
/-- Group send list: 4 codes. -/
def maxCodes : Nat := 4
/-- Event queue: 16 records. -/
def maxEvents : Nat := 16
/-- Attempts per state-changing frame: first transmission and 3 retries. -/
def maxAttempts : Nat := 4
/-- Transmit failure limit: consecutive failures. -/
def failureLimit : Nat := 16
/-- SEEK attempts before founding. -/
def seekAttempts : Nat := 4
/-- Seek wait in ms. -/
def seekWaitMs : Nat := 100
/-- Image gap limit in ms. -/
def imageGapMs : Nat := 20
/-- Short debounce time in ms. -/
def shortDebounceMs : Nat := 1
/-- Long debounce time in ms. -/
def longDebounceMs : Nat := 32
/-- Minimum lease in ms. -/
def minLeaseMs : Nat := 200
/-- A replayed record this far ahead of the replay commit shows a missing change (R62: distance 1 to 15). -/
def missingDistance : Nat := 15
/-- The constant of IDENT (Table 10.1). -/
def ident : Word16 := 0x4320

end Sys2Proof.Config
end

