-- ==== Sys2Proof/Machine/State.lean ====
section
/-! DEFINITION. The state of one WDN-4320: every block of Table I.2 with the state it owns, the pins, and the queue of commands that wait. -/

namespace Sys2Proof.Machine

/-! ## Settings (Table 10.3) -/

/-- What asks for a load: the REQx pin, or the local controller and group windows (Table 5.1). -/
inductive Source
  | pin | soft
  deriving DecidableEq, Repr

/-- Debounce times (Table I.5): short 1 ms, long 32 ms. -/
inductive Debounce
  | short | long
  deriving DecidableEq, Repr

/-- The settings of one load (Table 5.1, R86). -/
structure LoadSettings where
  cls       : ClassIx
  readyUsed : Bool
  source    : Source
  debounce  : Debounce
  ramp      : TimeCode
  full      : Byte
  keep      : Byte
  deriving DecidableEq, Repr

/-- Actions of a group window, highest precedence first (Table 9.1, R149). -/
inductive Action
  | inhibit | keep | withdraw | permit | request
  deriving DecidableEq, Repr

/-- One group window (Table 9.1). Bit x of `loads` is load x. -/
structure GroupWindow where
  base    : Byte
  mask    : Byte
  loads   : Byte
  action  : Action
  enabled : Bool
  deriving DecidableEq, Repr

/-- The settings of one trigger input (Table 9.2). -/
structure TriggerSettings where
  code    : Byte
  enabled : Bool
  deriving DecidableEq, Repr

/-- The settings store (Table 10.3, R154). -/
structure Settings where
  bitRate   : BitVec 2
  fairGap   : Byte
  lease     : TimeCode
  normalCap : Word16
  limitCap  : Word16
  loads     : Vector LoadSettings 8
  windows   : Vector GroupWindow 4
  triggers  : Vector TriggerSettings 2
  deriving DecidableEq, Repr

/-- The power-on reset defaults of Tables 5.1, 9.1, 9.2 and 10.3. -/
def Settings.default : Settings where
  bitRate := 0b01
  fairGap := 2
  lease := 0x4F
  normalCap := 0
  limitCap := 0
  loads := .replicate 8 { cls := 3, readyUsed := false, source := .soft, debounce := .short, ramp := 0, full := 1, keep := 0 }
  windows := .replicate 4 { base := 0, mask := 0, loads := 0, action := .request, enabled := false }
  triggers := .replicate 2 { code := 0, enabled := false }

/-! ## The budget table (Tables 1.1 and 1.2) -/

/-- One station entry: membership and held[0..3] in BU. -/
structure Entry where
  member : Bool
  held   : Vector Nat 4
  deriving DecidableEq, Repr

/-- An ABSENT entry holds 0 in every class (R2). -/
def Entry.absent : Entry := { member := false, held := .replicate 4 0 }

/-- The budget table. The check value is computed, not stored (R6). -/
structure Table where
  entries : Vector Entry 32
  cap     : Word16
  frozen  : Bool
  commit  : Word16
  deriving DecidableEq, Repr

/-- The empty table (R8). -/
def Table.empty : Table := { entries := .replicate 32 .absent, cap := 0, frozen := false, commit := 0 }

/-! ## The Bus Controller (Table 2.9) -/

/-- What the node has driven in the slots of the frame it follows (R31): not yet decided, ACK, OBJ, or nothing. -/
inductive SlotDrive
  | undecided | ack | obj | nothing
  deriving DecidableEq, Repr

/-- Where the Bus Controller stands with the line (R25, R26, R43). `gap` is the three recessive bits after a frame.
`sending` holds the latched body of the frame being sent. -/
inductive Line
  | off
  | integrating
  | gap
  | idle
  | contending (kind : FrameKind)
  | sending (body : FrameBody)
  | following (driven : SlotDrive)
  deriving DecidableEq, Repr

/-- An item of the send list: at most one of each kind other than GROUP (R40), with its attempt count (R35). -/
structure Item where
  kind        : FrameKind
  attempts    : Nat
  postedAgain : Bool
  deriving DecidableEq, Repr

/-- The Bus Controller. `codes` is the GROUP part of the send list (R40, R145). `withdrawHeld` is a withdrawal or a removal
held until the arbitration field ends (R41, R44). -/
structure Bus where
  line         : Line
  items        : List Item
  codes        : List Byte
  withdrawHeld : Bool
  failures     : Nat
  fairGap      : Option Nat
  deriving DecidableEq, Repr

/-- The Bus Controller after either reset and on entry to DETACHED (Table 2.9). -/
def Bus.stopped : Bus :=
  { line := .off, items := [], codes := [], withdrawHeld := false, failures := 0, fairGap := none }

/-! ## The Membership Controller (Tables 3.1 and 3.2) -/

/-- Participation states (Table 3.1). -/
inductive Participation
  | setup | seeking | joining | active | leaving | detached
  deriving DecidableEq, Repr

/-- A record of the pending change list (R57): source, base and body; the kind is the body's. -/
structure ChangeRecord where
  source : Station
  base   : Base
  change : Change
  deriving DecidableEq, Repr

/-- The collection record with its shadow table (R58). `next` is the next segment expected, 1..8. -/
structure Collection where
  source  : Station
  next    : Nat
  header  : ImageHeader
  entries : Vector Entry 32
  deriving DecidableEq, Repr

/-- The outgoing image buffer (R55). -/
structure ImageBuffer where
  header  : ImageHeader
  entries : Vector Entry 32
  deriving DecidableEq, Repr

/-- The Membership Controller. `latestSeek` says that the node has a latest SEEK, `segmentSeen` that a segment 0 counts as seen
for it or a collection has ended since it (R49). `train` is the entry segment to be sent next when a train is in progress: index i is segment i + 1 (R56). -/
structure Membership where
  participation : Participation
  wasMember     : Bool
  seekCount     : Nat
  seekWait      : Option Nat
  latestSeek    : Bool
  segmentSeen   : Bool
  recording     : Bool
  changes       : List ChangeRecord
  collection    : Option Collection
  imageGap      : Option Nat
  imageOwed     : Bool
  buffer        : Option ImageBuffer
  train         : Option (Fin 8)
  deriving DecidableEq, Repr

/-- The Membership Controller as Table 3.2 gives it, in a given participation state. -/
def Membership.cleared (p : Participation) : Membership :=
  { participation := p, wasMember := false, seekCount := 0, seekWait := none, latestSeek := false, segmentSeen := false,
    recording := false, changes := [], collection := none, imageGap := none, imageOwed := false, buffer := none, train := none }

/-! ## The Lease Unit (Table 4.1) -/

/-- The Lease Unit. A silence timer is `none` when it is not kept; the quiet timer is `none` when it is stopped. -/
structure Lease where
  code        : TimeCode
  silence     : Vector (Option Nat) 32
  quiet       : Option Nat
  marks       : Vector Bool 32
  latchedMark : Option Station
  deriving DecidableEq, Repr

/-- No timer, no mark, with the lease in force given (Table 4.2). -/
def Lease.stopped (code : TimeCode) : Lease :=
  { code := code, silence := .replicate 32 none, quiet := none, marks := .replicate 32 false, latchedMark := none }

/-! ## The Load Controller (Tables 5.2 and 5.3) -/

/-- Load states (Table 5.3). -/
inductive LoadState
  | off | waiting | claiming | ramping | on | keep | raiseWait | raiseClaim | fault
  deriving DecidableEq, Repr

/-- Level wish (Table 5.2). -/
inductive Level
  | full | keep
  deriving DecidableEq, Repr

/-- Fault cause (Table 5.2). -/
inductive FaultCause
  | none | ramp | dropout
  deriving DecidableEq, Repr

/-- The dynamic part of a load record (Table 5.2); its places in the demand queue and the grant list are those lists'. -/
structure LoadRecord where
  state     : LoadState
  wanted    : Bool
  wish      : Level
  inhibited : Bool
  cause     : FaultCause
  ramp      : Option Nat
  deriving DecidableEq, Repr

/-- A load record after either reset (Table 5.2). -/
def LoadRecord.reset : LoadRecord :=
  { state := .off, wanted := false, wish := .full, inhibited := false, cause := .none, ramp := none }

/-- A debouncer: debounced level (true is asserted) and stability time in ms (R90). -/
structure Debouncer where
  level : Bool
  count : Nat
  deriving DecidableEq, Repr

/-- A debouncer after either reset (R90). -/
def Debouncer.reset : Debouncer := { level := false, count := 0 }

/-- The Load Controller. `grants` is the grant list, newest first (R87). -/
structure Loads where
  records : Vector LoadRecord 8
  grants  : List LoadIx
  req     : Vector Debouncer 8
  rdy     : Vector Debouncer 8
  deriving DecidableEq, Repr

/-- The Load Controller after either reset (R87, R90). -/
def Loads.reset : Loads :=
  { records := .replicate 8 .reset, grants := [], req := .replicate 8 .reset, rdy := .replicate 8 .reset }

/-! ## The Demand Scheduler (Tables 6.1 and 6.2) -/

/-- The claim slot (Table 6.2). -/
structure ClaimSlot where
  load     : LoadIx
  cls      : ClassIx
  units    : Nat
  latched  : Bool
  orphaned : Bool
  deriving DecidableEq, Repr

/-- The Demand Scheduler. `openUnits` and `latchedUnits` are the two parts of the release account, per class. -/
structure Demand where
  queue        : List LoadIx
  slot         : Option ClaimSlot
  blocked      : Option LoadIx
  openUnits    : Vector Nat 4
  latchedUnits : Vector Nat 4
  deriving DecidableEq, Repr

/-- The Demand Scheduler after either reset (Table 6.1). -/
def Demand.reset : Demand :=
  { queue := [], slot := none, blocked := none, openUnits := .replicate 4 0, latchedUnits := .replicate 4 0 }

/-! ## The Cap Unit, the Freeze Unit and the Group Unit -/

/-- The Cap Unit (Table 7.1); its settings are in the settings store. -/
structure CapUnit where
  request : Option Word16
  held    : Option Word16
  limit   : Debouncer
  deriving DecidableEq, Repr

/-- The Cap Unit after either reset (Table 7.1). -/
def CapUnit.reset : CapUnit := { request := none, held := none, limit := .reset }

/-- The Freeze Unit (Table 8.1). `timer` is `none` when stopped, else the ms remaining (0 only until the expiry is taken). -/
structure FreezeUnit where
  request  : Option TimeCode
  newer    : Bool
  timer    : Option Nat
  thawMark : Bool
  deriving DecidableEq, Repr

/-- The Freeze Unit after either reset (Table 8.1). -/
def FreezeUnit.reset : FreezeUnit := { request := none, newer := false, timer := none, thawMark := false }

/-- The Group Unit's debouncers of TRG0 and TRG1 (R144); its windows are in the settings store, its codes on the send list. -/
structure GroupUnit where
  trg : Vector Debouncer 2
  deriving DecidableEq, Repr

/-- The Group Unit after either reset (R144). -/
def GroupUnit.reset : GroupUnit := { trg := .replicate 2 .reset }

/-! ## The Local Port (Table 10.1) -/

/-- Event codes (Table 10.6). -/
inductive EventCode
  | phase | granted | denied | running | faulted | shed | revoked | capSet | frozen | thawed | memberIn | memberOut
  | outOfStep | imageFailed | groupMatched | groupDropped | busFault | founded
  deriving DecidableEq, Repr

/-- An event record (10.5). -/
structure EventRecord where
  code   : EventCode
  arg    : Byte
  commit : Word16
  deriving DecidableEq, Repr

/-- Command results (Table 10.2, RESULT bits 3:0). -/
inductive CommandResult
  | none | done | refused | badArg | wrongSource | full | badSetting
  deriving DecidableEq, Repr

/-- Reset causes (Table 10.1, RESET_CAUSE). -/
inductive ResetCause
  | por | pin | command
  deriving DecidableEq, Repr

/-- The Local Port. Bit n - 1 of `enables` enables event code n (R157). The index registers hold their defined bits only. -/
structure Port where
  command      : Word16
  commandArg   : Word16
  result       : CommandResult
  badIndex     : Byte
  events       : List EventRecord
  eventB       : Word16
  enables      : BitVec 18
  overflow     : Bool
  tableIndex   : Word16
  loadIndex    : Word16
  settingIndex : Word16
  resetCause   : ResetCause
  deriving DecidableEq, Repr

/-- The Local Port at the end of a reset, before PHASE is posted (R160, R161). -/
def Port.reset (enables : BitVec 18) (cause : ResetCause) : Port :=
  { command := 0, commandArg := 0, result := .none, badIndex := 0, events := [], eventB := 0, enables := enables,
    overflow := false, tableIndex := 0, loadIndex := 0, settingIndex := 0, resetCause := cause }

/-! ## Pins and supply -/

/-- Where the part stands with its supply (R160). `stable` is a power-on reset that waits for RSTN to be high. -/
inductive PowerPhase
  | running | powerOnReset | stable
  deriving DecidableEq, Repr

/-- Supply phase and the level of RSTN (R160, R161). -/
structure Power where
  phase   : PowerPhase
  rstnLow : Bool
  deriving DecidableEq, Repr

/-- Raw levels of the input pins of Table I.3 that the part samples: straps as an address, the others true when high. -/
structure Pins where
  straps : Station
  req    : Vector Bool 8
  rdy    : Vector Bool 8
  trg    : Vector Bool 2
  limit  : Bool
  deriving DecidableEq, Repr

/-! ## The state -/

/-- The node: its blocks (Table I.2), its pins, its address, and the commands that wait, oldest first. `due` holds the rows that the
time base has put into the queue and that have not been taken yet (the model's own, log 5). -/
structure State where
  pending  : List Instr
  due      : List Instr
  power    : Power
  pins     : Pins
  address  : Station
  settings : Settings
  table    : Table
  bus      : Bus
  member   : Membership
  lease    : Lease
  loads    : Loads
  demand   : Demand
  cap      : CapUnit
  freeze   : FreezeUnit
  group    : GroupUnit
  port     : Port
  deriving DecidableEq, Repr

/-- The node right after a power-on reset (R160): straps and inputs low, RSTN high (DESIGN CHOICE, log 2), every setting at its
default, and the one record PHASE(0) with commit 0 in the event queue. -/
def State.reset : State where
  pending := []
  due := []
  power := { phase := .running, rstnLow := false }
  pins := { straps := 0, req := .replicate 8 false, rdy := .replicate 8 false, trg := .replicate 2 false, limit := false }
  address := 0
  settings := .default
  table := .empty
  bus := .stopped
  member := .cleared .setup
  lease := .stopped 0x4F
  loads := .reset
  demand := .reset
  cap := .reset
  freeze := .reset
  group := .reset
  port := { Port.reset (BitVec.allOnes 18) .por with events := [{ code := .phase, arg := 0, commit := 0 }] }

/-- Why the part could stop with a fault. Nothing raises one: the spec names no condition in which the part stops, so the type has
no constructor (safe). -/
inductive Fault
  deriving DecidableEq, Repr

/-- Why a command has no meaning. -/
inductive Refusal
  /-- Raised by exec alone, for a command whose meaning is not written yet; no arm of exec uses it (safe). -/
  | notModelled (mnemonic : String)
  deriving DecidableEq, Repr

/-- The answer of a meaning. -/
abbrev Result := Host.Outcome State Fault Refusal

end Sys2Proof.Machine
end

