-- ==== Sys2Proof/Machine/Operands.lean ====
section
/-! DEFINITION. Codes and layouts: time codes, frame kinds, numbers of states and events, the argument forms of commands, and the settings words. -/

namespace Sys2Proof

/-! ## Frame kinds (Table 2.4) -/

/-- The kind code. -/
def FrameKind.code : FrameKind → Fin 12
  | .cap => 0 | .evict => 1 | .release => 2 | .alive => 3 | .leave => 4 | .freeze => 5
  | .thaw => 6 | .join => 7 | .claim => 8 | .image => 9 | .seek => 10 | .group => 11

/-- Every kind, lowest code first: the order in which R42 chooses. -/
def FrameKind.all : List FrameKind :=
  [.cap, .evict, .release, .alive, .leave, .freeze, .thaw, .join, .claim, .image, .seek, .group]

/-- The kind of frame that carries a change. -/
def Change.kind : Change → FrameKind
  | .cap _ => .cap | .evict _ => .evict | .release _ => .release | .leave => .leave
  | .freeze _ => .freeze | .thaw => .thaw | .join => .join | .claim _ _ _ => .claim

/-- The kind of a frame body. -/
def FrameBody.kind : FrameBody → FrameKind
  | .change _ c => c.kind | .alive => .alive | .image _ => .image | .seek => .seek | .group _ => .group

/-- Kinds of the state-changing frames (Table 2.4). -/
def FrameKind.changes : FrameKind → Bool
  | .alive | .image | .seek | .group => false
  | .cap | .evict | .release | .leave | .freeze | .thaw | .join | .claim => true

/-- Kinds held back by the fair gap (R45). -/
def FrameKind.fairGapped : FrameKind → Bool
  | .claim | .image | .group => true
  | _ => false

end Sys2Proof

namespace Sys2Proof.Machine

/-! ## Time codes (R1, Table I.4) -/

/-- The unit selected by bits 6:5, in ms. -/
def unitMs (c : TimeCode) : Nat :=
  match c.toNat / 32 with
  | 0 => 1
  | 1 => 16
  | 2 => 128
  | _ => 1000

/-- The duration of a time code: (count + 1) × unit. -/
def durationMs (c : TimeCode) : Nat := (c.toNat % 32 + 1) * unitMs c

/-- The renew interval: the lease duration divided by 4, rounded down (R72). -/
def renewMs (c : TimeCode) : Nat := durationMs c / 4

/-- The shortest code of one unit (number and ms) that is not shorter than `r` ms, with its duration. -/
def unitCandidate (r : Nat) (unit : Nat × Nat) : Option (Nat × Nat) :=
  let n := max 1 ((r + unit.2 - 1) / unit.2)
  if n ≤ 32 then some (unit.1 * 32 + (n - 1), n * unit.2) else none

/-- The candidate of least duration, the earlier one where two are equal. -/
def shorter (best : Option (Nat × Nat)) (c : Nat × Nat) : Option (Nat × Nat) :=
  match best with
  | none => some c
  | some b => if c.2 < b.2 then some c else some b

/-- R55: the code of least duration not shorter than `r` ms, with the smaller unit when two codes give that duration. -/
def leastCode (r : Nat) : TimeCode :=
  match ([(0, 1), (1, 16), (2, 128), (3, 1000)].filterMap (unitCandidate r)).foldl shorter none with
  | some b => BitVec.ofNat 7 b.1
  | none => 0x7F

/-! ## Numbers -/

/-- Numbers of Table 3.1. -/
def Participation.number : Participation → Nat
  | .setup => 0 | .seeking => 1 | .joining => 2 | .active => 3 | .leaving => 4 | .detached => 5

/-- The in-step states (Table I.6). -/
def Participation.inStep : Participation → Bool
  | .joining | .active | .leaving => true
  | _ => false

/-- The started states (Table I.6). -/
def Participation.started : Participation → Bool
  | .setup => false
  | _ => true

/-- The states that follow the line (R23). -/
def Participation.onLine : Participation → Bool
  | .setup | .detached => false
  | _ => true

/-- Table 2.8: the kinds that may be posted and sent in each state. -/
def Participation.allows : Participation → FrameKind → Bool
  | .setup, _ => false
  | .detached, _ => false
  | .seeking, k => k == .seek || k == .alive || k == .group
  | .joining, k => k == .join || k == .evict || k == .thaw || k == .image || k == .alive || k == .group
  | .active, k => k != .seek
  | .leaving, k => k == .leave || k == .evict || k == .thaw || k == .image || k == .alive || k == .group

/-- Numbers of Table 5.3. -/
def LoadState.number : LoadState → Nat
  | .off => 0 | .waiting => 1 | .claiming => 2 | .ramping => 3 | .on => 4
  | .keep => 5 | .raiseWait => 6 | .raiseClaim => 7 | .fault => 8

/-- The enable output of a load state (Table 5.3). -/
def LoadState.energized : LoadState → Bool
  | .ramping | .on | .keep | .raiseWait | .raiseClaim => true
  | _ => false

/-- The level output of a load state: high for the full level (Table 5.3). -/
def LoadState.levelHigh : LoadState → Bool
  | .ramping | .on => true
  | _ => false

/-- Whether a load in this state stands in the demand queue (Table 5.3). -/
def LoadState.queued : LoadState → Bool
  | .waiting | .claiming | .raiseWait | .raiseClaim => true
  | _ => false

/-- The units a load in this state occupies (Table 5.3). -/
def LoadState.units (c : LoadSettings) : LoadState → Nat
  | .ramping | .on => c.full.toNat
  | .keep | .raiseWait | .raiseClaim => c.keep.toNat
  | _ => 0

/-- Numbers of Table 10.6. -/
def EventCode.number : EventCode → Nat
  | .phase => 1 | .granted => 2 | .denied => 3 | .running => 4 | .faulted => 5 | .shed => 6 | .revoked => 7
  | .capSet => 8 | .frozen => 9 | .thawed => 10 | .memberIn => 11 | .memberOut => 12 | .outOfStep => 13
  | .imageFailed => 14 | .groupMatched => 15 | .groupDropped => 16 | .busFault => 17 | .founded => 18

/-- Numbers of RESULT bits 3:0 (Table 10.2). -/
def CommandResult.number : CommandResult → Nat
  | .none => 0 | .done => 1 | .refused => 2 | .badArg => 3 | .wrongSource => 4 | .full => 5 | .badSetting => 6

/-- Numbers of RESET_CAUSE (Table 10.1). -/
def ResetCause.number : ResetCause → Nat
  | .por => 1 | .pin => 2 | .command => 3

/-- Fault cause bits of LOAD_STATE (Table 10.2). -/
def FaultCause.number : FaultCause → Nat
  | .none => 0 | .ramp => 1 | .dropout => 2

/-- The two causes of falling out of step, as arguments of OUT_OF_STEP (R53). -/
inductive StepCause
  | objected | unacknowledged
  deriving DecidableEq, Repr

/-- Argument of OUT_OF_STEP (Table 3.7). -/
def StepCause.number : StepCause → Nat
  | .objected => 1 | .unacknowledged => 2

/-- Causes of abandonment (Table 3.5). -/
inductive AbandonCause
  | order | gap | lost | overflow | check | replay
  deriving DecidableEq, Repr

/-- Argument of IMAGE_FAILED (Table 3.5). -/
def AbandonCause.number : AbandonCause → Nat
  | .order => 1 | .gap => 2 | .lost => 3 | .overflow => 4 | .check => 5 | .replay => 6

/-- A number as an 8-bit event argument. -/
def argOf (n : Nat) : Byte := BitVec.ofNat 8 n

/-! ## Argument forms of commands (Table 10.4) -/

/-- The load named by an 8-bit argument: 8..255 name none. -/
def loadNumber (arg : Byte) : Option LoadIx :=
  if h : arg.toNat < 8 then some ⟨arg.toNat, h⟩ else none

/-- The level named by COMMAND_ARG of SET_LEVEL: 0000h FULL, 0001h KEEP. -/
def levelArgument (w : Word16) : Option Level :=
  if w = 0 then some .full else if w = 1 then some .keep else none

/-- The time code of FREEZE: 00h..7Fh. -/
def timeArgument (arg : Byte) : Option TimeCode :=
  if arg.toNat < 128 then some (arg.setWidth 7) else none

/-! ## Group windows (R149) -/

/-- A code matches a window in every bit position where the mask holds 1. -/
def GroupWindow.matchesCode (w : GroupWindow) (code : Byte) : Bool :=
  decide ((code ^^^ w.base) &&& w.mask = 0)

/-- Precedence of the actions, INHIBIT highest. -/
def Action.precedence : List Action := [.inhibit, .keep, .withdraw, .permit, .request]

/-- The 3-bit code of an action (Table 10.3). -/
def Action.number : Action → Nat
  | .inhibit => 0 | .keep => 1 | .withdraw => 2 | .permit => 3 | .request => 4

/-- An action field as it is stored: 101b, 110b and 111b are stored as REQUEST (R154). -/
def Action.ofField (f : BitVec 3) : Action :=
  match f.toNat with
  | 0 => .inhibit
  | 1 => .keep
  | 2 => .withdraw
  | 3 => .permit
  | _ => .request

/-! ## The settings words (Table 10.3, R154) -/

/-- What a setting index selects. -/
inductive SettingKey
  | bitRate | fairGap | lease | normalCap | limitCap
  | loadFlags (x : LoadIx) | loadUnits (x : LoadIx)
  | windowCode (w : Fin 4) | windowAction (w : Fin 4)
  | trigger (t : Fin 2)
  deriving DecidableEq, Repr

/-- The setting at an index of Table 10.3; none for an index it does not list. -/
def settingKey (index : Word16) : Option SettingKey :=
  let i := index.toNat % 256
  if i = 0 then some .bitRate
  else if i = 1 then some .fairGap
  else if i = 2 then some .lease
  else if i = 3 then some .normalCap
  else if i = 4 then some .limitCap
  else if 0x10 ≤ i ∧ i < 0x20 then
    some (if i % 2 = 0 then .loadFlags (Fin.ofNat 8 ((i - 0x10) / 2)) else .loadUnits (Fin.ofNat 8 ((i - 0x10) / 2)))
  else if 0x20 ≤ i ∧ i < 0x28 then
    some (if i % 2 = 0 then .windowCode (Fin.ofNat 4 ((i - 0x20) / 2)) else .windowAction (Fin.ofNat 4 ((i - 0x20) / 2)))
  else if i = 0x28 then some (.trigger 0)
  else if i = 0x29 then some (.trigger 1)
  else none

/-- The settings after a write of word `w` to the setting selected: the defined fields are stored as written (R154). -/
def Settings.write (s : Settings) (w : Word16) : SettingKey → Settings
  | .bitRate => { s with bitRate := w.extractLsb' 0 2 }
  | .fairGap => { s with fairGap := w.extractLsb' 0 8 }
  | .lease => { s with lease := w.extractLsb' 0 7 }
  | .normalCap => { s with normalCap := w }
  | .limitCap => { s with limitCap := w }
  | .loadFlags x =>
    { s with loads := s.loads.set x { s.loads[x] with
        cls := Fin.ofNat 4 (w.extractLsb' 0 2).toNat
        readyUsed := w.getLsbD 2
        source := if w.getLsbD 3 then .pin else .soft
        debounce := if w.getLsbD 4 then .long else .short
        ramp := w.extractLsb' 8 7 } }
  | .loadUnits x =>
    { s with loads := s.loads.set x { s.loads[x] with full := w.extractLsb' 0 8, keep := w.extractLsb' 8 8 } }
  | .windowCode i =>
    { s with windows := s.windows.set i { s.windows[i] with base := w.extractLsb' 0 8, mask := w.extractLsb' 8 8 } }
  | .windowAction i =>
    { s with windows := s.windows.set i { s.windows[i] with
        loads := w.extractLsb' 0 8
        action := Action.ofField (w.extractLsb' 8 3)
        enabled := w.getLsbD 15 } }
  | .trigger t =>
    { s with triggers := s.triggers.set t { code := w.extractLsb' 0 8, enabled := w.getLsbD 15 } }

/-- The word a read of the setting returns (R154, Table 10.3). -/
def Settings.read (s : Settings) : SettingKey → Word16
  | .bitRate => s.bitRate.setWidth 16
  | .fairGap => s.fairGap.setWidth 16
  | .lease => s.lease.setWidth 16
  | .normalCap => s.normalCap
  | .limitCap => s.limitCap
  | .loadFlags x =>
    let c := s.loads[x]
    BitVec.ofNat 16 (c.cls.val + 4 * bit c.readyUsed + 8 * bit (c.source == .pin) + 16 * bit (c.debounce == .long)
      + 256 * c.ramp.toNat)
  | .loadUnits x => BitVec.ofNat 16 (s.loads[x].full.toNat + 256 * s.loads[x].keep.toNat)
  | .windowCode i => BitVec.ofNat 16 (s.windows[i].base.toNat + 256 * s.windows[i].mask.toNat)
  | .windowAction i =>
    BitVec.ofNat 16 (s.windows[i].loads.toNat + 256 * s.windows[i].action.number + 32768 * bit s.windows[i].enabled)
  | .trigger t => BitVec.ofNat 16 (s.triggers[t].code.toNat + 32768 * bit s.triggers[t].enabled)

/-- The checks of START in ascending index order: each index with whether it passes (R155). -/
def Settings.checks (s : Settings) : List (Byte × Bool) :=
  [(0x00, decide (s.bitRate ≠ 3)), (0x02, decide (Config.minLeaseMs ≤ durationMs s.lease))]
    ++ allLoads.map fun x =>
      (argOf (0x11 + 2 * x.val), decide (1 ≤ s.loads[x].full.toNat) && decide (s.loads[x].keep.toNat < s.loads[x].full.toNat))

/-- The index of the first failing check (R155). -/
def Settings.firstBad (s : Settings) : Option Byte :=
  (s.checks.find? fun c => !c.2).map (·.1)

/-- Debounce time of a request input (R91). -/
def Debounce.ms : Debounce → Nat
  | .short => Config.shortDebounceMs
  | .long => Config.longDebounceMs

end Sys2Proof.Machine
end

