-- ==== Sys2Proof/Machine/Table.lean ====
section
/-! DEFINITION. The Budget Table (chapter 1): totals, the check value, the application of an accepted frame, and the shed plan computed from a table (R131). -/

namespace Sys2Proof.Machine

/-! ## Quantities (R5, R6) -/

/-- What an entry adds to the total. -/
def Entry.total (e : Entry) : Nat := if e.member then e.held.toList.sum else 0

/-- The total of a table: the sum over every MEMBER entry and class (R5). -/
def Table.total (t : Table) : Nat := (allStations.map fun q => t.entries[q].total).sum

/-- Free: cap − total, or 0 where the total exceeds the cap (R5). -/
def Table.free (t : Table) : Nat := t.cap.toNat - t.total

/-- Over cap: the total exceeds the cap (R5). -/
def Table.overCap (t : Table) : Bool := decide (t.cap.toNat < t.total)

/-- What an entry adds to the check value (R6). -/
def Entry.weight (q : Station) (e : Entry) : Nat :=
  if e.member then 512 * (q.val + 1) + e.held[0] + 2 * e.held[1] + 3 * e.held[2] + 4 * e.held[3] else 0

/-- The check value (R6). -/
def Table.check (t : Table) : Word16 :=
  BitVec.ofNat 16 (t.cap.toNat + bit t.frozen + (allStations.map fun q => t.entries[q].weight q).sum)

/-- The base fields a frame latched now carries (R10). -/
def Table.base (t : Table) : Base := { commit := t.commit, check := t.check }

/-- Whether a MEMBER entry other than `own` stands in the table (R32). -/
def Table.hasOther (t : Table) (own : Station) : Bool := allStations.any fun q => t.entries[q].member && decide (q ≠ own)

/-! ## Entries -/

/-- Replace one entry. -/
def Table.setEntry (t : Table) (q : Station) (e : Entry) : Table := { t with entries := t.entries.set q e }

/-- held[k] increased by u. -/
def Entry.add (e : Entry) (k : ClassIx) (u : Nat) : Entry := { e with held := e.held.set k (e.held[k] + u) }

/-- Each held[k] reduced by the smaller of its amount and itself (R14). -/
def Entry.lower (e : Entry) (a : Vector (BitVec 11) 4) : Entry :=
  { e with held := #v[e.held[0] - a[0].toNat, e.held[1] - a[1].toNat, e.held[2] - a[2].toNat, e.held[3] - a[3].toNat] }

/-- A MEMBER entry holding nothing (R16). -/
def Entry.joined : Entry := { member := true, held := .replicate 4 0 }

/-! ## Application (R12 to R19) -/

/-- The conditions of Table 1.4 for granting a CLAIM of u units in class k from q (R19). -/
def Table.grants (t : Table) (q : Station) (k : ClassIx) (u : Nat) : Bool :=
  !t.frozen && t.entries[q].member && decide (t.total + u ≤ t.cap.toNat)
    && decide (t.entries[q].held[k] + u ≤ Config.maxHolding) && decide (1 ≤ u)

/-- The station that an applied frame makes ABSENT, if it makes one so (R13, R15). -/
def Table.removes (t : Table) (q : Station) : Change → Option Station
  | .evict target => if t.entries[target].member && decide (target ≠ q) then some target else none
  | .leave => if t.entries[q].member then some q else none
  | _ => none

/-- The changes of an accepted frame from q to the fields other than commit. -/
def Table.change (t : Table) (q : Station) (c : Change) : Table :=
  match c with
  | .cap v => { t with cap := v }
  | .evict _ | .leave =>
    match t.removes q c with
    | some r => t.setEntry r .absent
    | none => t
  | .release a => if t.entries[q].member then t.setEntry q (t.entries[q].lower a) else t
  | .freeze _ => { t with frozen := true }
  | .thaw => { t with frozen := false }
  | .join => if t.entries[q].member then t else t.setEntry q .joined
  | .claim k u _ => if t.grants q k u.toNat then t.setEntry q (t.entries[q].add k u.toNat) else t

/-- An accepted frame applied whole: its changes, and the commit number one higher modulo 65536 (R4, R11). -/
def Table.apply (t : Table) (q : Station) (c : Change) : Table :=
  { t.change q c with commit := t.commit + 1 }

/-- The events of Table 1.6 for a frame applied to table `t` (R21). -/
def Table.events (t : Table) (q : Station) : Change → List (EventCode × Byte)
  | .cap _ => [(.capSet, argOf q.val)]
  | .freeze d => [(.frozen, d.setWidth 8)]
  | .thaw => if t.frozen then [(.thawed, argOf q.val)] else []
  | .join => if t.entries[q].member then [] else [(.memberIn, argOf q.val)]
  | .leave => if t.entries[q].member then [(.memberOut, argOf q.val)] else []
  | .evict target =>
    match t.removes q (.evict target) with
    | some r => [(.memberOut, argOf (r.val + 32))]
    | none => []
  | .release _ | .claim _ _ _ => []

/-! ## The shed plan (R131) -/

/-- The order of visits: classes 3, 2, 1, 0, and within each the stations 31 down to 0. -/
def planOrder : List (ClassIx × Station) :=
  allClasses.reverse.flatMap fun k => allStations.reverse.map fun q => (k, q)

/-- The obligation of one visit, given the excess that remains: ABSENT entries are passed over. -/
def Table.visit (t : Table) (excess : Nat) (v : ClassIx × Station) : Nat :=
  if t.entries[v.2].member then min t.entries[v.2].held[v.1] excess else 0

/-- The obligations of the visits in order. -/
def Table.planFrom (t : Table) : Nat → List (ClassIx × Station) → List ((ClassIx × Station) × Nat)
  | _, [] => []
  | excess, v :: vs => (v, t.visit excess v) :: t.planFrom (excess - t.visit excess v) vs

/-- The shed plan of a table: the excess E = total − cap shared out. -/
def Table.plan (t : Table) : List ((ClassIx × Station) × Nat) := t.planFrom (t.total - t.cap.toNat) planOrder

/-- The obligation of station q in class k. -/
def Table.obligation (t : Table) (q : Station) (k : ClassIx) : Nat :=
  ((t.plan.find? fun p => p.1 == (k, q)).map (·.2)).getD 0

/-! ## Images and replay (R61, R62) -/

/-- An entry as installation stores it: 0 in every class where the segment marks it ABSENT (R2). -/
def entryOfWire (w : WireEntry) : Entry :=
  if w.member then { member := true, held := #v[w.held[0].toNat, w.held[1].toNat, w.held[2].toNat, w.held[3].toNat] } else .absent

/-- An entry as an image segment carries it (Table 2.5). -/
def Entry.wire (e : Entry) : WireEntry :=
  { member := e.member
    held := #v[.ofNat 11 e.held[0], .ofNat 11 e.held[1], .ofNat 11 e.held[2], .ofNat 11 e.held[3]] }

/-- Station j of the four of entry segment index + 1. -/
def segmentStation (index : Fin 8) (j : Fin 4) : Station := ⟨4 * index.val + j.val, by omega⟩

/-- The four rows of an entry segment put into a shadow table's entries (R59). -/
def storeRows (entries : Vector Entry 32) (index : Fin 8) (rows : Vector WireEntry 4) : Vector Entry 32 :=
  allClasses.foldl (fun es j => es.set (segmentStation index j) (entryOfWire rows[j])) entries

/-- The four rows of an entry segment taken from a table's entries. -/
def takeRows (entries : Vector Entry 32) (index : Fin 8) : Vector WireEntry 4 :=
  #v[entries[segmentStation index 0].wire, entries[segmentStation index 1].wire,
     entries[segmentStation index 2].wire, entries[segmentStation index 3].wire]

/-- The shadow table of a collection as a table (R61). -/
def Collection.table (c : Collection) : Table :=
  { entries := c.entries, cap := c.header.cap, frozen := c.header.frozen, commit := c.header.commit }

/-- A record that replay applied, with the tables before and after it. -/
structure Replayed where
  record : ChangeRecord
  before : Table
  after  : Table
  deriving DecidableEq, Repr

/-- Replay (R62): distance 0 is checked and applied, 1 to 15 abandons (none), 16 or more is skipped. The replay commit is the
shadow table's own commit. -/
def replay : List ChangeRecord → Table → Option (Table × List Replayed)
  | [], t => some (t, [])
  | r :: rs, t =>
    let d := (r.base.commit - t.commit).toNat
    if d = 0 then
      if r.base.check = t.check then
        (replay rs (t.apply r.source r.change)).map fun p => (p.1, ⟨r, t, t.apply r.source r.change⟩ :: p.2)
      else none
    else if d ≤ Config.missingDistance then none
    else replay rs t

end Sys2Proof.Machine
end

