-- ==== Sys2Proof/Machine/Ops.lean ====
section
/-! DEFINITION. The operations that every block shares: the records of State, posting events, and the send list (R39 to R46, R157, R158). -/

namespace Sys2Proof.Machine

/-! ## The part as a whole -/

/-- The part runs: not in power-on reset, RSTN high (R160, R161). -/
def Power.running (p : Power) : Bool := p.phase == .running && !p.rstnLow

/-- While a reset lasts nothing but the supply and RSTN acts on the part (R151, R160, R161). -/
def State.whenRunning (s : State) (f : State → State) : State := if s.power.running then f s else s

/-- A row leaves the rows that the time base has queued. -/
def State.taken (s : State) (row : Instr) : State := { s with due := s.due.erase row }

/-- The report of a timer's end or of a settled input is taken. A row that the time base has queued is taken while its timer or input
still stands at its end: an event taken before it may have restarted or stopped it, and then nothing follows (R59, R74, R76, R140). A row
that the time base has not queued is itself the report (DESIGN CHOICE, log 5). -/
def State.takeRow (s : State) (row : Instr) (stands : Bool) (f : State → State) : State :=
  if s.due.contains row && !stands then s.taken row else f (s.taken row)

/-- A count-down timer stands at its end. -/
def ended (t : Option Nat) : Bool := t == some 0

/-- A timer that counts up stands at a limit or beyond. -/
def reached (limit : Nat) (t : Option Nat) : Bool := t.any fun n => decide (limit ≤ n)

/-! ## Records -/

/-- The dynamic record of a load. -/
def State.load (s : State) (x : LoadIx) : LoadRecord := s.loads.records[x]

/-- The settings of a load. -/
def State.cfg (s : State) (x : LoadIx) : LoadSettings := s.settings.loads[x]

/-- Replace the dynamic record of a load. -/
def State.setLoad (s : State) (x : LoadIx) (r : LoadRecord) : State :=
  { s with loads := { s.loads with records := s.loads.records.set x r } }

/-- Change the state of a load and nothing else. -/
def State.setLoadState (s : State) (x : LoadIx) (l : LoadState) : State := s.setLoad x { s.load x with state := l }

/-- The units a load occupies (Table 5.3). -/
def State.occupied (s : State) (x : LoadIx) : Nat := (s.load x).state.units (s.cfg x)

/-- The units occupied by the node's loads of a class. -/
def State.occupiedIn (s : State) (k : ClassIx) : Nat :=
  (allLoads.map fun x => if (s.cfg x).cls = k then s.occupied x else 0).sum

/-- Energized loads (R88), counted for REVOKED. -/
def State.energizedCount (s : State) : Nat := (allLoads.filter fun x => (s.load x).state.energized).length

/-! ## Events (R157, R158) -/

/-- The enable of an event code. -/
def Port.enabled (p : Port) (c : EventCode) : Bool := p.enables.getLsbD (c.number - 1)

/-- Offer a record to the event queue: appended, or discarded with the overflow flag set when 16 stand (R158). -/
def Port.offer (p : Port) (r : EventRecord) : Port :=
  if p.events.length < Config.maxEvents then { p with events := p.events ++ [r] } else { p with overflow := true }

/-- Post a record with a given commit number: nothing when its enable is clear (R157). -/
def State.postAt (s : State) (commit : Word16) (c : EventCode) (arg : Byte) : State :=
  if s.port.enabled c then { s with port := s.port.offer { code := c, arg := arg, commit := commit } } else s

/-- Post a record with the commit number of the node's table (10.5). -/
def State.post (s : State) (c : EventCode) (arg : Byte) : State := s.postAt s.table.commit c arg

/-- Set RESULT (R156). -/
def State.setResult (s : State) (r : CommandResult) (bad : Byte := 0) : State :=
  { s with port := { s.port with result := r, badIndex := bad } }

/-! ## The send list (R40 to R44) -/

/-- The item of a kind. -/
def Bus.item? (b : Bus) (k : FrameKind) : Option Item := b.items.find? fun i => i.kind == k

/-- Whether an item of a kind stands on the list. -/
def Bus.has (b : Bus) (k : FrameKind) : Bool := b.items.any fun i => i.kind == k

/-- The item of a kind is latched and in flight. -/
def Bus.latched (b : Bus) (k : FrameKind) : Bool :=
  match b.line with
  | .sending body => body.kind == k
  | _ => false

/-- The node contends with the item of a kind. -/
def Bus.contends (b : Bus) (k : FrameKind) : Bool :=
  match b.line with
  | .contending k' => k' == k
  | _ => false

/-- The list without the item of a kind. -/
def Bus.drop (b : Bus) (k : FrameKind) : Bus := { b with items := b.items.filter fun i => i.kind != k }

/-- The list with a new item of a kind, attempt count 0 and no mark. -/
def Bus.place (b : Bus) (k : FrameKind) : Bus :=
  { b with items := b.items ++ [{ kind := k, attempts := 0, postedAgain := false }] }

/-- Change the item of a kind. -/
def Bus.modify (b : Bus) (k : FrameKind) (f : Item → Item) : Bus :=
  { b with items := b.items.map fun i => if i.kind == k then f i else i }

/-- Post an item of a kind other than GROUP (R40): not placed where Table 2.8 does not allow it; a new item where none stands;
"posted again" where it is latched and in flight; else the one item stays as it is. -/
def State.send (s : State) (k : FrameKind) : State :=
  if !s.member.participation.allows k then s
  else if !s.bus.has k then { s with bus := s.bus.place k }
  else if s.bus.latched k then { s with bus := s.bus.modify k fun i => { i with postedAgain := true } }
  else s

/-- Take an item off the list at once. -/
def State.dropItem (s : State) (k : FrameKind) : State := { s with bus := s.bus.drop k }

/-- Withdraw an item (R44): held while the node contends with it, too late when it is in flight, else removed at once. -/
def State.withdrawItem (s : State) (k : FrameKind) : State :=
  if s.bus.contends k then (if s.bus.has k then { s with bus := { s.bus with withdrawHeld := true } } else s)
  else if s.bus.latched k then s
  else s.dropItem k

/-- A latched item leaves the list; where its "posted again" mark is set, a new item follows if the state allows it (R40). -/
def State.retire (s : State) (k : FrameKind) : State :=
  match s.bus.item? k with
  | some i => if i.postedAgain then (s.dropItem k).send k else s.dropItem k
  | none => s

/-- A latched item stays on the list unlatched with a given attempt count; the mark is cleared (R35, R40). -/
def State.keepItem (s : State) (k : FrameKind) (attempts : Nat) : State :=
  { s with bus := s.bus.modify k fun i => { i with attempts := attempts, postedAgain := false } }

/-- The attempt count of the item of a kind. -/
def Bus.attempts (b : Bus) (k : FrameKind) : Nat := ((b.item? k).map (·.attempts)).getD 0

/-- An item that R41 removes at a change to state p: its kind is not allowed, it is not in flight, and the node does not contend
with it. -/
def Bus.removable (b : Bus) (p : Participation) (k : FrameKind) : Bool :=
  !p.allows k && !b.latched k && !b.contends k

/-- The send list after a change to state p (R41): a removal of the item contended with is held. -/
def Bus.changeState (b : Bus) (p : Participation) : Bus :=
  { b with
    items := b.items.filter fun i => !b.removable p i.kind
    withdrawHeld := b.withdrawHeld || b.items.any fun i => !p.allows i.kind && b.contends i.kind }

/-- Change the participation state with the send list's part of it (R41); PHASE is posted by `postPhase`. -/
def State.setParticipation (s : State) (p : Participation) : State :=
  { s with member := { s.member with participation := p }, bus := s.bus.changeState p }

/-- Post PHASE with the number of the state (R47). -/
def State.postPhase (s : State) : State := s.post .phase (argOf s.member.participation.number)

/-- Offer a code to the group send list (R145): whether it was placed, and the state after. -/
def State.canPlaceCode (s : State) : Bool :=
  decide (s.bus.codes.length < Config.maxCodes) && s.member.participation.allows .group

/-- Place a code at the back of the group send list. -/
def State.placeCode (s : State) (code : Byte) : State := { s with bus := { s.bus with codes := s.bus.codes ++ [code] } }

/-! ## The line -/

/-- Move the Bus Controller to a line state. -/
def State.setLine (s : State) (l : Line) : State := { s with bus := { s.bus with line := l } }

/-- Whether the item of a kind is eligible to contend (R42). -/
def State.eligible (s : State) (k : FrameKind) : Bool :=
  s.member.participation.allows k
    && (if k == .group then !s.bus.codes.isEmpty else s.bus.has k)
    && !(k.fairGapped && s.bus.fairGap.isSome)

/-- The kind the node chooses: the eligible item of lowest code (R42). -/
def State.chosen (s : State) : Option FrameKind := FrameKind.all.find? s.eligible

/-- A frame of another node can end here: the node is not contending, sending, integrating or off the line (R25, R26). -/
def Line.receives : Line → Bool
  | .idle | .gap | .following _ => true
  | _ => false

/-- Take a pending change of a Vector-held amount: add u to class k. -/
def addAt (v : Vector Nat 4) (k : ClassIx) (u : Nat) : Vector Nat 4 := v.set k (v[k] + u)

end Sys2Proof.Machine
end

