-- ==== Sys2Proof/Machine/Demand.lean ====
section
/-! DEFINITION. The Demand Scheduler (chapter 6): the demand queue, the claim slot, the release account, composition, and the standing postings made at the end of a handling. -/

namespace Sys2Proof.Machine

/-! ## The demand queue (R108, R109) -/

/-- The queue with x behind every load of its class and ahead of every load of a higher class number. -/
def enqueueBy (cls : LoadIx → ClassIx) (x : LoadIx) (q : List LoadIx) : List LoadIx :=
  q.takeWhile (fun y => decide (cls y ≤ cls x)) ++ x :: q.dropWhile fun y => decide (cls y ≤ cls x)

/-- Queue entry: the load becomes the newest arrival of its class. -/
def State.enqueue (s : State) (x : LoadIx) : State :=
  { s with demand := { s.demand with queue := enqueueBy (fun y => (s.cfg y).cls) x s.demand.queue } }

/-- Queue removal: the loads behind close up. -/
def State.dequeue (s : State) (x : LoadIx) : State :=
  { s with demand := { s.demand with queue := s.demand.queue.erase x } }

/-! ## The release account (R120, R121) -/

/-- Units freed: added to the open part of their class, and a RELEASE posted. -/
def State.freeUnits (s : State) (k : ClassIx) (u : Nat) : State :=
  if u = 0 then s
  else { s with demand := { s.demand with openUnits := addAt s.demand.openUnits k u } }.send .release

/-- The sum of two accounts, class by class. -/
def addAccounts (a b : Vector Nat 4) : Vector Nat 4 := #v[a[0] + b[0], a[1] + b[1], a[2] + b[2], a[3] + b[3]]

/-- The latched amounts are added back to the open part (R120). -/
def State.reopenAccount (s : State) : State :=
  { s with demand := { s.demand with
      openUnits := addAccounts s.demand.openUnits s.demand.latchedUnits, latchedUnits := .replicate 4 0 } }

/-- Both parts cleared in every class. -/
def State.clearAccount (s : State) : State :=
  { s with demand := { s.demand with openUnits := .replicate 4 0, latchedUnits := .replicate 4 0 } }

/-! ## The claim slot (R110, R113) -/

/-- Set the claim slot. -/
def State.setSlot (s : State) (c : Option ClaimSlot) : State := { s with demand := { s.demand with slot := c } }

/-- The load of a claim goes back to its place: CLAIMING to WAITING, RAISE_CLAIM to RAISE_WAIT. -/
def State.returnLoad (s : State) (x : LoadIx) : State :=
  match (s.load x).state with
  | .claiming => s.setLoadState x .waiting
  | .raiseClaim => s.setLoadState x .raiseWait
  | _ => s

/-- Empty the slot; where it was not orphaned its load returns to its place (R116, R117, R119, R53). -/
def State.emptySlot (s : State) : State :=
  match s.demand.slot with
  | some c => (if c.orphaned then s else s.returnLoad c.load).setSlot none
  | none => s

/-- The end of a load's claim (R113): orphaned when its frame is in flight; held while the node contends with the item; else the
item is withdrawn and the slot emptied. -/
def State.endClaim (s : State) (x : LoadIx) : State :=
  match s.demand.slot with
  | some c =>
    if c.load = x then
      if c.latched then s.setSlot (some { c with orphaned := true })
      else if s.bus.contends .claim then s.withdrawItem .claim
      else (s.withdrawItem .claim).setSlot none
    else s
  | none => s

/-! ## Composition (R111, R112) -/

/-- Set or clear the blocked flag. -/
def State.setBlocked (s : State) (x : Option LoadIx) : State := { s with demand := { s.demand with blocked := x } }

/-- R112, head changed: the flag is cleared when the head is another load or the queue is empty. -/
def State.clearStaleBlock (s : State) : State :=
  match s.demand.blocked with
  | some x => if s.demand.queue.head? = some x then s else s.setBlocked none
  | none => s

/-- The units a claim for a queued load asks: full from WAITING, full − keep from RAISE_WAIT. -/
def State.claimUnits (s : State) (x : LoadIx) : Nat :=
  match (s.load x).state with
  | .raiseWait => (s.cfg x).full.toNat - (s.cfg x).keep.toNat
  | _ => (s.cfg x).full.toNat

/-- The claim of the head load put into the slot, and the CLAIM item posted. -/
def State.fillSlot (s : State) (x : LoadIx) : State :=
  let c : ClaimSlot :=
    { load := x, cls := (s.cfg x).cls, units := s.claimUnits x, latched := false, orphaned := false }
  ((match (s.load x).state with
    | .waiting => s.setLoadState x .claiming
    | .raiseWait => s.setLoadState x .raiseClaim
    | _ => s).setSlot (some c)).send .claim

/-- The conditions of R111 but for the queue. -/
def State.mayCompose (s : State) : Bool :=
  s.member.participation == .active && !s.table.frozen && s.demand.blocked.isNone && s.demand.slot.isNone

/-- The composition check of R111, after the flag of a head that has changed is cleared. -/
def State.compose (s : State) : State :=
  let s := s.clearStaleBlock
  match s.demand.queue with
  | [] => s
  | x :: _ =>
    if s.mayCompose then
      if s.table.free < s.claimUnits x then s.setBlocked (some x) else s.fillSlot x
    else s

/-! ## Postings that stand at the end of a handling -/

/-- R78: while the node is in step and a mark stands, an EVICT item stands. -/
def State.standEvict (s : State) : State :=
  if s.member.participation.inStep && allStations.any (fun q => s.lease.marks[q]) && !s.bus.has .evict then s.send .evict else s

/-- R141: while the node is in step and the thaw mark stands, a THAW item stands. -/
def State.standThaw (s : State) : State :=
  if s.member.participation.inStep && s.freeze.thawMark && !s.bus.has .thaw then s.send .thaw else s

/-- R54: while the image owed flag is set and no train is in progress, an IMAGE item for segment 0 stands. -/
def State.standImage (s : State) : State :=
  if s.member.participation.inStep && s.member.imageOwed && s.member.train.isNone && !s.bus.has .image then s.send .image else s

/-- The end of a handling: the blocked flag and composition (R111, R112), and the items that stand while their cause stands. -/
def State.settle (s : State) : State := s.compose.standEvict.standThaw.standImage

end Sys2Proof.Machine
end

