-- ==== Sys2Proof/Machine/Loads.lean ====
section
/-! DEFINITION. The Load Controller (chapter 5): requests, level wish, grant and ramp, faults, withdrawal, inhibit, and the shedding of a class (R133, R134). -/

namespace Sys2Proof.Machine

/-! ## The grant list and the queue -/

/-- A load leaves the grant list (R87). -/
def State.ungrant (s : State) (x : LoadIx) : State :=
  { s with loads := { s.loads with grants := s.loads.grants.erase x } }

/-- A grant places the load at the front of the grant list (R87). -/
def State.grantFirst (s : State) (x : LoadIx) : State :=
  { s with loads := { s.loads with grants := x :: s.loads.grants.erase x } }

/-- R94: a load in OFF, wanted and not inhibited goes to WAITING at the back of its class. -/
def State.enterQueue (s : State) (x : LoadIx) : State :=
  if (s.load x).state = .off ∧ (s.load x).wanted = true ∧ (s.load x).inhibited = false then
    (s.setLoadState x .waiting).enqueue x
  else s

/-! ## Leaving a state -/

/-- Whether a load's claim is in the slot by its state. -/
def LoadState.claims : LoadState → Bool
  | .claiming | .raiseClaim => true
  | _ => false

/-- A load goes to `target` (OFF or FAULT), where it occupies nothing: outputs off, ramp stopped, grant list and queue left, its
claim ended, its units handed on as freed (Table 5.6, R100, R134). -/
def State.dropLoad (s : State) (x : LoadIx) (target : LoadState) : State :=
  let r := s.load x
  let freed := s.occupied x
  let s := ((s.setLoad x { r with state := target, ramp := none }).ungrant x).dequeue x
  let s := if r.state.claims then s.endClaim x else s
  s.freeUnits (s.cfg x).cls freed

/-- Withdrawal by load state (Table 5.6): OFF and FAULT stay. -/
def State.turnOff (s : State) (x : LoadIx) : State :=
  match (s.load x).state with
  | .off | .fault => s
  | _ => s.dropLoad x .off

/-- Entry to FAULT (R100): FAULTED carries the load number, + 8 for a dropout. -/
def State.faultLoad (s : State) (x : LoadIx) (cause : FaultCause) : State :=
  let s := s.dropLoad x .fault
  let s := s.setLoad x { s.load x with cause := cause }
  s.post .faulted (argOf (x.val + if cause = .dropout then 8 else 0))

/-! ## The level wish (R95, R96) -/

/-- A load in RAMPING or ON with a keep level goes to KEEP: ramp stopped, full − keep freed, its place in the grant list kept. -/
def State.lowerToKeep (s : State) (x : LoadIx) : State :=
  let r := s.load x
  if (r.state = .ramping ∨ r.state = .on) ∧ 0 < (s.cfg x).keep.toNat then
    (s.setLoad x { r with state := .keep, ramp := none }).freeUnits (s.cfg x).cls ((s.cfg x).full.toNat - (s.cfg x).keep.toNat)
  else s

/-- A load in KEEP goes to RAISE_WAIT at the back of its class (R96). -/
def State.raiseFromKeep (s : State) (x : LoadIx) : State :=
  if (s.load x).state = .keep then (s.setLoadState x .raiseWait).enqueue x else s

/-- The wish becomes KEEP. -/
def State.wishKeep (s : State) (x : LoadIx) : State :=
  if (s.load x).wish = .keep then s
  else
    let s := s.setLoad x { s.load x with wish := .keep }
    match (s.load x).state with
    | .ramping | .on => s.lowerToKeep x
    | .raiseWait => (s.setLoadState x .keep).dequeue x
    | .raiseClaim => ((s.setLoadState x .keep).dequeue x).endClaim x
    | _ => s

/-- The wish becomes FULL. -/
def State.wishFull (s : State) (x : LoadIx) : State :=
  if (s.load x).wish = .full then s
  else (s.setLoad x { s.load x with wish := .full }).raiseFromKeep x

/-- The wish becomes a given level. -/
def State.wishLevel (s : State) (x : LoadIx) : Level → State
  | .full => s.wishFull x
  | .keep => s.wishKeep x

/-! ## Requests, inhibit, permit, clearing of faults (R92, R93, R101 to R104) -/

/-- Wanted set with the wish FULL. A load already wanted takes the wish only (R93). -/
def State.wantLoad (s : State) (x : LoadIx) : State :=
  let s := s.wishFull x
  if (s.load x).wanted then s
  else (s.setLoad x { s.load x with wanted := true }).enterQueue x

/-- Wanted cleared, and the load withdrawn (R102). -/
def State.unwantLoad (s : State) (x : LoadIx) : State :=
  if (s.load x).wanted then (s.setLoad x { s.load x with wanted := false }).turnOff x else s

/-- The inhibited flag set, and the load off as for withdrawal, wanted kept (R103). -/
def State.inhibitLoad (s : State) (x : LoadIx) : State :=
  if (s.load x).inhibited then s else (s.setLoad x { s.load x with inhibited := true }).turnOff x

/-- The inhibited flag cleared; a wanted load in OFF enters the queue (R104). -/
def State.permitLoad (s : State) (x : LoadIx) : State :=
  if (s.load x).inhibited then (s.setLoad x { s.load x with inhibited := false }).enterQueue x else s

/-- FAULT cleared: OFF, cause none, and the queue when wanted and not inhibited (R101). -/
def State.clearFaultLoad (s : State) (x : LoadIx) : State :=
  (s.setLoad x { s.load x with state := .off, cause := .none }).enterQueue x

/-! ## Grant and ramp (R97, R98) -/

/-- The grant of a claim: RAMPING, ramp timer started, queue left, front of the grant list; on to KEEP where the wish says so. -/
def State.grantLoad (s : State) (x : LoadIx) : State :=
  if (s.load x).state.claims then
    let s := (s.setLoad x { s.load x with state := .ramping, ramp := some (durationMs (s.cfg x).ramp) }).dequeue x
    let s := s.grantFirst x
    if (s.load x).wish = .keep then s.lowerToKeep x else s
  else s

/-- The end of a ramp: FAULT with cause RAMP when ready is used and RDYx deasserted, else ON with RUNNING. -/
def State.endRamp (s : State) (x : LoadIx) : State :=
  if (s.cfg x).readyUsed && !s.loads.rdy[x].level then s.faultLoad x .ramp
  else (s.setLoad x { s.load x with state := .on, ramp := none }).post .running (argOf x.val)

/-- States in which a dropout of RDYx is acted on (R99). -/
def LoadState.checked : LoadState → Bool
  | .on | .keep | .raiseWait | .raiseClaim => true
  | _ => false

/-! ## Every load off (R65, R67, R69, R83) -/

/-- One load at reconciliation without an entry, self-eviction, entry to LEAVING or DETACHED: no units are handed on here. -/
def State.disconnectLoad (s : State) (x : LoadIx) : State :=
  match (s.load x).state with
  | .ramping | .on | .keep => ((s.setLoad x { s.load x with state := .off, ramp := none }).ungrant x).enterQueue x
  | .raiseWait | .raiseClaim => (s.setLoadState x .waiting).ungrant x
  | .claiming => s.setLoadState x .waiting
  | .off | .waiting | .fault => s

/-- Every load, in load-number order: within a class the entries are then in load-number order. -/
def State.disconnectAll (s : State) : State := allLoads.foldl State.disconnectLoad s

/-- The units the energized loads occupy are added to the open part of their classes, and no RELEASE is posted (R67). -/
def State.accountOccupied (s : State) : State :=
  { s with demand := { s.demand with
      openUnits := addAccounts s.demand.openUnits #v[s.occupiedIn 0, s.occupiedIn 1, s.occupiedIn 2, s.occupiedIn 3] } }

/-! ## The local shed order (R133, R134) -/

/-- Drop to keep: KEEP, SHED with the load number, and on to RAISE_WAIT since the wish stays FULL. -/
def State.shedToKeep (s : State) (x : LoadIx) : State :=
  let s := (s.lowerToKeep x).post .shed (argOf x.val)
  if (s.load x).wish = .full then s.raiseFromKeep x else s

/-- Turn off: OFF, SHED with the load number + 8, and the queue at the back of its class. -/
def State.shedOff (s : State) (x : LoadIx) : State :=
  ((s.dropLoad x .off).post .shed (argOf (x.val + 8))).enterQueue x

/-- Step 1 takes loads of the class in RAMPING or ON with a keep level. -/
def State.dropsToKeep (s : State) (k : ClassIx) (x : LoadIx) : Bool :=
  decide ((s.cfg x).cls = k) && (s.load x).state.levelHigh && decide (0 < (s.cfg x).keep.toNat)

/-- Step 2 takes energized loads of the class. -/
def State.turnsOff (s : State) (k : ClassIx) (x : LoadIx) : Bool :=
  decide ((s.cfg x).cls = k) && (s.load x).state.energized

/-- Step 1 over the grant list, newest first, while the class occupies more than the target. -/
def shedKeeps (k : ClassIx) (target : Nat) : List LoadIx → State → State
  | [], s => s
  | x :: xs, s =>
    if s.occupiedIn k ≤ target then s
    else shedKeeps k target xs (if s.dropsToKeep k x then s.shedToKeep x else s)

/-- Step 2 over the grant list, newest first, while the class occupies more than the target. -/
def shedOffs (k : ClassIx) (target : Nat) : List LoadIx → State → State
  | [], s => s
  | x :: xs, s =>
    if s.occupiedIn k ≤ target then s
    else shedOffs k target xs (if s.turnsOff k x then s.shedOff x else s)

/-- The local shed order for class k and a target (R133). A drop to keep moves no load in the grant list. -/
def State.shedClass (s : State) (k : ClassIx) (target : Nat) : State :=
  shedOffs k target s.loads.grants (shedKeeps k target s.loads.grants s)

/-- The node's own obligations of the plan acted on, classes 3, 2, 1, 0 (R132). The plan is that of the table as it stands. -/
def State.executePlan (s : State) : State :=
  allClasses.reverse.foldl (fun s' k =>
    let b := s.table.obligation s.address k
    if 0 < b then s'.shedClass k (s.table.entries[s.address].held[k] - b) else s') s

/-- The shed plan where the table is over cap (R131). -/
def State.shedIfOverCap (s : State) : State := if s.table.overCap then s.executePlan else s

end Sys2Proof.Machine
end

