-- ==== Sys2Proof/Machine/Units.lean ====
section
/-! DEFINITION. The Cap Unit (chapter 7), the Freeze Unit (chapter 8), the Lease Unit (chapter 4) and the Group Unit (chapter 9): the operations of each. -/

namespace Sys2Proof.Machine

/-! ## The Cap Unit (R128 to R130) -/

/-- Set the cap request. -/
def State.setRequest (s : State) (v : Option Word16) : State := { s with cap := { s.cap with request := v } }

/-- The node contends with its CAP item, or its CAP frame is in flight. -/
def Bus.capBusy (b : Bus) : Bool := b.contends .cap || b.latched .cap

/-- A setting of the cap request (R128): held while the node's own CAP is contended for or in flight; compared with the cap in the
in-step states; else taken without comparison. -/
def State.takeCap (s : State) (v : Word16) : State :=
  if s.bus.capBusy then { s with cap := { s.cap with held := some v } }
  else if s.member.participation.inStep then
    if v = s.table.cap then (s.setRequest none).withdrawItem .cap
    else (s.setRequest (some v)).send .cap
  else s.setRequest (some v)

/-- The held setting taken as a new setting (R128, R129). -/
def State.takeHeldCap (s : State) : State :=
  match s.cap.held with
  | some v => { s with cap := { s.cap with held := none } }.takeCap v
  | none => s

/-- An applied CAP handed on (R12, R129): the request is cleared when it is the node's own or carries the requested value. -/
def State.capApplied (s : State) (q : Station) (v : Word16) : State :=
  if q = s.address ∨ s.cap.request = some v then (s.setRequest none).withdrawItem .cap else s

/-- The request compared with the table's cap when the table becomes current again (R130); CAP is placed in ACTIVE alone. -/
def State.compareCap (s : State) : State :=
  match s.cap.request with
  | some v => if v = s.table.cap then s.setRequest none else s.send .cap
  | none => s

/-- R126 at START and REJOIN: a standing limit with no request asks for the limit cap. -/
def State.askLimit (s : State) : State :=
  if s.cap.limit.level && s.cap.request.isNone then s.setRequest (some s.settings.limitCap) else s

/-! ## The Freeze Unit (R140, R141) -/

/-- Time remaining: 0 for a stopped timer (R137). -/
def FreezeUnit.remaining (f : FreezeUnit) : Nat := f.timer.getD 0

/-- An applied FREEZE (R140): the timer restarted where the duration exceeds the time remaining; the mark cleared; an unlatched
THAW item withdrawn. -/
def State.freezeApplied (s : State) (d : TimeCode) : State :=
  let timer := if s.freeze.remaining < durationMs d then some (durationMs d) else s.freeze.timer
  { s with freeze := { s.freeze with timer := timer, thawMark := false } }.withdrawItem .thaw

/-- An applied THAW that set frozen to no (R141). -/
def State.thawApplied (s : State) : State :=
  { s with freeze := { s.freeze with timer := none, thawMark := false } }.withdrawItem .thaw

/-- Timer stopped and mark cleared, the request kept (R137: founding and installation). -/
def State.resetFreezeTimer (s : State) : State :=
  { s with freeze := { s.freeze with timer := none, thawMark := false } }

/-- A standing request is posted when the node reaches ACTIVE (R139). -/
def State.repostFreeze (s : State) : State := if s.freeze.request.isSome then s.send .freeze else s

/-- R119: a FREEZE that sets frozen empties a filled, unlatched slot and withdraws its item. -/
def State.freezeClaim (s : State) : State :=
  match s.demand.slot with
  | some c => if c.latched then s else s.emptySlot.withdrawItem .claim
  | none => s

/-! ## The Lease Unit (R73 to R81) -/

/-- Where the quiet timer reaches the renew interval (R76). An interval of 0 ms, which a header lease of 1 to 3 ms gives (R72), is reached
with the first millisecond: the spec does not say when (DESIGN CHOICE, log 16). -/
def Lease.renewal (l : Lease) : Nat := max 1 (renewMs l.code)

/-- Whether any evict mark stands. -/
def Lease.marked (l : Lease) : Bool := allStations.any fun q => l.marks[q]

/-- The lowest station address among the marks (R78). -/
def Lease.lowestMark (l : Lease) : Option Station := allStations.find? fun q => l.marks[q]

/-- The EVICT item is withdrawn when no mark is left (R74, R80). -/
def State.withdrawEvictIfUnmarked (s : State) : State := if s.lease.marked then s else s.withdrawItem .evict

/-- The heard notification for station q (R37, R74). -/
def State.heard (s : State) (q : Station) : State :=
  match s.lease.silence[q] with
  | none => s
  | some _ =>
    let l : Lease := { s.lease with silence := s.lease.silence.set q (some 0) }
    if l.marks[q] = true ∧ l.latchedMark ≠ some q then
      { s with lease := { l with marks := l.marks.set q false } }.withdrawEvictIfUnmarked
    else { s with lease := l }

/-- The removal of station q handed on (R80): no timer, no mark, latched or not. -/
def State.memberRemoved (s : State) (q : Station) : State :=
  let l := s.lease
  { s with lease := { l with
      silence := l.silence.set q none
      marks := l.marks.set q false
      latchedMark := if l.latchedMark = some q then none else l.latchedMark } }.withdrawEvictIfUnmarked

/-- A silence timer started at 0 for a new member (R16, R73). -/
def State.startSilence (s : State) (q : Station) : State :=
  { s with lease := { s.lease with silence := s.lease.silence.set q (some 0) } }

/-- Timers at 0 for every MEMBER entry other than the node's own, none for the others (R63). -/
def silenceFor (t : Table) (own : Station) : Vector (Option Nat) 32 :=
  allStations.foldl
    (fun (v : Vector (Option Nat) 32) (q : Station) => v.set q (if t.entries[q].member && decide (q ≠ own) then some 0 else none))
    (.replicate 32 none)

/-- Every silence timer stopped and every mark removed; the lease in force and the quiet timer run on (R81). -/
def State.stopSilence (s : State) : State :=
  { s with lease := { s.lease with silence := .replicate 32 none, marks := .replicate 32 false, latchedMark := none } }

/-- START and REJOIN: the lease setting in force, the quiet timer at 0 (R72, R75). -/
def State.startLease (s : State) : State :=
  { s with lease := { Lease.stopped s.settings.lease with quiet := some 0 } }

/-! ## The Group Unit (R149, R150) -/

/-- The resolved action of a code for a load: the highest precedence among the enabled windows that match and name the load. -/
def State.resolve (s : State) (code : Byte) (x : LoadIx) : Option Action :=
  Action.precedence.find? fun a =>
    s.settings.windows.toList.any fun w => w.enabled && w.matchesCode code && w.loads.getLsbD x.val && (w.action == a)

/-- One resolved action, taken as the load command of the same name; WITHDRAW and REQUEST are ignored for a PIN load. -/
def State.act (s : State) (x : LoadIx) : Action → State
  | .inhibit => s.inhibitLoad x
  | .keep => s.wishKeep x
  | .withdraw => if (s.cfg x).source = .soft then s.unwantLoad x else s
  | .permit => s.permitLoad x
  | .request => if (s.cfg x).source = .soft then s.wantLoad x else s

/-- Carry out the resolved action of one load, if it has one. -/
def State.actOn (code : Byte) (s : State) (x : LoadIx) : State :=
  match s.resolve code x with
  | some a => s.act x a
  | none => s

/-- A code applied: GROUP_MATCHED when an enabled window matches, then the actions in load-number order. -/
def State.applyCode (s : State) (code : Byte) : State :=
  if s.settings.windows.toList.any fun w => w.enabled && w.matchesCode code then
    allLoads.foldl (State.actOn code) (s.post .groupMatched code)
  else s

end Sys2Proof.Machine
end

