-- ==== Sys2Proof/Machine/Member.lean ====
section
/-! DEFINITION. The Membership Controller (chapter 3): changes of participation state, founding, collection, installation and reconciliation; and self-eviction (4.7). -/

namespace Sys2Proof.Machine

/-! ## SEEK and abandonment (R49, R57, R60) -/

/-- A SEEK item posted: until it completes the node has no latest SEEK (R49 and its note). -/
def State.sendSeek (s : State) : State :=
  { s with member := { s.member with latestSeek := false } }.send .seek

/-- A collection abandoned (R60), and the same effects of a list overflow without one (R57). A collection that ends within the seek wait
leaves the end of the wait without effect (R49). -/
def State.abandon (s : State) (cause : AbandonCause) : State :=
  ({ s with member := { s.member with
      collection := none, imageGap := none, changes := [], recording := false
      segmentSeen := s.member.segmentSeen || s.member.collection.isSome } }.post
    .imageFailed (argOf cause.number)).sendSeek

/-- The report of a discarded frame in SEEKING: a collection in progress is abandoned (R50). -/
def State.reportDiscard (s : State) : State :=
  if s.member.participation = .seeking ∧ s.member.collection.isSome then s.abandon .lost else s

/-- R51: in SEEKING an intact frame of another node sets the founding count to 0, but for a SEEK from a higher address. -/
def State.countFrame (s : State) (k : FrameKind) (q : Station) : State :=
  if s.member.participation = .seeking ∧ ¬(k = .seek ∧ s.address < q) then
    { s with member := { s.member with seekCount := 0 } }
  else s

/-- R57: a frame recorded while recording is on: in the place of a record with the same base, else at the end; a seventeenth
record overflows. -/
def State.record (s : State) (r : ChangeRecord) : State :=
  if !s.member.recording then s
  else if s.member.changes.any fun p => decide (p.base = r.base) then
    { s with member := { s.member with changes := s.member.changes.map fun p => if p.base = r.base then r else p } }
  else if s.member.changes.length < Config.maxChanges then
    { s with member := { s.member with changes := s.member.changes ++ [r] } }
  else s.abandon .overflow

/-! ## Leaving step, DETACHED and self-eviction (R53, R69, R83, R84) -/

/-- Entry to SEEKING from JOINING or ACTIVE (R53). -/
def State.enterSeeking (s : State) (cause : StepCause) : State :=
  let was := s.member.wasMember || s.member.participation == .active
  let s := (s.emptySlot.reopenAccount.stopSilence).setParticipation .seeking
  let s := { s with member := { Membership.cleared .seeking with wasMember := was } }
  (s.sendSeek.post .outOfStep (argOf cause.number)).postPhase

/-- Entry to DETACHED (R69). -/
def State.enterDetached (s : State) : State :=
  let s := s.disconnectAll.clearAccount
  { s with
    table := .empty
    bus := .stopped
    member := .cleared .detached
    lease := .stopped s.lease.code
    demand := { s.demand with slot := none, blocked := none }
    cap := { s.cap with request := none, held := none }
    freeze := .reset }.postPhase

/-- The cause handed on by the Bus Controller (R53, R68). -/
def State.outOfStep (s : State) (cause : StepCause) : State :=
  match s.member.participation with
  | .joining | .active => s.enterSeeking cause
  | .leaving => s.enterDetached
  | .setup | .seeking | .detached => s

/-- Self-eviction in ACTIVE (R83, R84). -/
def State.selfEvict (s : State) : State :=
  let n := s.energizedCount
  let s := ((s.disconnectAll.setSlot none).clearAccount.withdrawItem .claim).withdrawItem .release
  (((s.post .revoked (argOf n)).setParticipation .joining).send .join).postPhase

/-! ## Reaching ACTIVE (R52, R64, R66, R112, R130, R139) -/

/-- What every entry to ACTIVE does after PHASE: the blocked flag cleared, the cap request compared, a freeze request posted. -/
def State.reachActive (s : State) : State := ((s.setBlocked none).compareCap).repostFreeze

/-- The acceptance of the node's own JOIN (R66). -/
def State.joined (s : State) : State := (s.setParticipation .active).postPhase.reachActive

/-- The table that a founder creates (R52): its own entry MEMBER with the occupied units, every other entry ABSENT. -/
def State.foundedTable (s : State) : Table :=
  { entries := (Vector.replicate 32 Entry.absent).set s.address
      { member := true, held := #v[s.occupiedIn 0, s.occupiedIn 1, s.occupiedIn 2, s.occupiedIn 3] }
    cap := if s.member.wasMember then s.table.cap else s.settings.normalCap
    frozen := false
    commit := 0 }

/-- The Membership Controller after founding and after installation: nothing of the seeking period is left (R52, R63). -/
def Membership.foundOrInstalled (m : Membership) : Membership :=
  { Membership.cleared m.participation with wasMember := m.wasMember }

/-- Founding (R52): table, lease, freeze timer, account; ACTIVE; FOUNDED, the shed plan's records, PHASE. -/
def State.found (s : State) : State :=
  let s := { s with
    table := s.foundedTable
    lease := { s.lease with code := s.settings.lease, silence := .replicate 32 none, marks := .replicate 32 false, latchedMark := none }
    member := s.member.foundOrInstalled }
  let s := (s.resetFreezeTimer.clearAccount.setParticipation .active).post .founded (argOf s.address.val)
  s.shedIfOverCap.postPhase.reachActive

/-! ## Reconciliation (R64, R65) -/

/-- One class of reconciliation with the own entry MEMBER: shed to the holding, and the account set to holding less occupied. -/
def State.reconcileClass (s : State) (k : ClassIx) : State :=
  let h := s.table.entries[s.address].held[k]
  let s := s.shedClass k h
  { s with demand := { s.demand with
      openUnits := s.demand.openUnits.set k (h - s.occupiedIn k), latchedUnits := s.demand.latchedUnits.set k 0 } }

/-- A RELEASE posted when any open amount is nonzero. -/
def State.sendReleaseIfOpen (s : State) : State :=
  if s.demand.openUnits.toList.any fun u => decide (0 < u) then s.send .release else s

/-- Reconciliation with the own entry MEMBER (R64): the classes in turn, then ACTIVE. -/
def State.reconcileMember (s : State) : State :=
  let s := (allClasses.foldl State.reconcileClass s).setParticipation .active
  s.sendReleaseIfOpen.postPhase.reachActive

/-- Reconciliation with the own entry ABSENT (R65): every load off, REVOKED when any was energized, JOINING. -/
def State.reconcileAbsent (s : State) : State :=
  let n := s.energizedCount
  let s := s.disconnectAll.clearAccount
  let s := if 0 < n then s.post .revoked (argOf n) else s
  ((s.setParticipation .joining).send .join).postPhase.compareCap

/-- Reconciliation (3.7). -/
def State.reconcile (s : State) : State :=
  if s.table.entries[s.address].member then s.reconcileMember else s.reconcileAbsent

/-! ## Installation (R61, R63) -/

/-- The records that Table 1.6 names for one replayed change, each with the commit after it (R63 step 1). -/
def postReplayed (s : State) (r : Replayed) : State :=
  (r.before.events r.record.source r.record.change).foldl (fun s e => s.postAt r.after.commit e.1 e.2) s

/-- A replayed CAP handed to the Cap Unit (R63 step 1). -/
def replayCap (s : State) (r : Replayed) : State :=
  match r.record.change with
  | .cap v => s.capApplied r.record.source v
  | _ => s

/-- A replayed FREEZE or THAW taken by the Freeze Unit as an applied one (R63 step 3). -/
def replayFreeze (s : State) (r : Replayed) : State :=
  match r.record.change with
  | .freeze d => s.freezeApplied d
  | .thaw => if r.before.frozen then s.thawApplied else s
  | _ => s

/-- The freeze timer as the header gives it (R63 step 3, R143). -/
def State.installFreeze (s : State) (h : ImageHeader) : State :=
  { s with freeze := { s.freeze with
      timer := if h.frozen then some (durationMs h.remaining) else none, thawMark := false } }

/-- The installed table taken with its hand-offs, in the order of R63. -/
def State.install (s : State) (h : ImageHeader) (t : Table) (rs : List Replayed) : State :=
  let s := { s with table := t }
  let s := rs.foldl replayCap (rs.foldl postReplayed s)
  let s := { s with lease := { s.lease with code := h.lease, silence := silenceFor t s.address } }
  let s := rs.foldl replayFreeze (s.installFreeze h)
  let s := { s with member := s.member.foundOrInstalled }
  s.shedIfOverCap.reconcile

/-- The end of a collection (R61): the shadow table checked and the list replayed, or the collection abandoned. -/
def State.finishCollection (s : State) (c : Collection) : State :=
  if c.table.check = c.header.check then
    match replay s.member.changes c.table with
    | some (t, rs) => s.install c.header t rs
    | none => s.abandon .replay
  else s.abandon .check

/-! ## Collecting (R58, R59) -/

/-- Start of a collection at a segment 0 (R58). -/
def State.startCollection (s : State) (q : Station) (h : ImageHeader) : State :=
  if s.member.seekWait.isSome ∧ s.member.collection.isNone ∧ s.member.latestSeek = true ∧ s.member.segmentSeen = false then
    { s with member := { s.member with
        collection := some { source := q, next := 1, header := h, entries := .replicate 32 .absent }
        imageGap := some Config.imageGapMs
        segmentSeen := true } }
  else s

/-- An entry segment of the collection's source: stored when expected, installation after segment 8, else abandoned (R59). -/
def State.storeSegment (s : State) (c : Collection) (index : Fin 8) (rows : Vector WireEntry 4) : State :=
  if index.val + 1 = c.next then
    let c := { c with entries := storeRows c.entries index rows, next := c.next + 1 }
    if index.val = 7 then s.finishCollection c
    else { s with member := { s.member with collection := some c, imageGap := some Config.imageGapMs } }
  else s.abandon .order

/-- An intact IMAGE frame of another node in SEEKING (R58, R59). -/
def State.collect (s : State) (q : Station) (seg : Segment) : State :=
  match s.member.collection with
  | some c =>
    if c.source = q then
      match seg with
      | .header _ => s.abandon .order
      | .entries index rows => s.storeSegment c index rows
    else s
  | none =>
    match seg with
    | .header h => s.startCollection q h
    | .entries _ _ => s

/-! ## Sending an image (R54 to R56) -/

/-- The freeze remaining code of a captured header (R55). -/
def State.remainingCode (s : State) : TimeCode := if s.table.frozen then leastCode s.freeze.remaining else 0

/-- The image captured at the latch of segment 0 (R55). -/
def State.capture (s : State) : ImageBuffer :=
  { header :=
      { commit := s.table.commit, check := s.table.check, cap := s.table.cap, frozen := s.table.frozen
        remaining := s.remainingCode, lease := s.lease.code }
    entries := s.table.entries }

/-- Another node's segment 0 in an in-step state clears the flag and withdraws an unlatched segment 0 item (R54). -/
def State.noteSegmentZero (s : State) : State :=
  let s := { s with member := { s.member with imageOwed := false } }
  if s.member.train.isNone then s.withdrawItem .image else s

/-- The completion of the node's own segment (R54, R56). -/
def State.advanceTrain (s : State) : Segment → State
  | .header _ => { s with member := { s.member with imageOwed := false, train := some 0 } }.send .image
  | .entries index _ =>
    if h : index.val < 7 then
      { s with member := { s.member with train := some ⟨index.val + 1, by omega⟩ } }.send .image
    else { s with member := { s.member with train := none, buffer := none } }

end Sys2Proof.Machine
end

