-- ==== Sys2Proof/Machine/Handling.lean ====
section
/-! DEFINITION. What the end of a frame does: the hand-offs of an applied frame (Table 1.5), the outcome of the node's own frame and of another node's (Table 2.6), transmit failures and the latch. -/

namespace Sys2Proof.Machine

/-! ## The node's own CLAIM (R114, R115) -/

/-- An own CLAIM granted: the load to RAMPING with GRANTED, or the units of an orphaned claim to the open account (R114). -/
def State.claimGranted (s : State) (k : ClassIx) (u : Nat) (tag : LoadIx) : State :=
  match s.demand.slot with
  | some c =>
    if c.orphaned then (s.setSlot none).freeUnits k u
    else ((s.post .granted (argOf tag.val)).grantLoad c.load).setSlot none
  | none => s

/-- An own CLAIM denied: the load back at its place with DENIED, and the blocked flag when it stands at the head (R115). -/
def State.claimDenied (s : State) (tag : LoadIx) : State :=
  match s.demand.slot with
  | some c =>
    if c.orphaned then s.setSlot none
    else
      let s := ((s.returnLoad c.load).post .denied (argOf tag.val)).setSlot none
      if s.demand.queue.head? = some c.load then s.setBlocked (some c.load) else s
  | none => s

/-! ## An accepted frame applied (R11, R20, R21) -/

/-- The events of Table 1.6, each with the commit after the application (R21). -/
def State.postTableEvents (s : State) (before : Table) (q : Station) (c : Change) : State :=
  (before.events q c).foldl (fun s e => s.post e.1 e.2) s

/-- The removal of an entry handed on (R13, R15, R80, R82). -/
def State.handRemoval (s : State) (r : Station) (byEvict : Bool) : State :=
  let s := s.memberRemoved r
  if byEvict ∧ r = s.address then
    match s.member.participation with
    | .active => s.selfEvict
    | .leaving => s.enterDetached
    | _ => s
  else s

/-- The hand-offs of Table 1.5 but for "free risen", after the table has taken the frame; `before` is the table before it. -/
def State.handOff (s : State) (before : Table) (q : Station) (c : Change) : State :=
  match c with
  | .cap v => (s.capApplied q v).shedIfOverCap
  | .evict target =>
    match before.removes q (.evict target) with
    | some r => s.handRemoval r true
    | none => s
  | .leave =>
    let s := match before.removes q .leave with
      | some r => s.handRemoval r false
      | none => s
    if q = s.address ∧ s.member.participation = .leaving then s.enterDetached else s
  | .release _ => s
  | .join =>
    let s := if !before.entries[q].member && decide (q ≠ s.address) then s.startSilence q else s
    if q = s.address ∧ s.member.participation = .joining then s.joined else s
  | .freeze d =>
    let s := s.freezeApplied d
    if before.frozen then s else s.freezeClaim
  | .thaw => if before.frozen then s.thawApplied.setBlocked none else s
  | .claim k u tag =>
    if q = s.address then
      if before.grants q k u.toNat then s.claimGranted k u.toNat tag else s.claimDenied tag
    else s

/-- An accepted frame of source q applied whole: the table, its events, its hand-offs, and "free risen" (R112). -/
def State.applyFrame (s : State) (q : Station) (c : Change) : State :=
  let before := s.table
  let after := before.apply q c
  let s := ({ s with table := after }.postTableEvents before q c).handOff before q c
  if before.free < after.free then s.setBlocked none else s

/-! ## The node's own frame (R24, R34, R35, R36, R45, R76) -/

/-- The completion of an own frame of any kind: failures 0, fair gap and quiet timer restarted, an unlatched ALIVE withdrawn. -/
def State.completeOwn (s : State) (k : FrameKind) : State :=
  let s := { s with
    bus := { s.bus with
      line := .gap
      failures := 0
      fairGap := if s.settings.fairGap = 0 then none else some s.settings.fairGap.toNat }
    lease := { s.lease with quiet := some 0 } }
  if k = .alive then s else s.withdrawItem .alive

/-- The outcome of a state-changing frame (R32). -/
inductive SlotOutcome
  | accepted | refused | unheard
  deriving DecidableEq, Repr

/-- The outcome at the sender (R32): solo acceptance where its own table shows no other MEMBER. -/
def State.ownOutcome (s : State) (slots : Slots) : SlotOutcome :=
  if slots.ack then .accepted
  else if slots.obj then .refused
  else if s.table.hasOther s.address then .unheard
  else .accepted

/-- What the posting block does with an accepted frame, beside the table's hand-offs (R122, R139). -/
def State.toldAccepted (s : State) : Change → State
  | .release _ => { s with demand := { s.demand with latchedUnits := .replicate 4 0 } }
  | .freeze _ =>
    if s.freeze.newer then { s with freeze := { s.freeze with newer := false } }
    else { s with freeze := { s.freeze with request := none } }
  | .evict _ => { s with lease := { s.lease with latchedMark := none } }
  | .cap _ | .leave | .thaw | .join | .claim _ _ _ => s

/-- What the posting block does with a frame that was refused, unheard or dropped (R79, R117, R122, R139). -/
def State.toldLost (s : State) : Change → State
  | .release _ => s.reopenAccount
  | .freeze _ => { s with freeze := { s.freeze with newer := false } }
  | .evict _ => { s with lease := { s.lease with latchedMark := none } }
  | .claim _ _ _ => s.emptySlot
  | .cap _ | .leave | .thaw | .join => s

/-- What follows an unheard outcome with attempts remaining (R116, R122, R129). -/
def State.afterUnheard (s : State) : Change → State
  | .claim _ _ _ =>
    let s := s.compose
    if s.demand.slot.isSome then s else s.dropItem .claim
  | .release _ => if s.member.participation.allows .release then s else s.dropItem .release
  | .cap _ => s.takeHeldCap
  | .evict _ | .freeze _ | .leave | .thaw | .join => s

/-- What follows the outcome of an own CAP (R129): the held setting is taken. -/
def State.afterCap (s : State) : Change → State
  | .cap _ => s.takeHeldCap
  | _ => s

/-- The end of the node's own state-changing frame (R34, R35). -/
def State.ownChange (s : State) (c : Change) (slots : Slots) : State :=
  let s := s.completeOwn c.kind
  match s.ownOutcome slots with
  | .accepted => (((s.retire c.kind).toldAccepted c).applyFrame s.address c).afterCap c
  | .refused => (((s.retire c.kind).toldLost c).outOfStep .objected).afterCap c
  | .unheard =>
    let n := s.bus.attempts c.kind + 1
    if n < Config.maxAttempts then ((s.keepItem c.kind n).toldLost c).afterUnheard c
    else (((s.retire c.kind).toldLost c).outOfStep .unacknowledged).afterCap c

/-- The end of the node's own SEEK (R49). It becomes the latest SEEK even where SEEK was posted again while it was in flight (DESIGN CHOICE,
log 30). -/
def State.ownSeek (s : State) : State :=
  let s := (s.completeOwn .seek).retire .seek
  if s.member.participation = .seeking then
    { s with member := { s.member with
        seekCount := min (s.member.seekCount + 1) Config.seekAttempts
        changes := []
        recording := true
        seekWait := some Config.seekWaitMs
        latestSeek := true
        segmentSeen := false } }
  else s

/-! ## Another node's frame (R30, R31, R33, R36, R37) -/

/-- A transmit failure or a frame discarded under R30 counted; at 16 the bus fault (R39). -/
def State.countFailure (s : State) (k : FrameKind) : State :=
  let n := s.bus.failures + 1
  if n < Config.failureLimit then { s with bus := { s.bus with failures := n } }
  else
    ({ s with bus := { s.bus with items := [], codes := [], failures := n } }.post .busFault (argOf k.code.val)).enterDetached

/-- An intact frame with the node's own address that it did not send (R30). -/
def State.duplicate (s : State) (k : FrameKind) : State := (s.setLine .gap).countFailure k

/-- The slot a node drives for an intact state-changing frame of station q (R31). -/
def State.slotFor (s : State) (q : Station) (b : Base) : SlotDrive :=
  if q ≠ s.address ∧ s.member.participation.inStep = true then (if b = s.table.base then .ack else .obj) else .nothing

/-- What the node has driven for the frame that ends now: as reported, or decided now where the slot step was not reported. -/
def State.driven (s : State) (q : Station) (b : Base) : SlotDrive :=
  match s.bus.line with
  | .following .ack => .ack
  | .following .obj => .obj
  | .following .nothing => .nothing
  | _ => s.slotFor q b

/-- What every intact frame of another node does: the line in its gap, the station heard, the founding count (R25, R37, R51). -/
def State.received (s : State) (k : FrameKind) (q : Station) : State := ((s.setLine .gap).heard q).countFrame k q

/-- The end of another node's state-changing frame (Table 2.6). -/
def State.otherChange (s : State) (q : Station) (b : Base) (c : Change) (slots : Slots) : State :=
  let d := s.driven q b
  let ack := slots.ack || d == .ack
  let obj := slots.obj || d == .obj
  let s := s.received c.kind q
  if s.member.participation.inStep then
    if d = .ack then s.applyFrame q c
    else if d = .obj ∧ ack = true then s.outOfStep .objected
    else s
  else if s.member.participation = .seeking then
    if obj && !ack then s else s.record { source := q, base := b, change := c }
  else s

/-- The end of a frame: the node's own where it is sending one of that kind; a duplicate address where it is not; else another
node's. A frame that the line state excludes changes nothing. -/
def State.frameEnd (s : State) (k : FrameKind) (q : Station) (own : FrameBody → State → State) (other : State → State) : State :=
  match s.bus.line with
  | .sending body => if body.kind = k ∧ q = s.address then (own body s).settle else s
  | .idle | .gap | .following _ => if q = s.address then s.duplicate k else (other s).settle
  | .off | .integrating | .contending _ => s

/-- The end of a state-changing frame. An own frame carries the body fixed at its latch (R43). -/
def State.changeEnd (s : State) (q : Station) (b : Base) (c : Change) (slots : Slots) : State :=
  s.frameEnd c.kind q
    (fun body s => match body with
      | .change _ latched => s.ownChange latched slots
      | _ => s)
    (fun s => s.otherChange q b c slots)

/-! ## The latch (R43) and its undoing (R38) -/

/-- The body fixed at the latch, from the Budget Table and the posting block. -/
def State.latchBody (s : State) : FrameKind → Option FrameBody
  | .cap => s.cap.request.map fun v => .change s.table.base (.cap v)
  | .evict => s.lease.lowestMark.map fun q => .change s.table.base (.evict q)
  | .release =>
    let u := s.demand.openUnits
    some (.change s.table.base (.release #v[.ofNat 11 u[0], .ofNat 11 u[1], .ofNat 11 u[2], .ofNat 11 u[3]]))
  | .alive => some .alive
  | .leave => some (.change s.table.base .leave)
  | .freeze => s.freeze.request.map fun d => .change s.table.base (.freeze d)
  | .thaw => some (.change s.table.base .thaw)
  | .join => some (.change s.table.base .join)
  | .claim => s.demand.slot.map fun c => .change s.table.base (.claim c.cls (.ofNat 8 c.units) c.load)
  | .image =>
    match s.member.train with
    | none => some (.image (.header s.capture.header))
    | some i => s.member.buffer.map fun b => .image (.entries i (takeRows b.entries i))
  | .seek => some .seek
  | .group => s.bus.codes.head?.map fun c => .group c

/-- What the posting block does when it is told of the latch. -/
def State.toldLatched (s : State) : FrameBody → State
  | .change _ (.release _) =>
    { s with demand := { s.demand with openUnits := .replicate 4 0, latchedUnits := s.demand.openUnits } }
  | .change _ (.evict q) => { s with lease := { s.lease with latchedMark := some q } }
  | .change _ (.freeze _) => { s with freeze := { s.freeze with newer := false } }
  | .change _ (.claim _ _ _) =>
    s.setSlot (s.demand.slot.map fun c => { c with latched := true, orphaned := c.orphaned || s.bus.withdrawHeld })
  | .image (.header _) => { s with member := { s.member with buffer := some s.capture } }
  | _ => s

/-- The node wins arbitration with the item of kind k: the body is fixed, and a held withdrawal is too late (R44). -/
def State.latch (s : State) (k : FrameKind) : State :=
  match s.latchBody k with
  | some body =>
    let s := s.toldLatched body
    { s with bus := { s.bus with line := .sending body, withdrawHeld := false } }
  | none => s

/-- A withdrawal or a removal held for the item contended with is taken (R41, R44, R113). -/
def State.takeHeldWithdrawal (s : State) (k : FrameKind) : State :=
  if s.bus.withdrawHeld then
    let s := { s with bus := { s.bus with withdrawHeld := false } }.dropItem k
    if k = .claim then s.emptySlot else s
  else s

/-- The end of a contention that the node did not win: what was held is taken (R44, R113, R128). -/
def State.contentionOver (s : State) (k : FrameKind) : State :=
  let s := s.takeHeldWithdrawal k
  if k = .cap then s.takeHeldCap else s

/-- The latch undone by a transmit failure, told to the posting block (R38, R55, R79, R113, R122, R129, R139). -/
def State.undoLatch (s : State) : FrameBody → State
  | .change _ (.claim _ _ _) =>
    match s.demand.slot with
    | some c =>
      if c.orphaned then (s.setSlot none).dropItem .claim else s.setSlot (some { c with latched := false })
    | none => s
  | .change _ (.cap _) => s.takeHeldCap
  | .change _ c => s.toldLost c
  | .image (.header _) => { s with member := { s.member with buffer := none } }
  | .image (.entries _ _) | .alive | .seek | .group _ => s

/-- A transmit failure with the item of kind k: the node integrates, the item stays unlatched with its attempt count, the failure
is counted (R38, R39). -/
def State.failTransmit (s : State) : State :=
  match s.bus.line with
  | .contending k => (((s.setLine .integrating).contentionOver k).countFailure k).settle
  | .sending body =>
    let s := s.setLine .integrating
    ((((s.keepItem body.kind (s.bus.attempts body.kind)).undoLatch body)).countFailure body.kind).settle
  | .off | .integrating | .gap | .idle | .following _ => s

end Sys2Proof.Machine
end

