-- ==== Sys2Proof/Machine/Frames.lean ====
section
/-! DEFINITION. The meanings of the twelve frame ends (Table 2.4): what the end of each frame does at this node. -/

namespace Sys2Proof.Machine

/-- CAP_FRAME (R12). -/
def execCapFrame (src : Station) (base : Base) (value : Word16) (slots : Slots) (s : State) : Result :=
  .next (s.whenRunning fun s => s.changeEnd src base (.cap value) slots)

/-- EVICT_FRAME (R13). -/
def execEvictFrame (src : Station) (base : Base) (target : Station) (slots : Slots) (s : State) : Result :=
  .next (s.whenRunning fun s => s.changeEnd src base (.evict target) slots)

/-- RELEASE_FRAME (R14). -/
def execReleaseFrame (src : Station) (base : Base) (amounts : Vector (BitVec 11) 4) (slots : Slots) (s : State) : Result :=
  .next (s.whenRunning fun s => s.changeEnd src base (.release amounts) slots)

/-- LEAVE_FRAME (R15). -/
def execLeaveFrame (src : Station) (base : Base) (slots : Slots) (s : State) : Result :=
  .next (s.whenRunning fun s => s.changeEnd src base .leave slots)

/-- FREEZE_FRAME (R17). -/
def execFreezeFrame (src : Station) (base : Base) (duration : TimeCode) (slots : Slots) (s : State) : Result :=
  .next (s.whenRunning fun s => s.changeEnd src base (.freeze duration) slots)

/-- THAW_FRAME (R18). -/
def execThawFrame (src : Station) (base : Base) (slots : Slots) (s : State) : Result :=
  .next (s.whenRunning fun s => s.changeEnd src base .thaw slots)

/-- JOIN_FRAME (R16). -/
def execJoinFrame (src : Station) (base : Base) (slots : Slots) (s : State) : Result :=
  .next (s.whenRunning fun s => s.changeEnd src base .join slots)

/-- CLAIM_FRAME (R19). -/
def execClaimFrame (src : Station) (base : Base) (cls : ClassIx) (units : Byte) (tag : LoadIx) (slots : Slots) (s : State) :
    Result :=
  .next (s.whenRunning fun s => s.changeEnd src base (.claim cls units tag) slots)

/-- ALIVE_FRAME (R36, R76): the heard notification at another node; the item completed at the sender. -/
def execAliveFrame (src : Station) (s : State) : Result :=
  .next (s.whenRunning fun s =>
    s.frameEnd .alive src (fun _ s => (s.completeOwn .alive).retire .alive) fun s => s.received .alive src)

/-- SEEK_FRAME (R36, R49, R51, R54). -/
def execSeekFrame (src : Station) (s : State) : Result :=
  .next (s.whenRunning fun s =>
    s.frameEnd .seek src (fun _ s => s.ownSeek) fun s =>
      let s := s.received .seek src
      if s.member.participation.inStep then { s with member := { s.member with imageOwed := true } } else s)

/-- The node's own segment completed (R56). -/
def State.ownSegment (s : State) (body : FrameBody) : State :=
  let s := (s.completeOwn .image).retire .image
  match body with
  | .image seg => if s.member.participation.inStep then s.advanceTrain seg else s
  | _ => s

/-- Another node's segment: collected in SEEKING; a segment 0 noted in step (R54, R58, R59). -/
def State.otherSegment (s : State) (src : Station) (seg : Segment) : State :=
  let s := s.received .image src
  if s.member.participation = .seeking then s.collect src seg
  else if s.member.participation.inStep then
    match seg with
    | .header _ => s.noteSegmentZero
    | .entries _ _ => s
  else s

/-- IMAGE_FRAME (R36, R54 to R65). -/
def execImageFrame (src : Station) (seg : Segment) (s : State) : Result :=
  .next (s.whenRunning fun s =>
    s.frameEnd .image src (fun body s => s.ownSegment body) fun s => s.otherSegment src seg)

/-- The node's own GROUP frame completed: the head code leaves the list and is applied at the sender (R145, R148). -/
def State.ownGroup (s : State) (body : FrameBody) : State :=
  let s := s.completeOwn .group
  match body with
  | .group code => { s with bus := { s.bus with codes := s.bus.codes.tail } }.applyCode code
  | _ => s

/-- GROUP_FRAME (R36, R148). -/
def execGroupFrame (src : Station) (code : Byte) (s : State) : Result :=
  .next (s.whenRunning fun s =>
    s.frameEnd .group src (fun body s => s.ownGroup body) fun s => (s.received .group src).applyCode code)

end Sys2Proof.Machine
end

