-- ==== Sys2Proof/Machine/Inputs.lean ====
section
/-! DEFINITION. The meanings of the debounced input rows (R90 to R92, R99, R126, R147). -/

namespace Sys2Proof.Machine

/-- The stability count has reached the debounce time (R90). -/
def Debouncer.settled (d : Debouncer) (time : Nat) : Bool := decide (time ≤ d.count)

/-- A debounced REQx change taken: the pin and the debounced level stand at the new level, the count at 0 (R90). -/
def State.setReq (s : State) (x : LoadIx) (level : Bool) : State :=
  { s with
    pins := { s.pins with req := s.pins.req.set x level }
    loads := { s.loads with req := s.loads.req.set x { level := level, count := 0 } } }

/-- The same for RDYx. -/
def State.setRdy (s : State) (x : LoadIx) (level : Bool) : State :=
  { s with
    pins := { s.pins with rdy := s.pins.rdy.set x level }
    loads := { s.loads with rdy := s.loads.rdy.set x { level := level, count := 0 } } }

/-- The same for LIMIT. -/
def State.setLimit (s : State) (level : Bool) : State :=
  { s with
    pins := { s.pins with limit := level }
    cap := { s.cap with limit := { level := level, count := 0 } } }

/-- The same for a trigger input. -/
def State.setTrg (s : State) (t : Fin 2) (level : Bool) : State :=
  { s with
    pins := { s.pins with trg := s.pins.trg.set t level }
    group := { s.group with trg := s.group.trg.set t { level := level, count := 0 } } }

/-- What a debounced REQx change does to a PIN load in a started state (R92). -/
def State.reqChanged (s : State) (x : LoadIx) (asserted : Bool) : State :=
  if s.member.participation.started = true ∧ (s.cfg x).source = .pin then
    (if asserted then s.wantLoad x else s.unwantLoad x).settle
  else s

/-- REQ_DEBOUNCED_CHANGE (R90, R92). -/
def execReqDebouncedChange (load : LoadIx) (asserted : Bool) (s : State) : Result :=
  .next (s.whenRunning fun s =>
    s.takeRow (.reqDebouncedChange load asserted) (s.loads.req[load].settled (s.cfg load).debounce.ms) fun s =>
      if s.loads.req[load].level = asserted then s else (s.setReq load asserted).reqChanged load asserted)

/-- What a debounced RDYx deassertion does to a checked load (R99). -/
def State.rdyDropped (s : State) (x : LoadIx) : State :=
  if (s.cfg x).readyUsed = true ∧ (s.load x).state.checked = true then (s.faultLoad x .dropout).settle else s

/-- RDY_DEBOUNCED_CHANGE (R90, R99). -/
def execRdyDebouncedChange (load : LoadIx) (asserted : Bool) (s : State) : Result :=
  .next (s.whenRunning fun s =>
    s.takeRow (.rdyDebouncedChange load asserted) (s.loads.rdy[load].settled Config.shortDebounceMs) fun s =>
      if s.loads.rdy[load].level = asserted then s
      else if asserted then s.setRdy load asserted
      else (s.setRdy load asserted).rdyDropped load)

/-- What a debounced LIMIT change does: the limit cap at an assertion, the normal cap at a deassertion, in a started state (R126). -/
def State.limitChanged (s : State) (asserted : Bool) : State :=
  if s.member.participation.started then s.takeCap (if asserted then s.settings.limitCap else s.settings.normalCap) else s

/-- LIMIT_DEBOUNCED_CHANGE (R126). -/
def execLimitDebouncedChange (asserted : Bool) (s : State) : Result :=
  .next (s.whenRunning fun s =>
    s.takeRow (.limitDebouncedChange asserted) (s.cap.limit.settled Config.longDebounceMs) fun s =>
      if s.cap.limit.level = asserted then s else (s.setLimit asserted).limitChanged asserted)

/-- What a debounced assertion of an enabled trigger does where the node follows the line: its code offered, or GROUP_DROPPED when the
list is full (R147). -/
def State.triggered (s : State) (t : Fin 2) : State :=
  if s.settings.triggers[t].enabled = true ∧ s.member.participation.onLine = true then
    if s.canPlaceCode then s.placeCode s.settings.triggers[t].code else s.post .groupDropped (argOf t.val)
  else s

/-- TRG_DEBOUNCED_ASSERTION (R147), taken whatever the debounced level was (DESIGN CHOICE, log 21). -/
def execTrgDebouncedAssertion (trigger : Fin 2) (s : State) : Result :=
  .next (s.whenRunning fun s =>
    s.takeRow (.trgDebouncedAssertion trigger) (s.group.trg[trigger].settled Config.longDebounceMs) fun s =>
      (s.setTrg trigger true).triggered trigger)

end Sys2Proof.Machine
end

