-- ==== Sys2Proof/Machine/Line.lean ====
section
/-! DEFINITION. The meanings of the line rows (chapter 2): contention, arbitration, latch, failures, errors, integration, discards and the slots of another node's frame. -/

namespace Sys2Proof.Machine

/-- The line is idle, or in the gap after a frame that then ends idle (R25). -/
def Line.free : Line → Bool
  | .idle | .gap => true
  | _ => false

/-- CONTENTION (R26, R42): with an eligible item and the line idle, the node contends with the item of lowest kind. -/
def execContention (s : State) : Result :=
  .next (s.whenRunning fun s =>
    if s.bus.line.free then
      match s.chosen with
      | some k => s.setLine (.contending k)
      | none => s
    else s)

/-- ARBITRATION_LOST (R26, R41, R44): the node follows the frame as a receiver; what was held is taken. -/
def execArbitrationLost (s : State) : Result :=
  .next (s.whenRunning fun s =>
    match s.bus.line with
    | .contending k => ((s.setLine (.following .undecided)).contentionOver k).settle
    | .off | .integrating | .gap | .idle | .sending _ | .following _ => s)

/-- ITEM_LATCH (R43): the node wins arbitration and latches its item. -/
def execItemLatch (s : State) : Result :=
  .next (s.whenRunning fun s =>
    match s.bus.line with
    | .contending k => s.latch k
    | .off | .integrating | .gap | .idle | .sending _ | .following _ => s)

/-- TRANSMIT_FAILURE (R38, R39). -/
def execTransmitFailure (s : State) : Result := .next (s.whenRunning State.failTransmit)

/-- LINE_ERROR (R25): a dominant bit within the three gap bits. -/
def execLineError (s : State) : Result :=
  .next (s.whenRunning fun s => if s.bus.line = .gap then s.setLine .integrating else s)

/-- INTEGRATION_COMPLETE (R25): 16 consecutive recessive bits. -/
def execIntegrationComplete (s : State) : Result :=
  .next (s.whenRunning fun s => if s.bus.line = .integrating then s.setLine .idle else s)

/-- Where a node stands after discarding a frame: it follows a frame with a bad check code to its end, and integrates after a
malformed one (R25, R29). -/
def lineAfterDiscard : DiscardReason → Line
  | .badCheck => .gap
  | .stuffing | .unknownKind | .unknownSegment | .dominantEnd => .integrating

/-- FRAME_DISCARDED (R29, R50, R60): no effect but the report to a collection in progress. -/
def execFrameDiscarded (why : DiscardReason) (s : State) : Result :=
  .next (s.whenRunning fun s =>
    if s.bus.line.receives then (s.setLine (lineAfterDiscard why)).reportDiscard else s)

/-- ACK_OBJ_SLOT_DRIVE (R31): the frame's base compared with the node's table, and one slot driven while the node is in step. -/
def execAckObjSlotDrive (src : Station) (base : Base) (s : State) : Result :=
  .next (s.whenRunning fun s =>
    match s.bus.line with
    | .idle | .gap | .following .undecided => s.setLine (.following (s.slotFor src base))
    | .off | .integrating | .contending _ | .sending _ | .following .ack | .following .obj | .following .nothing => s)

end Sys2Proof.Machine
end

