-- ==== Sys2Proof/Machine/Reset.lean ====
section
/-! DEFINITION. The resets (10.6): what they leave, and the meanings of the four reset rows. -/

namespace Sys2Proof.Machine

/-- Every block but the settings store at its station reset state, the port with the enables and cause given, SETUP, and PHASE
with argument 0 and commit 0 (R160, R161). -/
def State.resetBlocks (s : State) (enables : BitVec 18) (cause : ResetCause) : State :=
  { s with
    table := .empty
    bus := .stopped
    member := .cleared .setup
    lease := .stopped s.settings.lease
    loads := .reset
    demand := .reset
    cap := .reset
    freeze := .reset
    group := .reset
    port := .reset enables cause }.postPhase

/-- A station reset taken whole (R161): settings, event enables and address are kept. -/
def State.stationReset (s : State) (cause : ResetCause) : State := s.resetBlocks s.port.enables cause

/-- The end of a power-on reset (R160): straps sampled, settings and enables at their defaults. -/
def State.endPowerOnReset (s : State) : State :=
  { s with
    power := { phase := .running, rstnLow := false }
    address := s.pins.straps
    settings := .default }.resetBlocks (BitVec.allOnes 18) .por

/-- POWER_ON_RESET_BEGIN (R160): the supply comes up; the frame in flight is cut and the driver is off (R23, R46). -/
def execPowerOnResetBegin (s : State) : Result :=
  .next { s with power := { s.power with phase := .powerOnReset }, bus := .stopped }

/-- POWER_ON_RESET (R160): the supply is stable with these straps; the reset ends now, or once RSTN is high. -/
def execPowerOnReset (straps : Station) (s : State) : Result :=
  let s := { s with pins := { s.pins with straps := straps } }
  .next (if s.power.rstnLow then { s with power := { s.power with phase := .stable }, bus := .stopped } else s.endPowerOnReset)

/-- RSTN_ASSERTED (R161): the part is held in reset; the frame in flight is cut and the driver is off (R23, R46). -/
def execRstnAsserted (s : State) : Result :=
  .next (if s.power.rstnLow then s else { s with power := { s.power with rstnLow := true }, bus := .stopped })

/-- RSTN_RELEASED (R161): a station reset with cause PIN ends; or a power-on reset that waited for RSTN (R160); while the supply is
not yet stable only the pin changes. -/
def execRstnReleased (s : State) : Result :=
  .next (
    if s.power.rstnLow then
      match s.power.phase with
      | .running => { s with power := { s.power with rstnLow := false } }.stationReset .pin
      | .stable => s.endPowerOnReset
      | .powerOnReset => { s with power := { s.power with rstnLow := false } }
    else s)

end Sys2Proof.Machine
end

