-- ==== Sys2Proof/Machine/Commands.lean ====
section
/-! DEFINITION. The commands of the local controller (Table 10.5): the meanings of the COMMAND writes. -/

namespace Sys2Proof.Machine

/-! ## Taking a command (R156) -/

/-- COMMAND holds the last word written to it (R153). -/
def State.storeCommand (s : State) (code arg : Byte) : State :=
  { s with port := { s.port with command := code ++ arg } }

/-- A COMMAND write taken whole at the end of its transaction, ignored while a reset lasts (R151, R156). -/
def State.command (s : State) (code arg : Byte) (f : State → State) : Result :=
  .next (s.whenRunning fun s => f (s.storeCommand code arg))

/-- A load command (Table 5.5): REFUSED in SETUP, BAD_ARG for a load number 8..255, else taken for the load. -/
def State.loadCommand (s : State) (arg : Byte) (f : LoadIx → State → State) : State :=
  if s.member.participation = .setup then s.setResult .refused
  else
    match loadNumber arg with
    | none => s.setResult .badArg
    | some x => f x s

/-- REQUEST and WITHDRAW are WRONG_SOURCE for a PIN load (R93). -/
def State.softOnly (s : State) (x : LoadIx) (f : State → State) : State :=
  if (s.cfg x).source = .pin then s.setResult .wrongSource else f s

/-! ## START, DETACH, REJOIN, RESET_STATION -/

/-- At START each PIN load whose debounced REQx is asserted is made wanted (R92). -/
def State.wantAsserted (s : State) (x : LoadIx) : State :=
  if (s.cfg x).source = .pin ∧ s.loads.req[x].level = true then s.wantLoad x else s

/-- START with valid settings (R48, R72, R75, R126). The asserted PIN loads are made wanted in load-number order: the spec names no order
(DESIGN CHOICE, log 29). -/
def State.startNode (s : State) : State :=
  let s := (s.setLine .integrating).startLease
  let s := { s with member := .cleared .seeking }.sendSeek
  (allLoads.foldl State.wantAsserted s).askLimit.postPhase

/-- START (R48, R155). -/
def State.startCommand (s : State) : State :=
  if s.member.participation = .setup then
    match s.settings.firstBad with
    | some index => s.setResult .badSetting index
    | none => (s.setResult .done).startNode
  else s.setResult .refused

/-- START. -/
def execStart (arg : Byte) (s : State) : Result := s.command 0x01 arg State.startCommand

/-- Entry to LEAVING from ACTIVE (R67). -/
def State.enterLeaving (s : State) : State :=
  let s := s.accountOccupied
  let s := match s.demand.slot with
    | some c => s.endClaim c.load
    | none => s
  ((s.disconnectAll.setParticipation .leaving).send .leave).postPhase

/-- DETACH (R67, Table 3.6). -/
def State.detachCommand (s : State) : State :=
  match s.member.participation with
  | .setup | .detached => s.setResult .refused
  | .seeking | .joining => (s.setResult .done).enterDetached
  | .active => (s.setResult .done).enterLeaving.settle
  | .leaving => s.setResult .done

/-- DETACH. -/
def execDetach (arg : Byte) (s : State) : Result := s.command 0x0B arg State.detachCommand

/-- REJOIN (R70, R72, R75, R126). -/
def State.rejoinCommand (s : State) : State :=
  if s.member.participation = .detached then
    let s := ((s.setResult .done).setLine .integrating).startLease
    { s with member := .cleared .seeking }.sendSeek.askLimit.postPhase
  else s.setResult .refused

/-- REJOIN. -/
def execRejoin (arg : Byte) (s : State) : Result := s.command 0x0C arg State.rejoinCommand

/-- RESET_STATION (R161): no result of its own. -/
def execResetStation (arg : Byte) (s : State) : Result := s.command 0x0D arg fun s => s.stationReset .command

/-- A command code that Table 10.5 does not assign (R156). -/
def execUnassignedCommand (code : Byte) (arg : Byte) (s : State) : Result := s.command code arg fun s => s.setResult .badArg

/-! ## Load commands (Table 5.5) -/

/-- REQUEST (R93). -/
def execRequest (arg : Byte) (s : State) : Result :=
  s.command 0x02 arg fun s => s.loadCommand arg fun x s => s.softOnly x fun s => ((s.setResult .done).wantLoad x).settle

/-- WITHDRAW (R93, R102). -/
def execWithdraw (arg : Byte) (s : State) : Result :=
  s.command 0x03 arg fun s => s.loadCommand arg fun x s => s.softOnly x fun s => ((s.setResult .done).unwantLoad x).settle

/-- SET_LEVEL (R95, R96): COMMAND_ARG 0000h FULL, 0001h KEEP. -/
def execSetLevel (arg : Byte) (s : State) : Result :=
  s.command 0x04 arg fun s => s.loadCommand arg fun x s =>
    match levelArgument s.port.commandArg with
    | some l => ((s.setResult .done).wishLevel x l).settle
    | none => s.setResult .badArg

/-- INHIBIT (R103). -/
def execInhibit (arg : Byte) (s : State) : Result :=
  s.command 0x05 arg fun s => s.loadCommand arg fun x s => ((s.setResult .done).inhibitLoad x).settle

/-- PERMIT (R104). -/
def execPermit (arg : Byte) (s : State) : Result :=
  s.command 0x06 arg fun s => s.loadCommand arg fun x s => ((s.setResult .done).permitLoad x).settle

/-- CLEAR_FAULT (R101): REFUSED for a load not in FAULT. -/
def execClearFault (arg : Byte) (s : State) : Result :=
  s.command 0x07 arg fun s => s.loadCommand arg fun x s =>
    if (s.load x).state = .fault then ((s.setResult .done).clearFaultLoad x).settle else s.setResult .refused

/-! ## SEND_GROUP, SET_CAP, FREEZE -/

/-- SEND_GROUP (R146): the code placed with DONE, or FULL; REFUSED in SETUP and DETACHED. -/
def execSendGroup (arg : Byte) (s : State) : Result :=
  s.command 0x08 arg fun s =>
    if !s.member.participation.onLine then s.setResult .refused
    else if s.canPlaceCode then (s.setResult .done).placeCode arg
    else s.setResult .full

/-- SET_CAP (R127): the value is COMMAND_ARG. -/
def execSetCap (arg : Byte) (s : State) : Result :=
  s.command 0x09 arg fun s =>
    if s.member.participation = .active then (s.setResult .done).takeCap s.port.commandArg else s.setResult .refused

/-- A setting of the freeze request (R138): the newer flag where the FREEZE item is latched and in flight, and the posting. -/
def State.takeFreeze (s : State) (d : TimeCode) : State :=
  { s with freeze := { s.freeze with request := some d, newer := s.freeze.newer || s.bus.latched .freeze } }.send .freeze

/-- FREEZE (R138): REFUSED but in ACTIVE; BAD_ARG for 80h..FFh. -/
def execFreeze (arg : Byte) (s : State) : Result :=
  s.command 0x0A arg fun s =>
    if s.member.participation = .active then
      match timeArgument arg with
      | some d => (s.setResult .done).takeFreeze d
      | none => s.setResult .badArg
    else s.setResult .refused

end Sys2Proof.Machine
end

