-- ==== Sys2Proof/Machine/Flags.lean ====
section
/-! DEFINITION. What the part shows: output pins (R88, R159, R160) and the register window as it reads (Tables 10.1 and 10.2). All of it is computed from State. -/

namespace Sys2Proof.Machine

/-! ## Output pins -/

/-- ENx high: the load's state has its enable on (R88), and no reset lasts (R160). -/
def State.enableOut (s : State) (x : LoadIx) : Bool := s.power.running && (s.load x).state.energized

/-- LVx high: the load's state is at full level (R88), and no reset lasts. -/
def State.levelOut (s : State) (x : LoadIx) : Bool := s.power.running && (s.load x).state.levelHigh

/-- IRQN high: no record queued and the overflow flag clear, or a reset lasts (R159). -/
def State.irqnHigh (s : State) : Bool := !s.power.running || (s.port.events.isEmpty && !s.port.overflow)

/-- The line driver may be on: the node contends, sends, or drives a slot (R23). -/
def State.driverMayDrive (s : State) : Bool :=
  match s.bus.line with
  | .contending _ | .sending _ | .following .ack | .following .obj => true
  | _ => false

/-! ## Registers -/

/-- STATUS (Table 10.2, R153). -/
def State.status (s : State) : Word16 :=
  BitVec.ofNat 16 (s.member.participation.number + 8 * bit s.table.frozen + 16 * bit s.table.overCap
    + 32 * bit s.port.overflow + 64 * s.port.events.length)

/-- TABLE_DATA for the selection of TABLE_INDEX (R22): fields 5 to 7 read 0000h. -/
def State.tableData (s : State) : Word16 :=
  let e := s.table.entries[Fin.ofNat 32 (s.port.tableIndex.extractLsb' 0 5).toNat]
  match (s.port.tableIndex.extractLsb' 8 3).toNat with
  | 0 => BitVec.ofNat 16 (bit e.member)
  | 1 => BitVec.ofNat 16 e.held[0]
  | 2 => BitVec.ofNat 16 e.held[1]
  | 3 => BitVec.ofNat 16 e.held[2]
  | 4 => BitVec.ofNat 16 e.held[3]
  | _ => 0

/-- LOAD_STATE for the selection of LOAD_INDEX (R106). -/
def State.loadStateWord (s : State) : Word16 :=
  let x : LoadIx := Fin.ofNat 8 (s.port.loadIndex.extractLsb' 0 3).toNat
  let r := s.load x
  if s.port.loadIndex.getLsbD 8 then BitVec.ofNat 16 (s.occupied x)
  else BitVec.ofNat 16 (r.state.number + 16 * bit r.wanted + 32 * bit (r.wish == .keep) + 64 * bit r.inhibited
    + 128 * r.cause.number + 512 * bit s.loads.req[x].level + 1024 * bit s.loads.rdy[x].level)

/-- SETTING_DATA for the selection of SETTING_INDEX: an index not listed reads 0000h (R154). -/
def State.settingData (s : State) : Word16 :=
  match settingKey s.port.settingIndex with
  | some k => s.settings.read k
  | none => 0

/-- EVENT_A: code and argument of the oldest record, 0000h when the queue is empty (R158). -/
def State.eventA (s : State) : Word16 :=
  match s.port.events with
  | r :: _ => BitVec.ofNat 16 (256 * r.code.number + r.arg.toNat)
  | [] => 0

/-- RESULT (Table 10.2). -/
def State.resultWord (s : State) : Word16 := BitVec.ofNat 16 (s.port.result.number + 256 * s.port.badIndex.toNat)

/-- The value a read of a register address fixes (Table 10.1); an address not assigned reads 0000h (R151). -/
def State.readRegister (s : State) (addr : BitVec 7) : Word16 :=
  match addr.toNat with
  | 0x00 => Config.ident
  | 0x01 => s.status
  | 0x02 => s.port.command
  | 0x03 => s.port.commandArg
  | 0x04 => s.resultWord
  | 0x05 => s.eventA
  | 0x06 => s.port.eventB
  | 0x07 => s.port.enables.extractLsb' 0 16
  | 0x08 => (s.port.enables.extractLsb' 16 2).setWidth 16
  | 0x09 => s.port.tableIndex
  | 0x0A => s.tableData
  | 0x0B => s.table.commit
  | 0x0C => s.table.cap
  | 0x0D => s.table.check
  | 0x0E => s.port.loadIndex
  | 0x0F => s.loadStateWord
  | 0x10 => s.port.settingIndex
  | 0x11 => s.settingData
  | 0x12 => BitVec.ofNat 16 s.port.resetCause.number
  | _ => 0

end Sys2Proof.Machine
end

