-- ==== Sys2Proof/WellFormed.lean ====
section
/-! DEFINITION. Which commands are well formed: the operands whose types admit more than their row does. -/

namespace Sys2Proof

/-- Command codes that Table 10.5 assigns: 01h..0Dh. -/
def assignedCommand (code : Byte) : Bool := decide (1 ≤ code.toNat) && decide (code.toNat ≤ 13)

/-- The row UNASSIGNED_COMMAND is a COMMAND write with an unassigned nonzero code (R156). -/
def unassignedCode (code : Byte) : Bool := decide (code ≠ 0) && !assignedCommand code

/-- The row REGISTER_WRITE is a write that no other row names: not STATUS (01h), not SETTING_DATA (11h), and COMMAND (02h)
only with command code 00h, which issues nothing (R153, R156). -/
def plainWrite (addr : BitVec 7) (value : Word16) : Bool :=
  decide (addr ≠ 0x01) && decide (addr ≠ 0x11) && !(decide (addr = 0x02) && decide (value.extractLsb' 8 8 ≠ 0))

/-- Operands within the row's own range. Every other operand is exact by its type. -/
def Instr.wellFormed : Instr → Bool
  | .unassignedCommand code _ => unassignedCode code
  | .registerWrite addr value => plainWrite addr value
  | .powerOnResetBegin | .powerOnReset _ | .rstnAsserted | .rstnReleased
  | .start _ | .request _ | .withdraw _ | .setLevel _ | .inhibit _ | .permit _ | .clearFault _
  | .sendGroup _ | .setCap _ | .freeze _ | .detach _ | .rejoin _ | .resetStation _
  | .eventARead _ | .statusWrite _ | .settingDataWrite _
  | .contention | .arbitrationLost | .itemLatch | .transmitFailure | .lineError | .integrationComplete
  | .frameDiscarded _ | .capFrame _ _ _ _ | .evictFrame _ _ _ _ | .releaseFrame _ _ _ _ | .leaveFrame _ _ _
  | .freezeFrame _ _ _ _ | .thawFrame _ _ _ | .joinFrame _ _ _ | .claimFrame _ _ _ _ _ _
  | .aliveFrame _ | .seekFrame _ | .imageFrame _ _ | .groupFrame _ _
  | .fairGapExpiry | .seekWaitExpiry | .imageGapExpiry | .silenceTimerExpiry _ | .quietTimerExpiry
  | .rampTimerExpiry _ | .freezeTimerExpiry
  | .reqDebouncedChange _ _ | .rdyDebouncedChange _ _ | .limitDebouncedChange _ | .trgDebouncedAssertion _
  | .ackObjSlotDrive _ _ => true

end Sys2Proof
end

