-- ==== Sys2Proof/Machine/Port.lean ====
section
/-! DEFINITION. The register port (chapter 10): the meanings of the reads and writes that are rows of their own, and the command that a transaction stands for (R151). -/

namespace Sys2Proof.Machine

/-- EVENT_A_READ (R158): the completed read removes the oldest record and copies its commit into EVENT_B. The operand says that the
queue was empty when the value was fixed: such a read removes nothing. -/
def execEventARead (emptyAtFix : Bool) (s : State) : Result :=
  .next (s.whenRunning fun s =>
    if emptyAtFix then s
    else
      match s.port.events with
      | r :: rs => { s with port := { s.port with events := rs, eventB := r.commit } }
      | [] => s)

/-- A write of STATUS: bit 5 clears the overflow flag (R153). -/
def State.writeStatus (s : State) (value : Word16) : State :=
  if value.getLsbD 5 then { s with port := { s.port with overflow := false } } else s

/-- STATUS_WRITE (R153). -/
def execStatusWrite (value : Word16) (s : State) : Result := .next (s.whenRunning fun s => s.writeStatus value)

/-- A debounce setting acts at once: a count already running is compared with the new time (R90). -/
def State.recheckReq (s : State) (x : LoadIx) : State :=
  let d := s.loads.req[x]
  if s.pins.req[x] ≠ d.level ∧ (s.cfg x).debounce.ms ≤ d.count then s.setReq x s.pins.req[x] else s

/-- A write of SETTING_DATA (R154): stored in SETUP at the index selected, ignored in other states and for indices not listed. -/
def State.writeSetting (s : State) (value : Word16) : State :=
  if s.member.participation = .setup then
    match settingKey s.port.settingIndex with
    | some k => allLoads.foldl State.recheckReq { s with settings := s.settings.write value k }
    | none => s
  else s

/-- SETTING_DATA_WRITE (R154). -/
def execSettingDataWrite (value : Word16) (s : State) : Result := .next (s.whenRunning fun s => s.writeSetting value)

/-- The command of a COMMAND write: code 00h issues none (R156, Table 10.5). -/
def commandOf (word : Word16) : Option Instr :=
  let arg := word.extractLsb' 0 8
  match (word.extractLsb' 8 8).toNat with
  | 0x00 => none
  | 0x01 => some (.start arg)
  | 0x02 => some (.request arg)
  | 0x03 => some (.withdraw arg)
  | 0x04 => some (.setLevel arg)
  | 0x05 => some (.inhibit arg)
  | 0x06 => some (.permit arg)
  | 0x07 => some (.clearFault arg)
  | 0x08 => some (.sendGroup arg)
  | 0x09 => some (.setCap arg)
  | 0x0A => some (.freeze arg)
  | 0x0B => some (.detach arg)
  | 0x0C => some (.rejoin arg)
  | 0x0D => some (.resetStation arg)
  | _ => some (.unassignedCommand (word.extractLsb' 8 8) arg)

/-- A register write that stores a value for later accesses: COMMAND, COMMAND_ARG, the event enables and the index registers, their
defined bits only (Table 10.2). A write to a read-only or unassigned address is ignored (R151). -/
def Port.store (p : Port) (addr : BitVec 7) (v : Word16) : Port :=
  match addr.toNat with
  | 0x02 => { p with command := v }
  | 0x03 => { p with commandArg := v }
  | 0x07 => { p with enables := p.enables.extractLsb' 16 2 ++ v }
  | 0x08 => { p with enables := v.extractLsb' 0 2 ++ p.enables.extractLsb' 0 16 }
  | 0x09 => { p with tableIndex := v &&& 0x071F }
  | 0x0E => { p with loadIndex := v &&& 0x0107 }
  | 0x10 => { p with settingIndex := v &&& 0x00FF }
  | _ => p

/-- A COMMAND write taken as the command it issues. -/
def issue (word : Word16) (s : State) : Result :=
  match commandOf word with
  | some (.start arg) => execStart arg s
  | some (.request arg) => execRequest arg s
  | some (.withdraw arg) => execWithdraw arg s
  | some (.setLevel arg) => execSetLevel arg s
  | some (.inhibit arg) => execInhibit arg s
  | some (.permit arg) => execPermit arg s
  | some (.clearFault arg) => execClearFault arg s
  | some (.sendGroup arg) => execSendGroup arg s
  | some (.setCap arg) => execSetCap arg s
  | some (.freeze arg) => execFreeze arg s
  | some (.detach arg) => execDetach arg s
  | some (.rejoin arg) => execRejoin arg s
  | some (.resetStation arg) => execResetStation arg s
  | some (.unassignedCommand code arg) => execUnassignedCommand code arg s
  | _ => .next (s.whenRunning fun s => { s with port := s.port.store 0x02 word })

/-- REGISTER_WRITE (R153, R157): a write of any address; one that another row names does what that row does. -/
def execRegisterWrite (addr : BitVec 7) (value : Word16) (s : State) : Result :=
  if addr = 0x01 then .next (s.whenRunning fun s => s.writeStatus value)
  else if addr = 0x11 then .next (s.whenRunning fun s => s.writeSetting value)
  else if addr = 0x02 then issue value s
  else .next (s.whenRunning fun s => { s with port := s.port.store addr value })

/-! ## The SPI transaction (R151) -/

/-- A number from bits, most significant first. -/
def numberOf (bits : List Bool) : Nat := bits.foldl (fun n b => 2 * n + bit b) 0

/-- An access of the register port. -/
inductive Access
  | read (addr : BitVec 7)
  | write (addr : BitVec 7) (value : Word16)
  deriving DecidableEq, Repr

/-- The access of a transaction: exactly 24 clocks, a direction bit (1 is write), 7 address bits, a 16-bit word; a transaction of any
other number of clocks is none. -/
def spiAccess (sdi : List Bool) : Option Access :=
  if sdi.length = 24 then
    let addr := BitVec.ofNat 7 (numberOf ((sdi.drop 1).take 7))
    if sdi.head? = some true then some (.write addr (BitVec.ofNat 16 (numberOf (sdi.drop 8)))) else some (.read addr)
  else none

/-- The row of the opcode table that a transaction stands for, `s` being the state at the eighth clock: a read has a side effect at EVENT_A
alone, and in a reset every transaction is ignored. A transaction that straddles the start or the end of a reset goes by the power state at
the eighth clock and when its row is taken (DESIGN CHOICE, log 31). -/
def spiInstr (s : State) (sdi : List Bool) : Option Instr :=
  match if s.power.running then spiAccess sdi else none with
  | some (.read addr) => if addr = 0x05 then some (.eventARead s.port.events.isEmpty) else none
  | some (.write addr v) =>
    if addr = 0x01 then some (.statusWrite v)
    else if addr = 0x11 then some (.settingDataWrite v)
    else if addr = 0x02 then some ((commandOf v).getD (.registerWrite addr v))
    else some (.registerWrite addr v)
  | none => none

/-- The value that a read fixes after the eighth clock, from the state at that moment and the bits taken by then; none for a write, for
fewer than eight clocks, and in a reset. -/
def State.fixedValue (s : State) (sdi : List Bool) : Option Word16 :=
  if s.power.running = true ∧ 8 ≤ sdi.length ∧ sdi.head? = some false then
    some (s.readRegister (BitVec.ofNat 7 (numberOf ((sdi.drop 1).take 7))))
  else none

/-- What SDO shows. The spec gives it no level with CSN low outside clocks 9 to 24 of a read: `notStated`, and nothing rests on it. -/
inductive SdoLevel
  | highImpedance
  | driven (bit : Bool)
  | notStated
  deriving DecidableEq, Repr

/-- SDO at a clock of a transaction with the value fixed, or with CSN high: the value's bits on clocks 9 to 24, most significant first. -/
def State.sdo (s : State) (csnHigh : Bool) (fixed : Option Word16) (clock : Nat) : SdoLevel :=
  if csnHigh || !s.power.running then .highImpedance
  else
    match fixed with
    | some v => if 9 ≤ clock ∧ clock ≤ 24 then .driven (v.getLsbD (24 - clock)) else .notStated
    | none => .notStated

/-- The bits that a read of a number of clocks has shifted out, first bit first: all 16 after 24 clocks or more, fewer where it ends
early. -/
def shiftedOut (v : Word16) (clocks : Nat) : List Bool :=
  (List.range (min 24 clocks - 8)).map fun i => v.getLsbD (15 - i)

end Sys2Proof.Machine
end

