-- ==== Sys2Proof/Machine/Timers.lean ====
section
/-! DEFINITION. The meanings of the timer rows: each is the report that a running timer has reached its end (log 5); a timer that does not run has no expiry. -/

namespace Sys2Proof.Machine

/-- FAIR_GAP_EXPIRY (R45): CLAIM, IMAGE and GROUP items become eligible again. -/
def execFairGapExpiry (s : State) : Result :=
  .next (s.whenRunning fun s =>
    s.takeRow .fairGapExpiry (ended s.bus.fairGap) fun s => { s with bus := { s.bus with fairGap := none } })

/-- The end of a seek wait (R49): no effect with a collection in progress, nor once a segment 0 was seen or a collection has ended within
the wait; else a new SEEK, or founding at a count of 4. -/
def State.endSeekWait (s : State) : State :=
  let s := { s with member := { s.member with seekWait := none } }
  if s.member.participation ≠ .seeking ∨ s.member.segmentSeen = true ∨ s.member.collection.isSome = true then s
  else if s.member.seekCount < Config.seekAttempts then s.sendSeek
  else s.found.settle

/-- SEEK_WAIT_EXPIRY (R49, R52). -/
def execSeekWaitExpiry (s : State) : Result :=
  .next (s.whenRunning fun s =>
    s.takeRow .seekWaitExpiry (ended s.member.seekWait) fun s => if s.member.seekWait.isSome then s.endSeekWait else s)

/-- IMAGE_GAP_EXPIRY (R59): the collection is abandoned with cause GAP; where the expected segment was taken first, nothing follows. -/
def execImageGapExpiry (s : State) : Result :=
  .next (s.whenRunning fun s =>
    s.takeRow .imageGapExpiry (ended s.member.imageGap) fun s =>
      if s.member.imageGap.isSome ∧ s.member.collection.isSome then s.abandon .gap else s)

/-- SILENCE_TIMER_EXPIRY (R73, R77, R78): the timer holds the lease, the mark is set, and EVICT is posted if none stands; where the
station was heard first, nothing follows (R74). -/
def execSilenceTimerExpiry (station : Station) (s : State) : Result :=
  .next (s.whenRunning fun s =>
    s.takeRow (.silenceTimerExpiry station) (reached (durationMs s.lease.code) s.lease.silence[station]) fun s =>
      if s.lease.silence[station].isSome then
        { s with lease := { s.lease with
            silence := s.lease.silence.set station (some (durationMs s.lease.code))
            marks := s.lease.marks.set station true } }.standEvict
      else s)

/-- QUIET_TIMER_EXPIRY (R76): the quiet timer has reached the renew interval; ALIVE is posted. Where an own completion was taken first, the
timer has restarted and no ALIVE is posted. -/
def execQuietTimerExpiry (s : State) : Result :=
  .next (s.whenRunning fun s =>
    s.takeRow .quietTimerExpiry (reached s.lease.renewal s.lease.quiet) fun s =>
      match s.lease.quiet with
      | some n => { s with lease := { s.lease with quiet := some (max n s.lease.renewal) } }.send .alive
      | none => s)

/-- RAMP_TIMER_EXPIRY (R98). -/
def execRampTimerExpiry (load : LoadIx) (s : State) : Result :=
  .next (s.whenRunning fun s =>
    s.takeRow (.rampTimerExpiry load) (ended (s.load load).ramp) fun s =>
      if (s.load load).state = .ramping then (s.endRamp load).settle else s)

/-- FREEZE_TIMER_EXPIRY (R140): the timer stops, the thaw mark is set, and THAW is posted where the state allows it; where a FREEZE was
applied first, the timer has restarted and nothing follows. -/
def execFreezeTimerExpiry (s : State) : Result :=
  .next (s.whenRunning fun s =>
    s.takeRow .freezeTimerExpiry (ended s.freeze.timer) fun s =>
      if s.freeze.timer.isSome then
        { s with freeze := { s.freeze with timer := none, thawMark := true } }.standThaw
      else s)

end Sys2Proof.Machine
end

