-- ==== Sys2Proof/Machine/Dispatch.lean ====
section
/-! DEFINITION. One arm per command: each is one direct call of its meaning. -/

namespace Sys2Proof.Machine

def exec (i : Instr) (s : State) : Host.Outcome State Fault Refusal :=
  match i with
  | .powerOnResetBegin => Sys2Proof.Machine.execPowerOnResetBegin s
  | .powerOnReset straps => Sys2Proof.Machine.execPowerOnReset straps s
  | .rstnAsserted => Sys2Proof.Machine.execRstnAsserted s
  | .rstnReleased => Sys2Proof.Machine.execRstnReleased s
  | .start arg => Sys2Proof.Machine.execStart arg s
  | .request arg => Sys2Proof.Machine.execRequest arg s
  | .withdraw arg => Sys2Proof.Machine.execWithdraw arg s
  | .setLevel arg => Sys2Proof.Machine.execSetLevel arg s
  | .inhibit arg => Sys2Proof.Machine.execInhibit arg s
  | .permit arg => Sys2Proof.Machine.execPermit arg s
  | .clearFault arg => Sys2Proof.Machine.execClearFault arg s
  | .sendGroup arg => Sys2Proof.Machine.execSendGroup arg s
  | .setCap arg => Sys2Proof.Machine.execSetCap arg s
  | .freeze arg => Sys2Proof.Machine.execFreeze arg s
  | .detach arg => Sys2Proof.Machine.execDetach arg s
  | .rejoin arg => Sys2Proof.Machine.execRejoin arg s
  | .resetStation arg => Sys2Proof.Machine.execResetStation arg s
  | .unassignedCommand code arg => Sys2Proof.Machine.execUnassignedCommand code arg s
  | .eventARead emptyAtFix => Sys2Proof.Machine.execEventARead emptyAtFix s
  | .statusWrite value => Sys2Proof.Machine.execStatusWrite value s
  | .settingDataWrite value => Sys2Proof.Machine.execSettingDataWrite value s
  | .registerWrite addr value => Sys2Proof.Machine.execRegisterWrite addr value s
  | .contention => Sys2Proof.Machine.execContention s
  | .arbitrationLost => Sys2Proof.Machine.execArbitrationLost s
  | .itemLatch => Sys2Proof.Machine.execItemLatch s
  | .transmitFailure => Sys2Proof.Machine.execTransmitFailure s
  | .lineError => Sys2Proof.Machine.execLineError s
  | .integrationComplete => Sys2Proof.Machine.execIntegrationComplete s
  | .frameDiscarded why => Sys2Proof.Machine.execFrameDiscarded why s
  | .capFrame src base value slots => Sys2Proof.Machine.execCapFrame src base value slots s
  | .evictFrame src base target slots => Sys2Proof.Machine.execEvictFrame src base target slots s
  | .releaseFrame src base amounts slots => Sys2Proof.Machine.execReleaseFrame src base amounts slots s
  | .leaveFrame src base slots => Sys2Proof.Machine.execLeaveFrame src base slots s
  | .freezeFrame src base duration slots => Sys2Proof.Machine.execFreezeFrame src base duration slots s
  | .thawFrame src base slots => Sys2Proof.Machine.execThawFrame src base slots s
  | .joinFrame src base slots => Sys2Proof.Machine.execJoinFrame src base slots s
  | .claimFrame src base cls units tag slots => Sys2Proof.Machine.execClaimFrame src base cls units tag slots s
  | .aliveFrame src => Sys2Proof.Machine.execAliveFrame src s
  | .seekFrame src => Sys2Proof.Machine.execSeekFrame src s
  | .imageFrame src seg => Sys2Proof.Machine.execImageFrame src seg s
  | .groupFrame src code => Sys2Proof.Machine.execGroupFrame src code s
  | .fairGapExpiry => Sys2Proof.Machine.execFairGapExpiry s
  | .seekWaitExpiry => Sys2Proof.Machine.execSeekWaitExpiry s
  | .imageGapExpiry => Sys2Proof.Machine.execImageGapExpiry s
  | .silenceTimerExpiry station => Sys2Proof.Machine.execSilenceTimerExpiry station s
  | .quietTimerExpiry => Sys2Proof.Machine.execQuietTimerExpiry s
  | .rampTimerExpiry load => Sys2Proof.Machine.execRampTimerExpiry load s
  | .freezeTimerExpiry => Sys2Proof.Machine.execFreezeTimerExpiry s
  | .reqDebouncedChange load asserted => Sys2Proof.Machine.execReqDebouncedChange load asserted s
  | .rdyDebouncedChange load asserted => Sys2Proof.Machine.execRdyDebouncedChange load asserted s
  | .limitDebouncedChange asserted => Sys2Proof.Machine.execLimitDebouncedChange asserted s
  | .trgDebouncedAssertion trigger => Sys2Proof.Machine.execTrgDebouncedAssertion trigger s
  | .ackObjSlotDrive src base => Sys2Proof.Machine.execAckObjSlotDrive src base s

end Sys2Proof.Machine
end

