-- ==== Sys2Proof/Machine/Time.lean ====
section
/-! DEFINITION. One millisecond of the part's time base: every timer counts, and the rows of the timers that run out and of the inputs that settle are put into the queue. -/

namespace Sys2Proof.Machine

/-! ## Counters -/

/-- A stability count one millisecond on: up while the raw level differs, 0 where it agrees (R90). -/
def Debouncer.tick (d : Debouncer) (raw : Bool) : Debouncer :=
  if raw = d.level then { d with count := 0 } else { d with count := d.count + 1 }

/-- The count reaches the debounce time with this millisecond (R90). -/
def Debouncer.due (d : Debouncer) (raw : Bool) (time : Nat) : Bool := decide (raw ≠ d.level) && decide (time ≤ d.count + 1)

/-- A trigger debouncer: a deassertion that settles is no row of the table and is taken here. -/
def Debouncer.tickTrigger (d : Debouncer) (raw : Bool) : Debouncer :=
  if !raw && d.due raw Config.longDebounceMs then { level := false, count := 0 } else d.tick raw

/-- A timer that counts its time remaining down, and stays at 0 until its expiry is taken. -/
def countDown (t : Option Nat) : Option Nat := t.map fun n => n - 1

/-- A count-down timer reaches 0 with this millisecond. -/
def runsOut (t : Option Nat) : Bool := t == some 1

/-- A silence timer: up to the lease, which it holds (R73). -/
def silenceTick (lease : Nat) (t : Option Nat) : Option Nat := t.map fun n => if n < lease then n + 1 else n

/-- A silence timer reaches the lease with this millisecond. -/
def silenceDue (lease : Nat) (t : Option Nat) : Bool :=
  match t with
  | some n => decide (n < lease) && decide (lease ≤ n + 1)
  | none => false

/-- The quiet timer arrives at the renew interval with this millisecond (R76), whatever stands on the send list. A count beyond the interval
has an ALIVE item, but where installation or founding has shortened the interval below the count: it is then reached with the next
millisecond (DESIGN CHOICE, log 16). -/
def Lease.quietDue (l : Lease) (hasAlive : Bool) : Bool :=
  l.quiet.any fun n => decide (n + 1 = l.renewal) || (!hasAlive && decide (l.renewal ≤ n + 1))

/-! ## The rows that a millisecond brings -/

/-- Inputs whose stability count reaches the debounce time (R90, R91, R126, R147). -/
def State.settledInputs (s : State) : List Instr :=
  (allLoads.filter fun x => s.loads.req[x].due s.pins.req[x] (s.cfg x).debounce.ms).map
      (fun x => .reqDebouncedChange x s.pins.req[x])
    ++ (allLoads.filter fun x => s.loads.rdy[x].due s.pins.rdy[x] Config.shortDebounceMs).map
      (fun x => .rdyDebouncedChange x s.pins.rdy[x])
    ++ (if s.cap.limit.due s.pins.limit Config.longDebounceMs then [.limitDebouncedChange s.pins.limit] else [])
    ++ ((List.finRange 2).filter fun t => s.pins.trg[t] && s.group.trg[t].due s.pins.trg[t] Config.longDebounceMs).map
      Instr.trgDebouncedAssertion

/-- Timers that reach their ends. -/
def State.expiredTimers (s : State) : List Instr :=
  (allLoads.filter fun x => runsOut (s.load x).ramp).map Instr.rampTimerExpiry
    ++ (if runsOut s.freeze.timer then [.freezeTimerExpiry] else [])
    ++ (if runsOut s.member.seekWait then [.seekWaitExpiry] else [])
    ++ (if runsOut s.member.imageGap then [.imageGapExpiry] else [])
    ++ (if runsOut s.bus.fairGap then [.fairGapExpiry] else [])
    ++ (allStations.filter fun q => silenceDue (durationMs s.lease.code) s.lease.silence[q]).map Instr.silenceTimerExpiry
    ++ (if s.lease.quietDue (s.bus.has .alive) then [.quietTimerExpiry] else [])

/-! ## The millisecond -/

/-- Every ramp timer counts (R98). -/
def Loads.tick (l : Loads) (pins : Pins) : Loads :=
  { l with
    records := l.records.map fun r => { r with ramp := countDown r.ramp }
    req := Vector.ofFn fun x => l.req[x].tick pins.req[x]
    rdy := Vector.ofFn fun x => l.rdy[x].tick pins.rdy[x] }

/-- The three bits of the gap have passed within a millisecond (R25). -/
def Line.afterGap : Line → Line
  | .gap => .idle
  | l => l

/-- One millisecond of the time base; none passes for a part held in reset. -/
def State.tick (s : State) : State :=
  s.whenRunning fun s =>
    { s with
      pending := s.pending ++ s.settledInputs ++ s.expiredTimers
      due := s.settledInputs ++ s.expiredTimers
      loads := s.loads.tick s.pins
      cap := { s.cap with limit := s.cap.limit.tick s.pins.limit }
      group := { s.group with trg := Vector.ofFn fun t => s.group.trg[t].tickTrigger s.pins.trg[t] }
      freeze := { s.freeze with timer := countDown s.freeze.timer }
      member := { s.member with seekWait := countDown s.member.seekWait, imageGap := countDown s.member.imageGap }
      bus := { s.bus with line := s.bus.line.afterGap, fairGap := countDown s.bus.fairGap }
      lease := { s.lease with
        silence := s.lease.silence.map (silenceTick (durationMs s.lease.code))
        quiet := s.lease.quiet.map (· + 1) } }

end Sys2Proof.Machine
end

