-- ==== Sys2Proof/Machine/Wire.lean ====
section
/-! DEFINITION. Frames as bits on the line (2.1 to 2.5): levels, layouts, the frame check code, stuffing, arbitration, and the classification of what is read. A level is true when recessive (1). -/

namespace Sys2Proof.Machine

/-! ## The line (R23) -/

/-- The line is recessive when no node drives it dominant. -/
def lineLevel (sent : List Bool) : Bool := sent.all id

/-- The bit time in microseconds of a valid bit rate code (R23, Table 10.3). -/
def bitTimeUs (code : BitVec 2) : Option Nat :=
  match code.toNat with
  | 0 => some 8
  | 1 => some 4
  | 2 => some 2
  | _ => none

/-! ## Layouts (Tables 2.4 and 2.5, R27) -/

/-- The bits of a number in a field, most significant first. -/
def natBits (width n : Nat) : List Bool := (List.range width).reverse.map n.testBit

/-- The bits of a word, most significant first. -/
def bitsOf {w : Nat} (v : BitVec w) : List Bool := natBits w v.toNat

/-- Padding bits are sent dominant. -/
def padding (n : Nat) : List Bool := List.replicate n false

/-- The four 11-bit amounts, class 0 first. -/
def amountBits (a : Vector (BitVec 11) 4) : List Bool := bitsOf a[0] ++ bitsOf a[1] ++ bitsOf a[2] ++ bitsOf a[3]

/-- The base fields. -/
def baseBits (b : Base) : List Bool := bitsOf b.commit ++ bitsOf b.check

/-- The fields after the base (Table 2.4). -/
def changeBits : Change → List Bool
  | .cap v => bitsOf v
  | .evict t => natBits 5 t.val ++ padding 3
  | .release a => amountBits a
  | .leave | .thaw | .join => []
  | .freeze d => bitsOf d ++ padding 1
  | .claim k u tag => natBits 2 k.val ++ bitsOf u ++ natBits 3 tag.val ++ padding 3

/-- The header of an image (Table 2.5). -/
def headerBits (h : ImageHeader) : List Bool :=
  bitsOf h.commit ++ bitsOf h.check ++ bitsOf h.cap ++ [h.frozen] ++ bitsOf h.remaining ++ bitsOf h.lease ++ padding 1

/-- One station entry. -/
def entryBits (e : WireEntry) : List Bool := e.member :: amountBits e.held

/-- A segment with its index. -/
def segmentBits : Segment → List Bool
  | .header h => natBits 4 0 ++ headerBits h
  | .entries i rows => natBits 4 (i.val + 1) ++ entryBits rows[0] ++ entryBits rows[1] ++ entryBits rows[2] ++ entryBits rows[3]

/-- The body of a frame. -/
def bodyBits : FrameBody → List Bool
  | .change b c => baseBits b ++ changeBits c
  | .alive | .seek => []
  | .image seg => segmentBits seg
  | .group code => bitsOf code

/-- The arbitration field: kind code, then source address (Table 2.1). -/
def arbitrationBits (k : FrameKind) (q : Station) : List Bool := natBits 4 k.code.val ++ natBits 5 q.val

/-- Body bits of a kind; for IMAGE by its segment index (Table 2.2). -/
def bodyLength : FrameKind → Nat → Nat
  | .cap, _ => 48 | .evict, _ => 40 | .release, _ => 76 | .alive, _ => 0 | .leave, _ => 32 | .freeze, _ => 40
  | .thaw, _ => 32 | .join, _ => 32 | .claim, _ => 48 | .seek, _ => 0 | .group, _ => 8
  | .image, 0 => 68
  | .image, _ => 184

/-! ## The frame check code (R28) -/

/-- One bit of the computation. -/
def crcStep (r : Word16) (b : Bool) : Word16 :=
  if r.getLsbD 15 ^^ b then (r <<< 1) ^^^ 0x1021 else r <<< 1

/-- The frame check code of the arbitration field and body. -/
def frameCheck (bits : List Bool) : Word16 := bits.foldl crcStep 0xFFFF

/-! ## Stuffing (R24) -/

/-- The stuffed region as sent, with the run of recessive bits sent before it. -/
def stuff : Nat → List Bool → List Bool
  | _, [] => []
  | run, b :: bs =>
    if run = 4 then false :: b :: stuff (if b then 1 else 0) bs else b :: stuff (if b then run + 1 else 0) bs

/-- Take `n` bits of the stuffed region from the line: the bits, the run after them, and the rest. A fifth recessive bit in a row is a
stuffing violation, and so is a line that ends too soon, since it stays recessive (R29). -/
def unstuff : Nat → Nat → List Bool → Option (List Bool × Nat × List Bool)
  | 0, run, bs => some ([], run, bs)
  | _ + 1, _, [] => none
  | n + 1, run, b :: bs =>
    if run = 4 then (if b then none else unstuff (n + 1) 0 bs)
    else (unstuff n (if b then run + 1 else 0) bs).map fun r => (b :: r.1, r.2)
  termination_by structural _ _ bs => bs

/-! ## The frame as sent (Table 2.1) -/

/-- What the check code covers: arbitration field and body. -/
def coveredBits (q : Station) (body : FrameBody) : List Bool := arbitrationBits body.kind q ++ bodyBits body

/-- The stuffed region without stuff bits: start bit, arbitration field, body, check code. -/
def regionBits (q : Station) (body : FrameBody) : List Bool :=
  false :: coveredBits q body ++ bitsOf (frameCheck (coveredBits q body))

/-- The frame on the line with the slots as its receivers drive them (a driven slot is dominant) and seven recessive end bits. -/
def lineBits (q : Station) (body : FrameBody) (slots : Slots) : List Bool :=
  stuff 0 (regionBits q body) ++ [!slots.ack, !slots.obj] ++ List.replicate 7 true

/-! ## Reading a frame (R27, R29) -/

/-- The number that a field of bits holds. -/
def fieldNat (bits : List Bool) : Nat := bits.foldl (fun n b => 2 * n + bit b) 0

/-- `width` bits from place `start` of a body. -/
def field (bits : List Bool) (start width : Nat) : Nat := fieldNat ((bits.drop start).take width)

/-- The same as a word. -/
def fieldWord (w : Nat) (bits : List Bool) (start : Nat) : BitVec w := .ofNat w (field bits start w)

/-- Four 11-bit amounts from a place of a body. -/
def amountsAt (bits : List Bool) (start : Nat) : Vector (BitVec 11) 4 :=
  #v[fieldWord 11 bits start, fieldWord 11 bits (start + 11), fieldWord 11 bits (start + 22), fieldWord 11 bits (start + 33)]

/-- A station entry from a place of a body. -/
def entryAt (bits : List Bool) (start : Nat) : WireEntry :=
  { member := field bits start 1 == 1, held := amountsAt bits (start + 1) }

/-- The base fields of a body. -/
def baseOf (bits : List Bool) : Base := { commit := fieldWord 16 bits 0, check := fieldWord 16 bits 16 }

/-- The segment that the body of an IMAGE frame holds; none for an index of 9..15. -/
def segmentOf (bits : List Bool) : Option Segment :=
  let index := field bits 0 4
  if index = 0 then
    some (.header
      { commit := fieldWord 16 bits 4, check := fieldWord 16 bits 20, cap := fieldWord 16 bits 36
        frozen := field bits 52 1 == 1, remaining := fieldWord 7 bits 53, lease := fieldWord 7 bits 60 })
  else if index ≤ 8 then
    some (.entries (Fin.ofNat 8 (index - 1)) #v[entryAt bits 4, entryAt bits 49, entryAt bits 94, entryAt bits 139])
  else none

/-- The body that a kind's bits hold. Padding is ignored. -/
def bodyOf (k : FrameKind) (bits : List Bool) : Option FrameBody :=
  match k with
  | .cap => some (.change (baseOf bits) (.cap (fieldWord 16 bits 32)))
  | .evict => some (.change (baseOf bits) (.evict (Fin.ofNat 32 (field bits 32 5))))
  | .release => some (.change (baseOf bits) (.release (amountsAt bits 32)))
  | .alive => some .alive
  | .leave => some (.change (baseOf bits) .leave)
  | .freeze => some (.change (baseOf bits) (.freeze (fieldWord 7 bits 32)))
  | .thaw => some (.change (baseOf bits) .thaw)
  | .join => some (.change (baseOf bits) .join)
  | .claim =>
    some (.change (baseOf bits) (.claim (Fin.ofNat 4 (field bits 32 2)) (fieldWord 8 bits 34) (Fin.ofNat 8 (field bits 42 3))))
  | .image => (segmentOf bits).map .image
  | .seek => some .seek
  | .group => some (.group (fieldWord 8 bits 0))

/-- The kind of a code: 12..15 are not assigned. -/
def kindOf (code : Nat) : Option FrameKind := FrameKind.all.find? fun k => k.code.val == code

/-- How a followed frame is classified (R29). -/
inductive Reception
  | discarded (why : DiscardReason)
  | intact (src : Station) (body : FrameBody) (slots : Slots)
  deriving DecidableEq, Repr

/-- The end of a frame whose body has been taken: check code, slots, end bits. -/
def receiveEnd (covered : List Bool) (q : Station) (body : FrameBody) (run : Nat) (line : List Bool) : Reception :=
  match unstuff 16 run line with
  | none => .discarded .stuffing
  | some (code, _, rest) =>
    if rest.length < 9 then .discarded .stuffing
    else if !((rest.drop 2).take 7).all id then .discarded .dominantEnd
    else if fieldWord 16 code 0 ≠ frameCheck covered then .discarded .badCheck
    else .intact q body { ack := rest.head? == some false, obj := (rest.drop 1).head? == some false }

/-- The body of a frame of known kind and source, its first `pre` bits already taken. -/
def receiveBody (arb pre : List Bool) (k : FrameKind) (len run : Nat) (line : List Bool) : Reception :=
  match unstuff (len - pre.length) run line with
  | none => .discarded .stuffing
  | some (more, run, line) =>
    match bodyOf k (pre ++ more) with
    | some body => receiveEnd (arb ++ pre ++ more) (Fin.ofNat 32 (field arb 4 5)) body run line
    | none => .discarded .unknownSegment

/-- A frame read from its start bit on. -/
def receive (line : List Bool) : Reception :=
  match unstuff 10 0 line with
  | none => .discarded .stuffing
  | some (head, run, rest) =>
    let arb := head.drop 1
    match kindOf (field arb 0 4) with
    | none => .discarded .unknownKind
    | some .image =>
      match unstuff 4 run rest with
      | none => .discarded .stuffing
      | some (index, run, rest) =>
        if 8 < field index 0 4 then .discarded .unknownSegment
        else receiveBody arb index .image (bodyLength .image (field index 0 4)) run rest
    | some k => receiveBody arb [] k (bodyLength k 0) run rest

/-- The row of the opcode table that the end of a followed frame is. -/
def Reception.instr : Reception → Instr
  | .discarded why => .frameDiscarded why
  | .intact q (.change b c) slots =>
    match c with
    | .cap v => .capFrame q b v slots
    | .evict t => .evictFrame q b t slots
    | .release a => .releaseFrame q b a slots
    | .leave => .leaveFrame q b slots
    | .freeze d => .freezeFrame q b d slots
    | .thaw => .thawFrame q b slots
    | .join => .joinFrame q b slots
    | .claim k u tag => .claimFrame q b k u tag slots
  | .intact q .alive _ => .aliveFrame q
  | .intact q .seek _ => .seekFrame q
  | .intact q (.image seg) _ => .imageFrame q seg
  | .intact q (.group code) _ => .groupFrame q code

/-! ## Arbitration (R26, R38) -/

/-- How a comparison of sent with read bits ends, with the place of the difference. -/
inductive Comparison
  | won
  | lost (place : Nat)
  | failed (place : Nat)
  deriving DecidableEq, Repr

/-- The comparison in the arbitration field: recessive sent and dominant read is lost arbitration; dominant sent and recessive read is
a transmit failure. -/
def arbitrate : Nat → List Bool → List Bool → Comparison
  | place, s :: sent, r :: read =>
    if s = r then arbitrate (place + 1) sent read else if s then .lost place else .failed place
  | _, _, _ => .won

/-- The comparison after the arbitration field: any difference is a transmit failure. -/
def compareSent : Nat → List Bool → List Bool → Comparison
  | place, s :: sent, r :: read => if s = r then compareSent (place + 1) sent read else .failed place
  | _, _, _ => .won

/-- The 9-bit arbitration value: the lowest wins. -/
def arbitrationValue (k : FrameKind) (q : Station) : Nat := 32 * k.code.val + q.val

end Sys2Proof.Machine
end

