-- ==== Sys2Proof/Safety.lean ====
section
/-! DEFINITION. What stays true of the part at every step: the bounds and agreements that the spec states of its state. -/

namespace Sys2Proof.Machine

/-- The event queue holds at most 16 records (R158). -/
def Port.sound (p : Port) : Prop := p.events.length ≤ Config.maxEvents

/-- The send list holds at most one item of each kind other than GROUP, each with an attempt count below 4, and at most 4 codes; the
failure count of a node that has not detached is below 16 (R35, R39, R40). -/
def Bus.sound (b : Bus) : Prop :=
  (b.items.map (·.kind)).Nodup ∧ (∀ i ∈ b.items, i.kind ≠ .group ∧ i.attempts < Config.maxAttempts)
    ∧ b.codes.length ≤ Config.maxCodes ∧ b.failures < Config.failureLimit

/-- Every holding lies in 0..2047, and an ABSENT entry holds 0 in every class (R2). -/
def Entry.sound (e : Entry) : Prop := ∀ k : ClassIx, e.held[k] ≤ Config.maxHolding ∧ (e.member = false → e.held[k] = 0)

/-- Every entry of a table is sound. -/
def entriesSound (es : Vector Entry 32) : Prop := ∀ q : Station, es[q].sound

/-- The table, and the shadow table of a collection in progress (R2, R59). -/
def State.tablesSound (s : State) : Prop :=
  entriesSound s.table.entries ∧ ∀ c, s.member.collection = some c → entriesSound c.entries

/-- The pending change list is bounded, and what belongs to seeking is found in SEEKING alone (R57, R58, R49, R51). -/
def Membership.sound (m : Membership) : Prop :=
  m.changes.length ≤ Config.maxChanges ∧ m.seekCount ≤ Config.seekAttempts
    ∧ (m.participation ≠ .seeking →
        m.changes = [] ∧ m.recording = false ∧ m.seekWait = none ∧ m.collection = none)

/-- In SETUP and DETACHED every load output is off, the table is empty, the send list is empty and the line is not followed (R8, R23,
R69). -/
def State.parkedSound (s : State) : Prop :=
  s.member.participation.onLine = false →
    s.table = .empty ∧ s.bus.items = [] ∧ s.bus.codes = [] ∧ s.bus.line = .off
      ∧ ∀ x : LoadIx, (s.load x).state.energized = false

/-- One load record agrees with itself: an inhibited load is in OFF or FAULT (R88), a load in KEEP has the wish KEEP and a raising load
the wish FULL (Table 5.4), the ramp timer runs in RAMPING alone, a fault cause stands in FAULT alone (R87). -/
def LoadRecord.sound (r : LoadRecord) : Prop :=
  (r.inhibited = true → r.state = .off ∨ r.state = .fault)
    ∧ (r.state = .keep → r.wish = .keep)
    ∧ (r.state = .raiseWait ∨ r.state = .raiseClaim → r.wish = .full)
    ∧ (r.ramp.isSome = true → r.state = .ramping)
    ∧ (r.cause ≠ .none → r.state = .fault)

/-- Every load record agrees with itself. -/
def State.recordsSound (s : State) : Prop := ∀ x : LoadIx, (s.load x).sound

/-- The demand queue holds exactly the loads in the queued states, and the grant list exactly the energized loads, each once (R87,
R108). -/
def State.listsSound (s : State) : Prop :=
  s.demand.queue.Nodup ∧ s.loads.grants.Nodup
    ∧ ∀ x : LoadIx, (x ∈ s.demand.queue ↔ (s.load x).state.queued = true)
        ∧ (x ∈ s.loads.grants ↔ (s.load x).state.energized = true)

/-- The demand queue is ordered by class (R108); in SETUP, where a class can be written, it is empty and the line is not followed. -/
def State.queueSound (s : State) : Prop :=
  s.demand.queue.Pairwise (fun x y => (s.cfg x).cls ≤ (s.cfg y).cls)
    ∧ (s.member.participation = .setup → s.demand.queue = [] ∧ s.bus.line = .off)

/-! ## The balance of holdings (R120) -/

/-- The units that a claim asks for are those its load lacks of the full level, in the load's class (R111). -/
def State.claimFits (s : State) (c : ClaimSlot) : Prop :=
  (s.load c.load).state.claims = true ∧ (s.cfg c.load).cls = c.cls ∧ s.occupied c.load + c.units = (s.cfg c.load).full.toNat

/-- The withdrawal of the claim contended with is held (R113). -/
def Bus.claimHeld (b : Bus) : Bool := b.contends .claim && b.withdrawHeld

/-- The claim slot: it is filled in step alone; its claim fits its load but where it is orphaned or its withdrawal is held; a load that
claims is the slot's; a CLAIM in flight is the slot's, latched; a CLAIM item stands for a filled slot; and a withdrawal is held for an item
contended with (R44, R113). -/
def State.slotSound (s : State) : Prop :=
  (∀ c, s.demand.slot = some c → s.member.participation.inStep = true ∧ c.units ≤ 255
      ∧ (c.orphaned = true ∨ s.bus.claimHeld = true ∨ s.claimFits c))
    ∧ (∀ x : LoadIx, (s.load x).state.claims = true →
        s.bus.claimHeld = false ∧ ∃ c, s.demand.slot = some c ∧ c.load = x ∧ c.orphaned = false)
    ∧ (∀ b k u tag, s.bus.line = .sending (.change b (.claim k u tag)) →
        ∃ c, s.demand.slot = some c ∧ c.latched = true ∧ c.cls = k ∧ c.units = u.toNat)
    ∧ (s.bus.contends .claim = true → s.bus.has .claim = true)
    ∧ (∀ i ∈ s.bus.items, i.kind = .claim → i.postedAgain = false ∧ s.demand.slot.isSome = true)
    ∧ (s.bus.withdrawHeld = true → ∃ k, s.bus.line = .contending k)

/-- The latched amounts are those of the RELEASE in flight, and 0 where none is (R120). -/
def State.latchSound (s : State) : Prop :=
  (∀ b a, s.bus.line = .sending (.change b (.release a)) → ∀ k : ClassIx, (a[k]).toNat = s.demand.latchedUnits[k])
    ∧ ((∀ b a, s.bus.line ≠ .sending (.change b (.release a))) → s.demand.latchedUnits = .replicate 4 0)

/-- In a running part that is in step, each class's occupied units and release account together are the own entry's holding (R120). The
rest is what this rests on: keep levels below full once started (R155), an ABSENT own entry in JOINING, LEAVE posted in LEAVING alone,
state-changing frames sent in step alone, the claim slot and the latched amounts. -/
def State.balanceSound (s : State) : Prop :=
  s.power.running = true →
    (s.member.participation ≠ .setup → ∀ x : LoadIx, (s.cfg x).keep.toNat ≤ (s.cfg x).full.toNat)
    ∧ (s.member.participation = .joining → s.table.entries[s.address].member = false)
    ∧ (s.bus.has .leave = true ∨ s.bus.contends .leave = true ∨ s.bus.latched .leave = true → s.member.participation = .leaving)
    ∧ (∀ k : FrameKind, k.changes = true → s.bus.contends k = true ∨ s.bus.latched k = true → s.member.participation.inStep = true)
    ∧ s.slotSound ∧ s.latchSound
    ∧ (s.member.participation.inStep = true → ∀ k : ClassIx,
        s.occupiedIn k + s.demand.openUnits[k] + s.demand.latchedUnits[k] = s.table.entries[s.address].held[k])

/-- What a reset leaves (R160, R161): every field at its reset value but the queue, the pins, and the settings, enables and address that
are given. -/
def State.afterReset (s : State) (address : Station) (settings : Settings) (enables : BitVec 18) (cause : ResetCause) : State :=
  { State.reset with
    pending := s.pending
    due := s.due
    pins := s.pins
    address := address
    settings := settings
    lease := .stopped settings.lease
    port := { Port.reset enables cause with
      events := if enables.getLsbD 0 then [{ code := .phase, arg := 0, commit := 0 }] else [] } }

/-- A command that leaves only its word and a result behind (R153, R156). -/
def State.answered (s : State) (code arg : Byte) (r : CommandResult) (bad : Byte) : State :=
  { s with port := { s.port with command := code ++ arg, result := r, badIndex := bad } }

/-- What composition at the end of a handling can make of a load state: itself, or a queued load's claim (R111). -/
def LoadState.composedTo (a b : LoadState) : Prop := b = a ∨ (a = .waiting ∧ b = .claiming) ∨ (a = .raiseWait ∧ b = .raiseClaim)

/-- The end of a state-changing frame as the row of its kind. -/
def changeFrame (q : Station) (b : Base) (c : Change) (slots : Slots) : Instr :=
  match c with
  | .cap v => .capFrame q b v slots
  | .evict t => .evictFrame q b t slots
  | .release a => .releaseFrame q b a slots
  | .leave => .leaveFrame q b slots
  | .freeze d => .freezeFrame q b d slots
  | .thaw => .thawFrame q b slots
  | .join => .joinFrame q b slots
  | .claim k u tag => .claimFrame q b k u tag slots

end Sys2Proof.Machine
end

