-- ==== Sys2Proof/Certificates/Slice0/Obligations.lean ====
section
/-! DEFINITION. The statements for the provers. Each is about one node; a statement about a command concludes that the command answers a next state. -/

open Sys2Proof Sys2Proof.Machine

/-! ## The queue and the time base -/

/-- The command at the front of the queue is run on the state with the rest of the queue. -/
def Obligations.StepRunsFrontCommand : Prop :=
  ∀ (s : State) (c : Instr) (rest : List Instr),
    step { s with pending := c :: rest } = exec c { s with pending := rest }

/-- On an empty queue one millisecond passes (the model's choice, log 1): none for a part held in reset; else the rows of what has settled
or run out enter the queue and are due (log 5), every timer and debouncer counts, a gap on the line ends, and nothing else changes: the seek
wait, the image gap, the fair gap, the freeze timer and every ramp timer by one down, a silence timer up to the lease, the quiet timer up. The
quiet timer's row comes where the count arrives at the renew interval, and where it stands beyond it while no ALIVE item stands (log 16). -/
def Obligations.EmptyQueueIsOneMillisecond : Prop :=
  ∀ s : State, s.pending = [] → ∃ t, step s = .next t
    ∧ (s.power.running = false → t = s)
    ∧ (s.power.running = true →
      t = { s with
        pending := t.pending, due := t.pending, loads := { s.loads with records := t.loads.records, req := t.loads.req, rdy := t.loads.rdy }
        cap := { s.cap with limit := t.cap.limit }, group := t.group, freeze := { s.freeze with timer := t.freeze.timer }
        member := { s.member with seekWait := t.member.seekWait, imageGap := t.member.imageGap }
        bus := { s.bus with line := t.bus.line, fairGap := t.bus.fairGap }
        lease := { s.lease with silence := t.lease.silence, quiet := t.lease.quiet } }
      ∧ t.bus.line = (if s.bus.line = .gap then .idle else s.bus.line)
      ∧ (t.member.seekWait = s.member.seekWait.map (· - 1) ∧ (.seekWaitExpiry ∈ t.pending ↔ s.member.seekWait = some 1))
      ∧ (t.member.imageGap = s.member.imageGap.map (· - 1) ∧ (.imageGapExpiry ∈ t.pending ↔ s.member.imageGap = some 1))
      ∧ (t.bus.fairGap = s.bus.fairGap.map (· - 1) ∧ (.fairGapExpiry ∈ t.pending ↔ s.bus.fairGap = some 1))
      ∧ (t.freeze.timer = s.freeze.timer.map (· - 1) ∧ (.freezeTimerExpiry ∈ t.pending ↔ s.freeze.timer = some 1))
      ∧ (∀ x : LoadIx, t.load x = { s.load x with ramp := (s.load x).ramp.map (· - 1) }
          ∧ (.rampTimerExpiry x ∈ t.pending ↔ (s.load x).ramp = some 1))
      ∧ (∀ q : Station, t.lease.silence[q] = (s.lease.silence[q]).map (fun n => if n < durationMs s.lease.code then n + 1 else n)
          ∧ (.silenceTimerExpiry q ∈ t.pending ↔ ∃ n, s.lease.silence[q] = some n ∧ n + 1 = durationMs s.lease.code))
      ∧ (t.lease.quiet = s.lease.quiet.map (· + 1)
          ∧ (.quietTimerExpiry ∈ t.pending ↔ ∃ n, s.lease.quiet = some n
              ∧ (n + 1 = max 1 (renewMs s.lease.code) ∨ s.bus.has .alive = false ∧ max 1 (renewMs s.lease.code) ≤ n + 1)))
      ∧ (∀ x : LoadIx,
          t.loads.req[x] = { s.loads.req[x] with count := if s.pins.req[x] = (s.loads.req[x]).level then 0 else (s.loads.req[x]).count + 1 }
          ∧ (∀ b, .reqDebouncedChange x b ∈ t.pending ↔
              b = s.pins.req[x] ∧ b ≠ (s.loads.req[x]).level ∧ (s.cfg x).debounce.ms ≤ (s.loads.req[x]).count + 1)
          ∧ t.loads.rdy[x] = { s.loads.rdy[x] with count := if s.pins.rdy[x] = (s.loads.rdy[x]).level then 0 else (s.loads.rdy[x]).count + 1 }
          ∧ (∀ b, .rdyDebouncedChange x b ∈ t.pending ↔ b = s.pins.rdy[x] ∧ b ≠ (s.loads.rdy[x]).level))
      ∧ (t.cap.limit = { s.cap.limit with count := if s.pins.limit = s.cap.limit.level then 0 else s.cap.limit.count + 1 }
          ∧ (∀ b, .limitDebouncedChange b ∈ t.pending ↔ b = s.pins.limit ∧ b ≠ s.cap.limit.level ∧ 32 ≤ s.cap.limit.count + 1))
      ∧ ∀ i : Fin 2,
          (.trgDebouncedAssertion i ∈ t.pending ↔
            s.pins.trg[i] = true ∧ (s.group.trg[i]).level = false ∧ 32 ≤ (s.group.trg[i]).count + 1)
          ∧ t.group.trg[i] =
            (if s.pins.trg[i] = (s.group.trg[i]).level then { s.group.trg[i] with count := 0 }
             else if s.pins.trg[i] = false ∧ 32 ≤ (s.group.trg[i]).count + 1 then { level := false, count := 0 }
             else { s.group.trg[i] with count := (s.group.trg[i]).count + 1 }))

/-- Every command answers a next state, and no command touches the queue. While a reset lasts nothing but the four reset rows acts: the model
reads it so of every row (DEDUCED, log 15); R151, R160 and R161 say it of the port and of the pins. -/
def Obligations.EveryCommandAnswersNext : Prop :=
  (∀ (c : Instr) (s : State), ∃ t, exec c s = .next t ∧ t.pending = s.pending)
  ∧ (∀ (c : Instr) (s : State), s.power.running = false →
    c ≠ .powerOnResetBegin → (∀ straps, c ≠ .powerOnReset straps) → c ≠ .rstnAsserted → c ≠ .rstnReleased →
    exec c s = .next s)

/-! ## Resets (10.6) -/

/-- POWER_ON_RESET_BEGIN and RSTN_ASSERTED hold the part: outputs off, driver off, IRQN high, the frame in flight and the send list
gone; that the whole Bus Controller is cleared now and nothing else changes before the end of the reset is the model's reading (DEDUCED, log
22). RSTN_ASSERTED on a part that RSTN holds changes nothing. In a running part ENx is on in RAMPING, ON, KEEP, RAISE_WAIT and RAISE_CLAIM
alone, and LVx high in RAMPING and ON alone. -/
def Obligations.ResetsBeginWithOutputsOff : Prop :=
  ∀ s : State,
    (∃ t, exec .powerOnResetBegin s = .next t ∧ t = { s with power := { s.power with phase := .powerOnReset }, bus := .stopped }
      ∧ t.irqnHigh = true ∧ t.driverMayDrive = false ∧ ∀ x, t.enableOut x = false ∧ t.levelOut x = false)
    ∧ (s.power.rstnLow = false →
      ∃ t, exec .rstnAsserted s = .next t ∧ t = { s with power := { s.power with rstnLow := true }, bus := .stopped }
        ∧ t.irqnHigh = true ∧ t.driverMayDrive = false ∧ ∀ x, t.enableOut x = false ∧ t.levelOut x = false)
    ∧ (s.power.rstnLow = true → exec .rstnAsserted s = .next s)
    ∧ (s.power.running = true → ∀ x,
      (s.enableOut x = true ↔ (s.load x).state ∈ [.ramping, .on, .keep, .raiseWait, .raiseClaim])
      ∧ (s.levelOut x = true ↔ (s.load x).state ∈ [.ramping, .on]))

/-- POWER_ON_RESET with RSTN high leaves every setting at its default, every enable set, every block at its reset state, the address of
the straps, cause POR and one PHASE(0) record. With RSTN low it waits, and the release of RSTN ends it so. -/
def Obligations.PowerOnResetLeavesDefaults : Prop :=
  (∀ (s : State) (straps : Station), s.power.rstnLow = false →
    exec (.powerOnReset straps) s = .next
      ({ s with pins := { s.pins with straps := straps } }.afterReset straps .default (BitVec.allOnes 18) .por))
  ∧ (∀ (s : State) (straps : Station), s.power.rstnLow = true →
    ∃ t, exec (.powerOnReset straps) s = .next t ∧ t.power = { phase := .stable, rstnLow := true } ∧ t.settings = s.settings
      ∧ exec .rstnReleased t = .next (t.afterReset straps .default (BitVec.allOnes 18) .por))

/-- RSTN_RELEASED on a part held by RSTN, and RESET_STATION, leave every block at its reset state, with settings, enables and address
kept, cause PIN or COMMAND, and PHASE(0) when its enable is set. -/
def Obligations.StationResetKeepsSettings : Prop :=
  ∀ (s : State) (arg : Byte),
    (s.power = { phase := .running, rstnLow := true } →
      exec .rstnReleased s = .next (s.afterReset s.address s.settings s.port.enables .pin))
    ∧ (s.power.running = true →
      exec (.resetStation arg) s = .next (s.afterReset s.address s.settings s.port.enables .command))

/-- What the register window reads right after a power-on reset (Table 10.1). -/
def Obligations.RegistersAfterPowerOnReset : Prop :=
  ((List.range 0x14).map fun a => State.reset.readRegister (BitVec.ofNat 7 a))
    = [0x4320, 0x0040, 0, 0, 0, 0x0100, 0, 0xFFFF, 0x0003, 0, 0, 0, 0, 0, 0, 0, 0, 0x0001, 0x0001, 0]

/-! ## START, DETACH and REJOIN -/

/-- The checks of START: it passes exactly the settings that pass every check, and names the first that fails; a failing check leaves the
node in SETUP with every setting as written. The lowest lease code that passes is 2Ch. -/
def Obligations.StartChecksInOrder : Prop :=
  (∀ (s : State) (arg : Byte), s.power.running = true → s.member.participation = .setup →
    (∀ i, s.settings.firstBad = some i → exec (.start arg) s = .next (s.answered 0x01 arg .badSetting i))
    ∧ (s.settings.firstBad = none →
      ∃ t, exec (.start arg) s = .next t ∧ t.port.result = .done ∧ t.member.participation = .seeking))
  ∧ (200 ≤ durationMs 0x2C ∧ ∀ c : TimeCode, 200 ≤ durationMs c → 0x2C ≤ c.toNat)
  ∧ ∀ c : Settings,
    (c.firstBad = none ↔
      c.bitRate ≠ 3 ∧ 200 ≤ durationMs c.lease
        ∧ ∀ x : LoadIx, 1 ≤ c.loads[x].full.toNat ∧ c.loads[x].keep.toNat < c.loads[x].full.toNat)
    ∧ (c.bitRate = 3 → c.firstBad = some 0x00)
    ∧ (c.bitRate ≠ 3 → durationMs c.lease < 200 → c.firstBad = some 0x02)
    ∧ (c.bitRate ≠ 3 → 200 ≤ durationMs c.lease → ∀ x : LoadIx,
        (∀ y : LoadIx, y < x → 1 ≤ c.loads[y].full.toNat ∧ c.loads[y].keep.toNat < c.loads[y].full.toNat) →
        (c.loads[x].full.toNat = 0 ∨ c.loads[x].full.toNat ≤ c.loads[x].keep.toNat) →
        c.firstBad = some (BitVec.ofNat 8 (0x11 + 2 * x.val)))

/-- START in SETUP with valid settings: DONE, SEEKING, integration, a SEEK item, the lease setting in force, the quiet timer at 0, the
asserted PIN loads wanted; with a failing setting BAD_SETTING and nothing else; in any other state REFUSED and nothing else. -/
def Obligations.StartSeeks : Prop :=
  ∀ (s : State) (arg : Byte), s.power.running = true →
    (s.member.participation = .setup → s.settings.firstBad = none → ∃ t, exec (.start arg) s = .next t
      ∧ t.port.result = .done ∧ t.port.badIndex = 0
      ∧ t.member = .cleared .seeking
      ∧ t.bus.line = .integrating ∧ t.bus.has .seek = true
      ∧ t.lease = { Lease.stopped s.settings.lease with quiet := some 0 }
      ∧ t.cap.request = (if s.cap.limit.level = true ∧ s.cap.request = none then some s.settings.limitCap else s.cap.request)
      ∧ (∀ x, (s.cfg x).source = .pin → s.loads.req[x].level = true → (t.load x).wanted = true ∧ (t.load x).wish = .full)
      ∧ (∀ x, (s.cfg x).source = .soft ∨ s.loads.req[x].level = false → t.load x = s.load x)
      ∧ t.table = s.table ∧ t.settings = s.settings ∧ t.address = s.address ∧ t.freeze = s.freeze ∧ t.group = s.group
      ∧ t.pins = s.pins ∧ t.power = s.power)
    ∧ (s.member.participation = .setup → ∀ i, s.settings.firstBad = some i →
      exec (.start arg) s = .next (s.answered 0x01 arg .badSetting i))
    ∧ (s.member.participation ≠ .setup → exec (.start arg) s = .next (s.answered 0x01 arg .refused 0))

/-- DETACH (Table 3.6): REFUSED in SETUP and DETACHED; DONE alone in LEAVING; DETACHED from SEEKING and JOINING; LEAVING from ACTIVE with
every load off, a LEAVE item, and the units its loads occupied in the open account. REJOIN in DETACHED: DONE, SEEKING with count 0 and was-member
no, integration, a SEEK item, the queue kept; else REFUSED. -/
def Obligations.DetachAndRejoin : Prop :=
  (∀ (s : State) (arg : Byte), s.power.running = true →
    (s.member.participation = .setup ∨ s.member.participation = .detached →
      exec (.detach arg) s = .next (s.answered 0x0B arg .refused 0))
    ∧ (s.member.participation = .leaving → exec (.detach arg) s = .next (s.answered 0x0B arg .done 0))
    ∧ (s.member.participation = .seeking ∨ s.member.participation = .joining →
      ∃ t, exec (.detach arg) s = .next t ∧ t.port.result = .done
        ∧ t.table = .empty ∧ t.bus = .stopped ∧ t.member = .cleared .detached ∧ t.lease = .stopped s.lease.code
        ∧ t.cap = { s.cap with request := none, held := none } ∧ t.freeze = .reset
        ∧ t.demand.slot = none ∧ t.demand.blocked = none
        ∧ t.demand.openUnits = .replicate 4 0 ∧ t.demand.latchedUnits = .replicate 4 0
        ∧ (∀ x, (t.load x).state.energized = false ∧ (t.load x).wanted = (s.load x).wanted)
        ∧ t.settings = s.settings ∧ t.address = s.address ∧ t.group = s.group)
    ∧ (s.member.participation = .active →
      ∃ t, exec (.detach arg) s = .next t ∧ t.port.result = .done ∧ t.member = { s.member with participation := .leaving }
        ∧ t.bus.has .leave = true ∧ t.table = s.table
        ∧ (∀ x, (t.load x).state.energized = false ∧ (t.load x).wanted = (s.load x).wanted)
        ∧ (∀ k : ClassIx, t.demand.openUnits[k] = s.demand.openUnits[k] + s.occupiedIn k)
        ∧ t.demand.latchedUnits = s.demand.latchedUnits
        ∧ t.settings = s.settings ∧ t.address = s.address ∧ t.lease = s.lease ∧ t.freeze = s.freeze))
  ∧ (∀ (s : State) (arg : Byte), s.power.running = true →
    (s.member.participation = .detached → ∃ t, exec (.rejoin arg) s = .next t ∧ t.port.result = .done
      ∧ t.member = .cleared .seeking ∧ t.bus.line = .integrating ∧ t.bus.has .seek = true
      ∧ t.lease = { Lease.stopped s.settings.lease with quiet := some 0 }
      ∧ t.table = s.table ∧ t.demand = s.demand ∧ t.loads = s.loads ∧ t.freeze = s.freeze ∧ t.settings = s.settings)
    ∧ (s.member.participation ≠ .detached → exec (.rejoin arg) s = .next (s.answered 0x0C arg .refused 0)))

/-! ## The load commands (Table 5.5) -/

/-- The results of the load commands but DONE: REFUSED in SETUP; BAD_ARG for a load number 8..255; WRONG_SOURCE for REQUEST and WITHDRAW
of a PIN load; BAD_ARG for a level other than 0000h and 0001h; REFUSED for CLEAR_FAULT of a load not in FAULT. Nothing else changes. -/
def Obligations.LoadCommandRefusals : Prop :=
  ∀ (s : State) (arg : Byte), s.power.running = true →
    (∀ c ∈ [(Instr.request arg, 0x02#8), (.withdraw arg, 0x03#8), (.setLevel arg, 0x04#8), (.inhibit arg, 0x05#8),
        (.permit arg, 0x06#8), (.clearFault arg, 0x07#8)],
      (s.member.participation = .setup → exec c.1 s = .next (s.answered c.2 arg .refused 0))
      ∧ (s.member.participation ≠ .setup → loadNumber arg = none → exec c.1 s = .next (s.answered c.2 arg .badArg 0)))
    ∧ (s.member.participation ≠ .setup → ∀ x, loadNumber arg = some x →
      ((s.cfg x).source = .pin →
        exec (.request arg) s = .next (s.answered 0x02 arg .wrongSource 0)
        ∧ exec (.withdraw arg) s = .next (s.answered 0x03 arg .wrongSource 0))
      ∧ (s.port.commandArg ≠ 0 → s.port.commandArg ≠ 1 → exec (.setLevel arg) s = .next (s.answered 0x04 arg .badArg 0))
      ∧ ((s.load x).state ≠ .fault → exec (.clearFault arg) s = .next (s.answered 0x07 arg .refused 0)))

/-- REQUEST of a SOFT load: DONE, wanted, wish FULL; from OFF, not inhibited and not wanted before, it is queued at the back of its
class. No other load's request, wish, flag, cause or timer changes, and no other block but the Demand Scheduler and the send list. -/
def Obligations.RequestQueuesLoad : Prop :=
  ∀ (s : State) (arg : Byte) (x : LoadIx), s.power.running = true → s.member.participation ≠ .setup →
    loadNumber arg = some x → (s.cfg x).source = .soft → ∃ t, exec (.request arg) s = .next t
      ∧ t.port = { s.port with command := 0x02#8 ++ arg, result := .done, badIndex := 0 }
      ∧ (t.load x).wanted = true ∧ (t.load x).wish = .full
      ∧ ((s.load x).state = .off → (s.load x).inhibited = false → (s.load x).wanted = false →
          ((t.load x).state = .waiting ∨ (t.load x).state = .claiming)
          ∧ t.demand.queue = enqueueBy (fun y => (s.cfg y).cls) x s.demand.queue)
      ∧ ((s.load x).state = .keep → (s.load x).wish = .keep → (s.load x).wanted = true →
          ((t.load x).state = .raiseWait ∨ (t.load x).state = .raiseClaim)
          ∧ t.demand.queue = enqueueBy (fun y => (s.cfg y).cls) x s.demand.queue)
      ∧ (∀ y, y ≠ x → t.load y = { s.load y with state := (t.load y).state })
      ∧ t = { s with
          port := t.port, loads := { s.loads with records := t.loads.records }, demand := t.demand
          bus := { s.bus with items := t.bus.items } }

/-- WITHDRAW of a wanted SOFT load and INHIBIT of a load not inhibited: DONE; the load is off (FAULT stays), the units it occupied stand
in the open account of its class; wanted is cleared by WITHDRAW and kept by INHIBIT. WITHDRAW of a SOFT load not wanted and INHIBIT of a load
already inhibited: DONE, and no load changes but by the composition that ends every handling. -/
def Obligations.WithdrawAndInhibitTurnOff : Prop :=
  ∀ (s : State) (arg : Byte) (x : LoadIx), s.power.running = true → s.member.participation ≠ .setup → loadNumber arg = some x →
    ((s.cfg x).source = .soft → (s.load x).wanted = true → ∃ t, exec (.withdraw arg) s = .next t
      ∧ t.port.result = .done ∧ (t.load x).wanted = false ∧ (t.load x).inhibited = (s.load x).inhibited
      ∧ (t.load x).state = (if (s.load x).state = .fault then .fault else .off)
      ∧ t.demand.openUnits = addAt s.demand.openUnits (s.cfg x).cls (s.occupied x)
      ∧ (∀ y, y ≠ x → t.load y = { s.load y with state := (t.load y).state })
      ∧ t = { s with port := t.port, loads := { s.loads with records := t.loads.records, grants := t.loads.grants }
                     demand := t.demand, bus := t.bus })
    ∧ ((s.cfg x).source = .soft → (s.load x).wanted = false →
      exec (.withdraw arg) s = .next (s.answered 0x03 arg .done 0).settle
      ∧ (s.settle = s → exec (.withdraw arg) s = .next (s.answered 0x03 arg .done 0)))
    ∧ ((s.load x).inhibited = true →
      exec (.inhibit arg) s = .next (s.answered 0x05 arg .done 0).settle
      ∧ (s.settle = s → exec (.inhibit arg) s = .next (s.answered 0x05 arg .done 0)))
    ∧ ((s.load x).inhibited = false → ∃ t, exec (.inhibit arg) s = .next t
      ∧ t.port.result = .done ∧ (t.load x).wanted = (s.load x).wanted ∧ (t.load x).inhibited = true
      ∧ (t.load x).state = (if (s.load x).state = .fault then .fault else .off)
      ∧ t.demand.openUnits = addAt s.demand.openUnits (s.cfg x).cls (s.occupied x)
      ∧ (∀ y, y ≠ x → t.load y = { s.load y with state := (t.load y).state })
      ∧ t = { s with port := t.port, loads := { s.loads with records := t.loads.records, grants := t.loads.grants }
                     demand := t.demand, bus := t.bus })

/-- PERMIT of an inhibited load clears the flag, and queues the load when it is in OFF and wanted; PERMIT of a load not inhibited: DONE,
and nothing else changes where composition is settled; CLEAR_FAULT of a load in FAULT moves it to OFF with cause none, and queues it when it is wanted and not inhibited. -/
def Obligations.PermitAndClearFaultRequeue : Prop :=
  ∀ (s : State) (arg : Byte) (x : LoadIx), s.power.running = true → s.member.participation ≠ .setup → loadNumber arg = some x →
    ((s.load x).inhibited = true → ∃ t, exec (.permit arg) s = .next t
      ∧ t.port.result = .done ∧ (t.load x).inhibited = false ∧ (t.load x).wanted = (s.load x).wanted
      ∧ ((s.load x).state = .off → (s.load x).wanted = true →
          ((t.load x).state = .waiting ∨ (t.load x).state = .claiming)
          ∧ t.demand.queue = enqueueBy (fun y => (s.cfg y).cls) x s.demand.queue)
      ∧ ((s.load x).state = .fault ∨ ((s.load x).state = .off ∧ (s.load x).wanted = false) →
          (t.load x).state = (s.load x).state ∧ t.demand.queue = s.demand.queue)
      ∧ t = { s with port := t.port, loads := { s.loads with records := t.loads.records }, demand := t.demand
                     bus := { s.bus with items := t.bus.items } })
    ∧ ((s.load x).inhibited = false →
      exec (.permit arg) s = .next (s.answered 0x06 arg .done 0).settle
      ∧ (s.settle = s → exec (.permit arg) s = .next (s.answered 0x06 arg .done 0)))
    ∧ ((s.load x).state = .fault → ∃ t, exec (.clearFault arg) s = .next t
      ∧ t.port.result = .done ∧ (t.load x).cause = .none ∧ (t.load x).wanted = (s.load x).wanted
      ∧ (if (s.load x).wanted = true ∧ (s.load x).inhibited = false then
          ((t.load x).state = .waiting ∨ (t.load x).state = .claiming)
          ∧ t.demand.queue = enqueueBy (fun y => (s.cfg y).cls) x s.demand.queue
        else (t.load x).state = .off ∧ t.demand.queue = s.demand.queue)
      ∧ t = { s with port := t.port, loads := { s.loads with records := t.loads.records }, demand := t.demand
                     bus := { s.bus with items := t.bus.items } })

/-- SET_LEVEL: DONE and the wish stored. KEEP for a load in RAMPING or ON with keep units: KEEP, the ramp stopped, full − keep freed.
KEEP for a load in RAISE_WAIT or RAISE_CLAIM: KEEP, the queue left, nothing freed, and the claim of a RAISE_CLAIM load ended: orphaned when
latched, held while the node contends with it, else out of the slot with its item. FULL for a load in KEEP: back into the queue as a
raising load. -/
def Obligations.SetLevelMovesLoad : Prop :=
  ∀ (s : State) (arg : Byte) (x : LoadIx), s.power.running = true → s.member.participation ≠ .setup → loadNumber arg = some x →
    (s.port.commandArg = 1 → ∃ t, exec (.setLevel arg) s = .next t
      ∧ t.port.result = .done ∧ (t.load x).wish = .keep ∧ (t.load x).wanted = (s.load x).wanted
      ∧ ((s.load x).wish = .full → (s.load x).state = .ramping ∨ (s.load x).state = .on → 0 < (s.cfg x).keep.toNat →
          (t.load x).state = .keep ∧ (t.load x).ramp = none ∧ t.loads.grants = s.loads.grants
          ∧ t.demand.openUnits = addAt s.demand.openUnits (s.cfg x).cls ((s.cfg x).full.toNat - (s.cfg x).keep.toNat))
      ∧ ((s.load x).wish = .full → (s.load x).state = .raiseWait ∨ (s.load x).state = .raiseClaim →
          (t.load x).state = .keep ∧ t.demand.queue = s.demand.queue.erase x ∧ t.demand.openUnits = s.demand.openUnits
          ∧ t.loads.grants = s.loads.grants)
      ∧ (∀ c, (s.load x).wish = .full → (s.load x).state = .raiseClaim → s.demand.slot = some c → c.load = x →
          (c.latched = true → t.demand.slot = some { c with orphaned := true })
          ∧ (c.latched = false → s.bus.contends .claim = true → s.bus.has .claim = true →
              t.demand.slot = some c ∧ t.bus.withdrawHeld = true)
          ∧ (c.latched = false → s.bus.contends .claim = false → s.bus.latched .claim = false → s.demand.queue.Nodup →
              (∀ c', t.demand.slot = some c' → c'.load ≠ x) ∧ (t.demand.slot = none → t.bus.has .claim = false))))
    ∧ (s.port.commandArg = 0 → ∃ t, exec (.setLevel arg) s = .next t
      ∧ t.port.result = .done ∧ (t.load x).wish = .full ∧ (t.load x).wanted = (s.load x).wanted
      ∧ ((s.load x).wish = .keep → (s.load x).state = .keep →
          ((t.load x).state = .raiseWait ∨ (t.load x).state = .raiseClaim)
          ∧ t.demand.queue = enqueueBy (fun y => (s.cfg y).cls) x s.demand.queue))

/-! ## SEND_GROUP, SET_CAP, FREEZE and unassigned codes -/

/-- SEND_GROUP: REFUSED in SETUP and DETACHED; DONE with the code at the back of the list; FULL when 4 codes stand. Of a SEND_GROUP and a
trigger edge that find one free place, the one taken first has it; that the trigger's row is taken whatever its debounced level was is the
model's choice (DESIGN CHOICE, log 21), and so is what a row that the time base has queued asks for (DESIGN CHOICE, log 5). -/
def Obligations.SendGroupPlacesCode : Prop :=
  ∀ (s : State) (arg : Byte), s.power.running = true →
    (s.member.participation = .setup ∨ s.member.participation = .detached →
      exec (.sendGroup arg) s = .next (s.answered 0x08 arg .refused 0))
    ∧ (s.member.participation ≠ .setup → s.member.participation ≠ .detached →
      (s.bus.codes.length < 4 →
        exec (.sendGroup arg) s = .next
          { s.answered 0x08 arg .done 0 with bus := { s.bus with codes := s.bus.codes ++ [arg] } })
      ∧ (4 ≤ s.bus.codes.length → exec (.sendGroup arg) s = .next (s.answered 0x08 arg .full 0))
      ∧ (s.bus.codes.length = 3 → ∀ i : Fin 2, (s.settings.triggers[i]).enabled = true →
        (.trgDebouncedAssertion i ∈ s.due → 32 ≤ (s.group.trg[i]).count) →
        (∃ t u, exec (.sendGroup arg) s = .next t ∧ exec (.trgDebouncedAssertion i) t = .next u ∧ u.port.result = .done
          ∧ u.bus.codes = s.bus.codes ++ [arg] ∧ u.port = (t.post .groupDropped (argOf i.val)).port)
        ∧ (∃ t u, exec (.trgDebouncedAssertion i) s = .next t ∧ exec (.sendGroup arg) t = .next u ∧ u.port.result = .full
          ∧ u.bus.codes = s.bus.codes ++ [(s.settings.triggers[i]).code])))

/-- SET_CAP: REFUSED but in ACTIVE; in ACTIVE DONE, and the value is held while the node's own CAP is contended for or in flight, clears
the request where it equals the cap in force, and else becomes the request with a CAP item on the list. FREEZE: REFUSED but in ACTIVE; BAD_ARG
for 80h..FFh; else DONE, the request set, a FREEZE item on the list, and the newer flag set when the item is in flight. -/
def Obligations.SetCapAndFreezeSetRequests : Prop :=
  (∀ (s : State) (arg : Byte), s.power.running = true →
    (s.member.participation ≠ .active → exec (.setCap arg) s = .next (s.answered 0x09 arg .refused 0))
    ∧ (s.member.participation = .active → ∃ t, exec (.setCap arg) s = .next t ∧ t.port = (s.answered 0x09 arg .done 0).port
      ∧ (s.bus.capBusy = true → t.cap = { s.cap with held := some s.port.commandArg } ∧ t.bus = s.bus)
      ∧ (s.bus.capBusy = false → s.port.commandArg = s.table.cap →
          t.cap = { s.cap with request := none } ∧ t.bus.has .cap = false)
      ∧ (s.bus.capBusy = false → s.port.commandArg ≠ s.table.cap →
          t.cap = { s.cap with request := some s.port.commandArg } ∧ t.bus.has .cap = true)
      ∧ t = { s with port := t.port, cap := t.cap, bus := { s.bus with items := t.bus.items } }))
  ∧ (∀ (s : State) (arg : Byte), s.power.running = true →
    (s.member.participation ≠ .active → exec (.freeze arg) s = .next (s.answered 0x0A arg .refused 0))
    ∧ (s.member.participation = .active → 128 ≤ arg.toNat → exec (.freeze arg) s = .next (s.answered 0x0A arg .badArg 0))
    ∧ (s.member.participation = .active → arg.toNat < 128 → ∃ t, exec (.freeze arg) s = .next t
      ∧ t.port = (s.answered 0x0A arg .done 0).port
      ∧ t.freeze = { s.freeze with request := some (arg.setWidth 7), newer := s.freeze.newer || s.bus.latched .freeze }
      ∧ t.bus.has .freeze = true
      ∧ t = { s with port := t.port, freeze := t.freeze, bus := { s.bus with items := t.bus.items } }))

/-! ## The register port (chapter 10) -/

/-- Offering and reading event records: appended while fewer than 16 stand, else discarded with the overflow flag set; a completed read
of EVENT_A removes the oldest record and copies its commit to EVENT_B, and a read fixed on an empty queue does nothing. -/
def Obligations.EventQueueIsBoundedFifo : Prop :=
  (∀ (p : Port) (r : EventRecord),
    (p.events.length < 16 → p.offer r = { p with events := p.events ++ [r] })
    ∧ (16 ≤ p.events.length → p.offer r = { p with overflow := true }))
  ∧ ∀ s : State, s.power.running = true →
    (∀ r rs, s.port.events = r :: rs →
      s.eventA = BitVec.ofNat 16 (256 * r.code.number + r.arg.toNat)
      ∧ exec (.eventARead false) s = .next { s with port := { s.port with events := rs, eventB := r.commit } })
    ∧ exec (.eventARead true) s = .next s
    ∧ (s.port.events = [] → s.eventA = 0)
    ∧ (s.irqnHigh = true ↔ s.port.events = [] ∧ s.port.overflow = false)

/-- The event enable set: a posting with its enable clear changes nothing, one with its enable set is offered; a write of either enable
register sets its codes' enables and leaves the queue; a power-on reset sets all 18, a station reset keeps them. -/
def Obligations.EventEnablesGatePosting : Prop :=
  (∀ (s : State) (c : EventCode) (arg : Byte),
    (s.port.enables.getLsbD (c.number - 1) = false → s.post c arg = s)
    ∧ (s.port.enables.getLsbD (c.number - 1) = true →
      s.post c arg = { s with port := s.port.offer { code := c, arg := arg, commit := s.table.commit } }))
  ∧ (∀ (s : State) (v : Word16), s.power.running = true →
    (∃ t, exec (.registerWrite 0x07 v) s = .next t ∧ t = { s with port := { s.port with enables := t.port.enables } }
      ∧ (∀ n, 1 ≤ n → n ≤ 16 → t.port.enables.getLsbD (n - 1) = v.getLsbD (n - 1))
      ∧ (∀ n, 17 ≤ n → n ≤ 18 → t.port.enables.getLsbD (n - 1) = s.port.enables.getLsbD (n - 1))
      ∧ t.readRegister 0x07 = v ∧ t.readRegister 0x08 = s.readRegister 0x08)
    ∧ (∃ t, exec (.registerWrite 0x08 v) s = .next t ∧ t = { s with port := { s.port with enables := t.port.enables } }
      ∧ (∀ n, 1 ≤ n → n ≤ 16 → t.port.enables.getLsbD (n - 1) = s.port.enables.getLsbD (n - 1))
      ∧ (∀ n, 17 ≤ n → n ≤ 18 → t.port.enables.getLsbD (n - 1) = v.getLsbD (n - 17))
      ∧ t.readRegister 0x08 = v &&& 0x0003 ∧ t.readRegister 0x07 = s.readRegister 0x07))
  ∧ (∀ (s : State) (straps : Station), s.power.rstnLow = false →
    ∃ t, exec (.powerOnReset straps) s = .next t ∧ ∀ n, 1 ≤ n → n ≤ 18 → t.port.enables.getLsbD (n - 1) = true)
  ∧ (∀ s : State, s.power = { phase := .stable, rstnLow := true } →
    ∃ t, exec .rstnReleased s = .next t ∧ ∀ n, 1 ≤ n → n ≤ 18 → t.port.enables.getLsbD (n - 1) = true)
  ∧ (∀ s : State, s.power = { phase := .running, rstnLow := true } →
    ∃ t, exec .rstnReleased s = .next t ∧ t.port.enables = s.port.enables)
  ∧ ∀ (s : State) (arg : Byte), s.power.running = true →
    ∃ t, exec (.resetStation arg) s = .next t ∧ t.port.enables = s.port.enables

/-- Writes. A STATUS write with bit 5 set clears the overflow flag and does nothing else. A write of COMMAND_ARG or of an index register
stores its defined bits in that register alone, in every participation state, and reads back so; COMMAND with code 00h is stored and issues
nothing; a write to a read-only or unassigned address changes nothing. A command code that Table 10.5 does not assign gives BAD_ARG and
changes nothing else. Reads, in every state: what each address of Table 10.1 shows. A read fixes its value after the eighth clock and SDO
shows it on clocks 9 to 24, most significant bit first, cut where the transaction ends; SDO is at high impedance with CSN high and in a
reset; a transaction in a reset, or of a number of clocks other than 24, stands for no row. -/
def Obligations.PortReadsAndWrites : Prop :=
  (∀ (s : State) (v : Word16), s.power.running = true →
    (v.getLsbD 5 = true → exec (.statusWrite v) s = .next { s with port := { s.port with overflow := false } })
    ∧ (v.getLsbD 5 = false → exec (.statusWrite v) s = .next s)
    ∧ exec (.registerWrite 0x03 v) s = .next { s with port := { s.port with commandArg := v } }
    ∧ exec (.registerWrite 0x09 v) s = .next { s with port := { s.port with tableIndex := v &&& 0x071F } }
    ∧ exec (.registerWrite 0x0E v) s = .next { s with port := { s.port with loadIndex := v &&& 0x0107 } }
    ∧ exec (.registerWrite 0x10 v) s = .next { s with port := { s.port with settingIndex := v &&& 0x00FF } }
    ∧ (v.extractLsb' 8 8 = 0 → exec (.registerWrite 0x02 v) s = .next { s with port := { s.port with command := v } })
    ∧ (∀ a : BitVec 7, a ∉ [0x01#7, 0x02, 0x03, 0x07, 0x08, 0x09, 0x0E, 0x10, 0x11] → exec (.registerWrite a v) s = .next s))
  ∧ (∀ (s : State) (code arg : Byte), s.power.running = true → unassignedCode code = true →
    exec (.unassignedCommand code arg) s = .next (s.answered code arg .badArg 0))
  ∧ (∀ s : State,
    s.readRegister 0x00 = 0x4320
    ∧ s.readRegister 0x01 = BitVec.ofNat 16 (s.member.participation.number + 8 * bit s.table.frozen
        + 16 * bit (decide (s.table.cap.toNat < s.table.total)) + 32 * bit s.port.overflow + 64 * s.port.events.length)
    ∧ (s.readRegister 0x02 = s.port.command ∧ s.readRegister 0x03 = s.port.commandArg ∧ s.readRegister 0x06 = s.port.eventB
      ∧ s.readRegister 0x09 = s.port.tableIndex ∧ s.readRegister 0x0E = s.port.loadIndex ∧ s.readRegister 0x10 = s.port.settingIndex)
    ∧ s.readRegister 0x04 = BitVec.ofNat 16 (s.port.result.number + 256 * s.port.badIndex.toNat)
    ∧ s.readRegister 0x05 = s.eventA
    ∧ (s.readRegister 0x07 = s.port.enables.extractLsb' 0 16 ∧ s.readRegister 0x08 = (s.port.enables.extractLsb' 16 2).setWidth 16)
    ∧ (∀ (q : Station) (f : Nat), f < 8 → s.port.tableIndex = BitVec.ofNat 16 (q.val + 256 * f) →
      s.readRegister 0x0A = (if f = 0 then BitVec.ofNat 16 (bit (s.table.entries[q]).member)
        else if h : f - 1 < 4 then BitVec.ofNat 16 (s.table.entries[q]).held[f - 1] else 0))
    ∧ (s.readRegister 0x0B = s.table.commit ∧ s.readRegister 0x0C = s.table.cap)
    ∧ s.readRegister 0x0D = s.table.check
    ∧ s.table.check = BitVec.ofNat 16 (s.table.cap.toNat + (if s.table.frozen then 1 else 0)
        + (allStations.map fun q =>
            let e := s.table.entries[q]
            if e.member then 512 * (q.val + 1) + e.held[0] + 2 * e.held[1] + 3 * e.held[2] + 4 * e.held[3] else 0).sum)
    ∧ (∀ x : LoadIx,
      (s.port.loadIndex = BitVec.ofNat 16 x.val →
        s.readRegister 0x0F = BitVec.ofNat 16 ((s.load x).state.number + 16 * bit (s.load x).wanted
          + 32 * bit (decide ((s.load x).wish = .keep)) + 64 * bit (s.load x).inhibited + 128 * (s.load x).cause.number
          + 512 * bit (s.loads.req[x]).level + 1024 * bit (s.loads.rdy[x]).level))
      ∧ (s.port.loadIndex = BitVec.ofNat 16 (x.val + 256) → s.readRegister 0x0F = BitVec.ofNat 16 (s.occupied x)))
    ∧ (∀ k, settingKey s.port.settingIndex = some k → s.readRegister 0x11 = s.settings.read k)
    ∧ (settingKey s.port.settingIndex = none → s.readRegister 0x11 = 0)
    ∧ s.readRegister 0x12 = BitVec.ofNat 16 s.port.resetCause.number
    ∧ (∀ a : BitVec 7, 0x12 < a.toNat → s.readRegister a = 0))
  ∧ (Table.empty.check = 0
    ∧ [Participation.setup, .seeking, .joining, .active, .leaving, .detached].map (·.number) = [0, 1, 2, 3, 4, 5]
    ∧ [LoadState.off, .waiting, .claiming, .ramping, .on, .keep, .raiseWait, .raiseClaim, .fault].map (·.number)
        = [0, 1, 2, 3, 4, 5, 6, 7, 8]
    ∧ [CommandResult.none, .done, .refused, .badArg, .wrongSource, .full, .badSetting].map (·.number) = [0, 1, 2, 3, 4, 5, 6]
    ∧ [FaultCause.none, .ramp, .dropout].map (·.number) = [0, 1, 2] ∧ [ResetCause.por, .pin, .command].map (·.number) = [1, 2, 3])
  ∧ (∀ (s : State) (sdi : List Bool),
    (s.power.running = false → s.fixedValue sdi = none ∧ spiInstr s sdi = none)
    ∧ (sdi.length ≠ 24 → spiInstr s sdi = none)
    ∧ (s.power.running = true → 8 ≤ sdi.length → sdi.head? = some false →
      s.fixedValue sdi = some (s.readRegister (BitVec.ofNat 7 (numberOf ((sdi.drop 1).take 7))))
      ∧ ∀ v, s.fixedValue sdi = some v → ∀ n, 9 ≤ n → n ≤ 24 → s.sdo false (some v) n = .driven (v.getLsbD (24 - n)))
    ∧ (∀ high v n, high = true ∨ s.power.running = false → s.sdo high v n = .highImpedance))
  ∧ ∀ (v : Word16) (clocks : Nat), (shiftedOut v clocks).length = min 24 clocks - 8
      ∧ ∀ i, i < min 24 clocks - 8 → (shiftedOut v clocks)[i]? = some (v.getLsbD (15 - i))

/-- A write of SETTING_DATA in SETUP stores the word at the index selected; in any other state, and for an index that Table 10.3 does not list,
it changes nothing. A setting reads back its defined bits as written, an action field of 101b to 111b as 100b, and a write leaves every other
setting. -/
def Obligations.SettingsWrittenInSetupReadBack : Prop :=
  (∀ (s : State) (v : Word16), s.power.running = true →
    (s.member.participation = .setup → ∀ k, settingKey s.port.settingIndex = some k →
      ∃ t, exec (.settingDataWrite v) s = .next t ∧ t.settings = s.settings.write v k
        ∧ t = { s with settings := t.settings, loads := { s.loads with req := t.loads.req } })
    ∧ (settingKey s.port.settingIndex = none → exec (.settingDataWrite v) s = .next s)
    ∧ (s.member.participation ≠ .setup → exec (.settingDataWrite v) s = .next s))
  ∧ (∀ (c : Settings) (v : Word16) (k : SettingKey),
    (c.write v k).read k = (match k with
      | .bitRate => v &&& 0x0003
      | .fairGap => v &&& 0x00FF
      | .lease => v &&& 0x007F
      | .normalCap | .limitCap | .loadUnits _ | .windowCode _ => v
      | .loadFlags _ => v &&& 0x7F1F
      | .windowAction _ => if 4 < (v.extractLsb' 8 3).toNat then (v &&& 0x80FF) ||| 0x0400 else v &&& 0x87FF
      | .trigger _ => v &&& 0x80FF)
    ∧ ∀ j, j ≠ k → (c.write v k).read j = c.read j)

/-! ## The line and the send list (chapter 2) -/

/-- CONTENTION on an idle line: the node contends with the eligible item of lowest kind code; with none it does not contend. Losing
arbitration: the node follows the frame, and the item it contended with stays as it was when nothing is held. -/
def Obligations.ContentionAndLostArbitration : Prop :=
  (∀ s : State, s.power.running = true → s.bus.line = .idle →
    (∀ k, s.eligible k = true → (∀ j, s.eligible j = true → k.code ≤ j.code) →
      exec .contention s = .next { s with bus := { s.bus with line := .contending k } })
    ∧ ((∀ k, s.eligible k = false) → exec .contention s = .next s))
  ∧ (∀ (s : State) (k : FrameKind), s.power.running = true → s.bus.line = .contending k →
    ∃ t, exec .arbitrationLost s = .next t ∧ t.bus.line = .following .undecided ∧ t.bus.withdrawHeld = false
      ∧ t.bus.failures = s.bus.failures ∧ t.bus.codes = s.bus.codes ∧ t.bus.fairGap = s.bus.fairGap
      ∧ (s.bus.withdrawHeld = false → s.cap.held = none → s.bus.has k = true → t.bus.item? k = s.bus.item? k)
      ∧ t.table = s.table ∧ t.member = s.member ∧ t.lease = s.lease ∧ t.freeze = s.freeze ∧ t.settings = s.settings
      ∧ t.port = s.port)

/-- The latch: base commit and base check from the table, and the other fields from the posting block; a RELEASE takes the open amounts and
moves them to the latched part; a CLAIM takes the slot, and is orphaned when its withdrawal was held. -/
def Obligations.LatchFixesBody : Prop :=
  ∀ s : State, s.power.running = true →
    (∀ (k : FrameKind) (body : FrameBody), s.bus.line = .contending k → s.latchBody k = some body →
      ∃ t, exec .itemLatch s = .next t ∧ t.bus = { s.bus with line := .sending body, withdrawHeld := false }
        ∧ t.table = s.table ∧ t.loads = s.loads ∧ t.cap = s.cap ∧ t.port = s.port ∧ t.settings = s.settings)
    ∧ (∀ v, s.bus.line = .contending .cap → s.cap.request = some v →
      ∃ t, exec .itemLatch s = .next t ∧ t.bus.line = .sending (.change { commit := s.table.commit, check := s.table.check } (.cap v)))
    ∧ (∀ q, s.bus.line = .contending .evict → s.lease.marks[q] = true → (∀ p, p < q → s.lease.marks[p] = false) →
      ∃ t, exec .itemLatch s = .next t
        ∧ t.bus.line = .sending (.change { commit := s.table.commit, check := s.table.check } (.evict q))
        ∧ t.lease.latchedMark = some q)
    ∧ (s.bus.line = .contending .release → (∀ k : ClassIx, s.demand.openUnits[k] ≤ 2047) →
      ∃ t a, exec .itemLatch s = .next t
        ∧ t.bus.line = .sending (.change { commit := s.table.commit, check := s.table.check } (.release a))
        ∧ (∀ k : ClassIx, (a[k]).toNat = s.demand.openUnits[k])
        ∧ t.demand.openUnits = .replicate 4 0 ∧ t.demand.latchedUnits = s.demand.openUnits)
    ∧ (∀ d, s.bus.line = .contending .freeze → s.freeze.request = some d →
      ∃ t, exec .itemLatch s = .next t
        ∧ t.bus.line = .sending (.change { commit := s.table.commit, check := s.table.check } (.freeze d))
        ∧ t.freeze = { s.freeze with newer := false })
    ∧ (∀ c, s.bus.line = .contending .claim → s.demand.slot = some c → c.units ≤ 255 →
      ∃ t u, exec .itemLatch s = .next t
        ∧ t.bus.line = .sending (.change { commit := s.table.commit, check := s.table.check } (.claim c.cls u c.load))
        ∧ u.toNat = c.units
        ∧ t.demand.slot = some { c with latched := true, orphaned := c.orphaned || s.bus.withdrawHeld })
    ∧ (∀ c cs, s.bus.line = .contending .group → s.bus.codes = c :: cs →
      ∃ t, exec .itemLatch s = .next t ∧ t.bus.line = .sending (.group c))

/-- A transmit failure of a latched item below the limit: the node integrates, one failure more, the item keeps its attempt count, the latched amounts of a
RELEASE are open again; a CLAIM's slot keeps its claim unlatched, but an orphaned one is emptied with its item withdrawn, and composition may
fill it anew; after a CAP a held setting is taken, and one that asks for the cap in force ends request and item. The sixteenth empties the send list, posts BUS_FAULT with the kind code, and detaches the node. A failure inside the arbitration field counts in the same way: the item stays as it
was, or goes where its withdrawal was held. An intact frame with the node's own address that it did not send is discarded and counts too,
with that frame's kind. -/
def Obligations.TransmitFailureCounts : Prop :=
  (∀ (s : State) (body : FrameBody), s.power.running = true → s.member.participation.onLine = true → s.bus.line = .sending body →
    (s.bus.failures + 1 < 16 → ∃ t, exec .transmitFailure s = .next t
      ∧ t.bus.line = .integrating ∧ t.bus.failures = s.bus.failures + 1 ∧ t.table = s.table
      ∧ t.member.participation = s.member.participation ∧ t.port = s.port ∧ t.bus.codes = s.bus.codes
      ∧ ((body.kind ≠ .claim ∧ body.kind ≠ .cap) ∨ (body.kind = .claim ∧ s.demand.slot = none) ∨ (body.kind = .cap ∧ s.cap.held = none) →
          t.bus.attempts body.kind = s.bus.attempts body.kind ∧ t.cap = s.cap)
      ∧ (∀ b k u tag c, body = .change b (.claim k u tag) → s.demand.slot = some c →
          (c.orphaned = false → t.demand.slot = some { c with latched := false } ∧ t.loads = s.loads
            ∧ t.bus.has .claim = s.bus.has .claim ∧ t.bus.attempts .claim = s.bus.attempts .claim)
          ∧ (c.orphaned = true → (t.demand.slot = none → t.bus.has .claim = false)
            ∧ ∀ c', t.demand.slot = some c' → c'.latched = false ∧ c'.orphaned = false
                ∧ t.bus.item? .claim = some { kind := .claim, attempts := 0, postedAgain := false }))
      ∧ (∀ b v w, body = .change b (.cap v) → s.cap.held = some w → s.member.participation.inStep = true → t.cap.held = none
          ∧ (w = s.table.cap → t.cap.request = none ∧ t.bus.has .cap = false)
          ∧ (w ≠ s.table.cap → t.cap.request = some w
              ∧ (s.bus.has .cap = true → t.bus.has .cap = true ∧ t.bus.attempts .cap = s.bus.attempts .cap)))
      ∧ (∀ b a, body = .change b (.release a) →
          t.demand.openUnits = addAccounts s.demand.openUnits s.demand.latchedUnits ∧ t.demand.latchedUnits = .replicate 4 0))
    ∧ (s.bus.failures + 1 = 16 → ∃ t, exec .transmitFailure s = .next t
      ∧ t.member = .cleared .detached ∧ t.bus = .stopped ∧ t.table = .empty
      ∧ t.port = ((s.post .busFault (argOf body.kind.code.val)).postAt 0 .phase 5).port))
  ∧ (∀ (s : State) (k : FrameKind), s.power.running = true → s.member.participation.onLine = true → s.bus.line = .contending k →
    (s.bus.failures + 1 < 16 → ∃ t, exec .transmitFailure s = .next t
      ∧ t.bus.line = .integrating ∧ t.bus.failures = s.bus.failures + 1 ∧ t.bus.withdrawHeld = false ∧ t.table = s.table
      ∧ t.member = s.member ∧ t.port = s.port ∧ t.bus.codes = s.bus.codes ∧ t.bus.fairGap = s.bus.fairGap
      ∧ (s.bus.withdrawHeld = false → s.cap.held = none → s.bus.has k = true → t.bus.item? k = s.bus.item? k)
      ∧ (s.bus.withdrawHeld = true → s.cap.held = none → k ∈ [.cap, .release, .alive, .leave, .freeze, .join] → t.bus.has k = false))
    ∧ (s.bus.failures + 1 = 16 → ∃ t, exec .transmitFailure s = .next t
      ∧ t.member = .cleared .detached ∧ t.bus = .stopped ∧ t.table = .empty
      ∧ t.port = ((s.post .busFault (argOf k.code.val)).postAt 0 .phase 5).port))
  ∧ ∀ (s : State) (i : Instr) (k : FrameKind), s.power.running = true →
    s.bus.line = .idle ∨ s.bus.line = .gap ∨ (∃ d, s.bus.line = .following d) →
    (∃ b c slots, i = changeFrame s.address b c slots ∧ k = c.kind) ∨ (i = .aliveFrame s.address ∧ k = .alive)
      ∨ (i = .seekFrame s.address ∧ k = .seek) ∨ (∃ seg, i = .imageFrame s.address seg ∧ k = .image)
      ∨ (∃ code, i = .groupFrame s.address code ∧ k = .group) →
    (s.bus.failures + 1 < 16 → exec i s = .next { s with bus := { s.bus with line := .gap, failures := s.bus.failures + 1 } })
    ∧ (s.bus.failures + 1 = 16 → ∃ t, exec i s = .next t
      ∧ t.member = .cleared .detached ∧ t.bus = .stopped ∧ t.table = .empty
      ∧ t.port = ((s.post .busFault (argOf k.code.val)).postAt 0 .phase 5).port)

/-- A line error and the end of integration move the line state alone; a frame discarded with no collection in progress does too, to
integrating for a malformed frame and to the gap for a bad check code; during a collection it abandons it with cause LOST. The slots: in step,
another node's frame with the table's own commit and check is acknowledged, any other is objected to; no slot is driven for a frame with the
node's own address, or out of step. -/
def Obligations.SlotsDiscardsAndLineErrors : Prop :=
  (∀ s : State, s.power.running = true →
    (s.bus.line = .gap → exec .lineError s = .next { s with bus := { s.bus with line := .integrating } })
    ∧ (s.bus.line = .integrating → exec .integrationComplete s = .next { s with bus := { s.bus with line := .idle } })
    ∧ (∀ why d, s.bus.line = .following d →
      (s.member.collection = none → exec (.frameDiscarded why) s
        = .next { s with bus := { s.bus with line := if why = .badCheck then .gap else .integrating } })
      ∧ (s.member.participation = .seeking → s.member.collection.isSome = true →
        ∃ t, exec (.frameDiscarded why) s = .next t ∧ t.member.collection = none ∧ t.member.imageGap = none
          ∧ t.member.changes = [] ∧ t.member.recording = false ∧ t.bus.has .seek = true ∧ t.table = s.table ∧ t.loads = s.loads
          ∧ t.port = (s.post .imageFailed 3).port)))
  ∧ (∀ (s : State) (q : Station) (b : Base), s.power.running = true →
    s.bus.line = .idle ∨ s.bus.line = .following .undecided → ∃ t, exec (.ackObjSlotDrive q b) s = .next t
      ∧ t = { s with bus := { s.bus with line := t.bus.line } }
      ∧ (q ≠ s.address → s.member.participation.inStep = true → b.commit = s.table.commit → b.check = s.table.check →
          t.bus.line = .following .ack)
      ∧ (q ≠ s.address → s.member.participation.inStep = true → b.commit ≠ s.table.commit ∨ b.check ≠ s.table.check →
          t.bus.line = .following .obj)
      ∧ (q = s.address ∨ s.member.participation.inStep = false → t.bus.line = .following .nothing))

/-! ## State-changing frames (chapters 1 and 2) -/

/-- An accepted frame applied to a table: the commit rises by one modulo 65536 whatever the evaluation; CAP sets the cap; FREEZE and THAW
set frozen; each kind leaves the fields that are not its own. -/
def Obligations.ApplicationAdvancesCommit : Prop :=
  ∀ (t : Table) (q : Station) (c : Change),
    (t.apply q c).commit = t.commit + 1
    ∧ (∀ v, c = .cap v → (t.apply q c).cap = v ∧ (t.apply q c).entries = t.entries ∧ (t.apply q c).frozen = t.frozen)
    ∧ ((∀ v, c ≠ .cap v) → (t.apply q c).cap = t.cap)
    ∧ (∀ d, c = .freeze d → (t.apply q c).frozen = true ∧ (t.apply q c).entries = t.entries)
    ∧ (c = .thaw → (t.apply q c).frozen = false ∧ (t.apply q c).entries = t.entries)
    ∧ ((∀ d, c ≠ .freeze d) → c ≠ .thaw → (t.apply q c).frozen = t.frozen)

/-- The entries after a JOIN, a LEAVE, an EVICT and a RELEASE from station q: JOIN makes an ABSENT q MEMBER with nothing held; LEAVE and
EVICT make their station ABSENT with nothing held, but for an EVICT naming its own source; RELEASE lowers q's holdings, never below 0. Every
other entry stays. -/
def Obligations.MembershipAndReleaseEntries : Prop :=
  ∀ (t : Table) (q p : Station),
    (t.apply q .join).entries[p] =
        (if p = q ∧ t.entries[q].member = false then { member := true, held := .replicate 4 0 } else t.entries[p])
    ∧ (t.apply q .leave).entries[p] = (if p = q ∧ t.entries[q].member = true then .absent else t.entries[p])
    ∧ (∀ target : Station, (t.apply q (.evict target)).entries[p] =
        (if p = target ∧ t.entries[target].member = true ∧ target ≠ q then .absent else t.entries[p]))
    ∧ ∀ a : Vector (BitVec 11) 4,
        (t.apply q (.release a)).entries[p].member = t.entries[p].member
        ∧ ∀ k : ClassIx, (t.apply q (.release a)).entries[p].held[k] =
            (if p = q ∧ t.entries[q].member = true then t.entries[p].held[k] - min (a[k]).toNat t.entries[p].held[k]
             else t.entries[p].held[k])

/-- A CLAIM is granted when frozen is no, its source is MEMBER, the total afterwards is at most the cap, the holding afterwards at most
2047 and its units 1 or more: the holding then rises by the units. It is else denied, and the table is unchanged but for the commit. Nothing else raises the total: an
application that raises it is a granted CLAIM, and the total afterwards is at most the cap. Free and over cap go by the total. -/
def Obligations.ClaimGrantedOrDenied : Prop :=
  (∀ (t : Table) (q : Station) (k : ClassIx) (u : Byte) (tag : LoadIx),
    (t.grants q k u.toNat = true ↔
      t.frozen = false ∧ t.entries[q].member = true ∧ t.total + u.toNat ≤ t.cap.toNat
        ∧ t.entries[q].held[k] + u.toNat ≤ 2047 ∧ 1 ≤ u.toNat)
    ∧ (t.grants q k u.toNat = true →
      (t.apply q (.claim k u tag)).entries[q] = { t.entries[q] with held := t.entries[q].held.set k (t.entries[q].held[k] + u.toNat) }
      ∧ ∀ p, p ≠ q → (t.apply q (.claim k u tag)).entries[p] = t.entries[p])
    ∧ (t.grants q k u.toNat = false → t.apply q (.claim k u tag) = { t with commit := t.commit + 1 }))
  ∧ (∀ (t : Table) (q : Station) (c : Change), t.total < (t.apply q c).total →
    (t.apply q c).total ≤ t.cap.toNat ∧ ∃ k u tag, c = .claim k u tag ∧ t.grants q k u.toNat = true)
  ∧ ∀ t : Table, t.free = (if t.total ≤ t.cap.toNat then t.cap.toNat - t.total else 0)
    ∧ (t.overCap = true ↔ t.cap.toNat < t.total)

/-- For a node in step, the units that its loads of a class occupy and its release account for the class together are its own entry's
holding, at every step. The part's other invariants stand as premises; each is kept by a step in a statement of its own. -/
def Obligations.HoldingBalanceStays : Prop :=
  ∀ s t : State, s.tablesSound → s.recordsSound → s.listsSound → s.parkedSound → s.balanceSound → step s = .next t → t.balanceSound

/-- The end of another node's state-changing frame, of any of the eight kinds, at a node in step that drives ACK: the table takes the frame
whole, whatever the slots show; the line is in its gap; each block keeps what its rules do not change. FREEZE and THAW move the freeze timer and clear the thaw mark; a CAP clears a request
with its value, sheds where the table is then over cap, and leaves occupied units and account together the same. An EVICT that names a node in
ACTIVE turns its loads off with their requests kept, empties slot and account, and the node joins anew with REVOKED; one that names a node in
LEAVING takes it to DETACHED. The source is heard: its silence timer restarts and an unlatched mark on it goes. A JOIN that makes it MEMBER
starts its timer; a LEAVE or an EVICT that makes a station ABSENT stops its timer and takes its mark, and an EVICT item then stands where marks
are left. A FREEZE that sets frozen empties an unlatched slot, its load back at its place. Free risen and a THAW that ends a freeze clear the
blocked flag, which composition may set again for the head; else it stays while its load is the head. -/
def Obligations.ReceiverAppliesAcknowledgedFrame : Prop :=
  ∀ (s : State) (q : Station) (b : Base) (c : Change) (slots : Slots), s.power.running = true →
    s.member.participation.inStep = true → q ≠ s.address →
    s.bus.line = .following .ack ∨ (s.bus.line = .following .undecided ∧ b = s.table.base) →
    (s.member.participation = .leaving → c = .evict s.address → s.table.entries[s.address].member = true →
      ∃ t, exec (changeFrame q b c slots) s = .next t ∧ t.table = .empty ∧ t.member = .cleared .detached ∧ t.bus = .stopped
        ∧ t.port = ((s.postAt (s.table.commit + 1) .memberOut (argOf (s.address.val + 32))).postAt 0 .phase 5).port)
    ∧ ((s.member.participation = .leaving → c = .evict s.address → s.table.entries[s.address].member = false) →
      ∃ t, exec (changeFrame q b c slots) s = .next t ∧ t.table = s.table.apply q c ∧ t.bus.line = .gap
      ∧ t = { s with
          table := t.table, bus := { t.bus with failures := s.bus.failures, codes := s.bus.codes, fairGap := s.bus.fairGap }
          member := t.member, lease := { t.lease with code := s.lease.code, quiet := s.lease.quiet }
          loads := { t.loads with req := s.loads.req, rdy := s.loads.rdy }, demand := t.demand
          cap := { t.cap with limit := s.cap.limit }, freeze := t.freeze, port := t.port }
      ∧ ((∀ v, c ≠ .cap v) → t.cap = s.cap)
      ∧ ((∀ d, c ≠ .freeze d) → c ≠ .thaw → t.freeze = s.freeze)
      ∧ (c ≠ .evict s.address → t.member = s.member)
      ∧ ((∀ v, c ≠ .cap v) → c ≠ .evict s.address →
          (∀ x, t.load x = { s.load x with state := (t.load x).state }) ∧ t.loads.grants = s.loads.grants
          ∧ t.port = ((s.table.events q c).foldl (fun u e => u.postAt (s.table.commit + 1) e.1 e.2) s).port)
      ∧ (∀ d, c = .freeze d → t.bus.has .thaw = false ∧ t.freeze = { s.freeze with
            timer := if s.freeze.timer.getD 0 < durationMs d then some (durationMs d) else s.freeze.timer, thawMark := false })
      ∧ (c = .thaw → s.table.frozen = true → t.bus.has .thaw = false ∧ t.freeze = { s.freeze with timer := none, thawMark := false })
      ∧ (c = .thaw → s.table.frozen = false → t.freeze = s.freeze)
      ∧ (∀ v, c = .cap v →
          t.cap = { s.cap with request := if s.cap.request = some v then none else s.cap.request }
          ∧ (∀ x, t.load x = { s.load x with state := (t.load x).state, ramp := (t.load x).ramp })
          ∧ (s.table.total ≤ v.toNat → (∀ x, t.load x = { s.load x with state := (t.load x).state }) ∧ t.loads.grants = s.loads.grants
              ∧ t.demand.openUnits = s.demand.openUnits ∧ t.port = (s.postAt (s.table.commit + 1) .capSet (argOf q.val)).port)
          ∧ ((∀ x : LoadIx, (s.cfg x).keep.toNat ≤ (s.cfg x).full.toNat) → ∀ k : ClassIx,
              t.occupiedIn k + t.demand.openUnits[k] = s.occupiedIn k + s.demand.openUnits[k])
          ∧ (s.listsSound → s.recordsSound → ∀ k : ClassIx, 0 < t.table.obligation s.address k →
              t.occupiedIn k ≤ s.table.entries[s.address].held[k] - t.table.obligation s.address k))
      ∧ (c = .evict s.address → s.member.participation = .active → s.table.entries[s.address].member = true →
          t.member = { s.member with participation := .joining }
          ∧ (∀ x, (t.load x).state.energized = false ∧ (t.load x).wanted = (s.load x).wanted)
          ∧ t.demand.slot = none ∧ t.demand.openUnits = .replicate 4 0 ∧ t.demand.latchedUnits = .replicate 4 0
          ∧ t.bus.has .join = true ∧ t.bus.has .claim = false ∧ t.bus.has .release = false
          ∧ t.port = (((s.postAt (s.table.commit + 1) .memberOut (argOf (s.address.val + 32))).postAt (s.table.commit + 1) .revoked
              (argOf s.energizedCount)).postAt (s.table.commit + 1) .phase 2).port)
      ∧ (t.member.participation = s.member.participation
          ∨ (s.member.participation = .active ∧ c = .evict s.address ∧ t.member.participation = .joining))
      ∧ (∀ p : Station, t.lease.silence[p] =
          (if s.table.removes q c = some p then none
           else if p = q ∧ ((s.lease.silence[q]).isSome = true ∨ (c = .join ∧ s.table.entries[q].member = false)) then some 0
           else s.lease.silence[p]))
      ∧ (∀ p : Station, t.lease.marks[p] =
          (if s.table.removes q c = some p then false
           else if p = q ∧ (s.lease.silence[q]).isSome = true ∧ s.lease.latchedMark ≠ some q then false
           else s.lease.marks[p]))
      ∧ t.lease.latchedMark = (if s.table.removes q c = s.lease.latchedMark then none else s.lease.latchedMark)
      ∧ ((s.table.removes q c).isSome = true → (t.bus.has .evict = true ↔ ∃ p : Station, t.lease.marks[p] = true))
      ∧ (∀ d sl, c = .freeze d → s.table.frozen = false → s.demand.slot = some sl → sl.latched = false →
          t.demand = { s.demand with slot := none, blocked := t.demand.blocked } ∧ t.bus.has .claim = false
          ∧ (sl.orphaned = false → t.load sl.load = { s.load sl.load with
              state := match (s.load sl.load).state with
                | .claiming => .waiting
                | .raiseClaim => .raiseWait
                | other => other })
          ∧ ∀ x, x ≠ sl.load → t.load x = s.load x)
      ∧ (∀ d, c = .freeze d → s.table.frozen = true → t.demand.slot = s.demand.slot)
      ∧ ((c = .thaw ∧ s.table.frozen = true) ∨ s.table.free < t.table.free →
          ∀ x, t.demand.blocked = some x →
            t.member.participation = .active ∧ t.demand.queue.head? = some x ∧ t.table.free < t.claimUnits x)
      ∧ ((∀ v, c ≠ .cap v) → c ≠ .evict s.address → (c = .thaw → s.table.frozen = false) → t.table.free ≤ s.table.free →
          ∀ x, s.demand.blocked = some x → s.demand.queue.head? = some x → t.demand.blocked = some x))

/-- The end of another node's state-changing frame at a node in step that drove OBJ: with ACK read it is out of step, to SEEKING with a
stale table (or to DETACHED from LEAVING); without ACK only the heard notification is taken: the silence timer kept for the
source restarts, an unlatched mark on it goes, and with the last mark the EVICT item; all else stays where composition is settled. -/
def Obligations.ObjectionOverruledLeavesStep : Prop :=
  ∀ (s : State) (q : Station) (b : Base) (c : Change) (slots : Slots), s.power.running = true →
    s.member.participation.inStep = true → q ≠ s.address → s.bus.line = .following .obj →
    (slots.ack = true → s.member.participation ≠ .leaving → ∃ t, exec (changeFrame q b c slots) s = .next t
      ∧ t.table = s.table ∧ t.member.participation = .seeking
      ∧ t.member.wasMember = (s.member.wasMember || s.member.participation == .active)
      ∧ t.bus.has .seek = true ∧ t.lease.silence = .replicate 32 none ∧ t.lease.marks = .replicate 32 false
      ∧ t.port = (((s.post .outOfStep 1).post .phase 1)).port)
    ∧ (slots.ack = true → s.member.participation = .leaving → ∃ t, exec (changeFrame q b c slots) s = .next t
      ∧ t.table = .empty ∧ t.member = .cleared .detached ∧ t.bus = .stopped)
    ∧ (slots.ack = false → ∃ t, exec (changeFrame q b c slots) s = .next t
      ∧ t.table = s.table ∧ t.member = s.member ∧ t.port = s.port
      ∧ (s.settle = s → t = { s with
          bus := { s.bus with
            line := .gap
            items := if (s.lease.silence[q]).isSome = true ∧ s.lease.marks[q] = true ∧ s.lease.latchedMark ≠ some q
                ∧ (∀ p : Station, p ≠ q → s.lease.marks[p] = false) then s.bus.items.filter (fun i => i.kind != .evict) else s.bus.items }
          lease := { s.lease with
            silence := if (s.lease.silence[q]).isSome = true then s.lease.silence.set q (some 0) else s.lease.silence
            marks := if (s.lease.silence[q]).isSome = true ∧ s.lease.latchedMark ≠ some q then s.lease.marks.set q false
              else s.lease.marks } }))

/-- The end of another node's state-changing frame at a node in SEEKING that records: the frame takes the place of the record with its
base, or the end of a list of fewer than 16, unless its outcome was refused; the table stays. -/
def Obligations.SeekerRecordsFrame : Prop :=
  ∀ (s : State) (q : Station) (b : Base) (c : Change) (slots : Slots), s.power.running = true →
    s.member.participation = .seeking → q ≠ s.address → s.bus.line = .following .nothing →
    (slots.obj = true → slots.ack = false → ∃ t, exec (changeFrame q b c slots) s = .next t
      ∧ t.member = { s.member with seekCount := 0 } ∧ t.table = s.table)
    ∧ (slots.obj = false ∨ slots.ack = true → s.member.recording = true →
      ((∀ r ∈ s.member.changes, r.base ≠ b) → s.member.changes.length < 16 → ∃ t, exec (changeFrame q b c slots) s = .next t
        ∧ t.member = { s.member with seekCount := 0, changes := s.member.changes ++ [{ source := q, base := b, change := c }] }
        ∧ t.table = s.table)
      ∧ ((∃ r ∈ s.member.changes, r.base = b) → ∃ t, exec (changeFrame q b c slots) s = .next t
        ∧ t.member = { s.member with
            seekCount := 0
            changes := s.member.changes.map fun r => if r.base = b then { source := q, base := b, change := c } else r }
        ∧ t.table = s.table)
      ∧ ((∀ r ∈ s.member.changes, r.base ≠ b) → 16 ≤ s.member.changes.length → ∃ t, exec (changeFrame q b c slots) s = .next t
        ∧ t.member.changes = [] ∧ t.member.recording = false ∧ t.member.collection = none ∧ t.bus.has .seek = true
        ∧ t.port = (s.post .imageFailed 4).port ∧ t.table = s.table))

/-- An own frame accepted, by ACK or by solo acceptance: the sender's table takes the latched body, failures are 0, the fair gap and the quiet
timer start anew. That the row's own base and body are not read is the model's reading (DEDUCED, log 8). The item leaves the list, and where it
was posted again in a state that allows its kind a new one stands; beside that an EVICT stands while marks stand, a THAW while the thaw mark
stands, a CLAIM where composition fills the slot, and a CAP where a held setting asks for another cap. An own JOIN accepted in JOINING takes the
node to ACTIVE with PHASE(3). An own LEAVE accepted in LEAVING takes it to DETACHED and its table to the empty table instead. -/
def Obligations.SenderAppliesAcceptedFrame : Prop :=
  (∀ (s : State) (b b' : Base) (c c' : Change) (slots : Slots), s.power.running = true →
    s.bus.line = .sending (.change b c) → c'.kind = c.kind →
    slots.ack = true ∨ (slots.obj = false ∧ s.table.hasOther s.address = false) →
    (s.member.participation = .leaving → c ≠ .leave) →
    ∃ t, exec (changeFrame s.address b' c' slots) s = .next t ∧ t.table = s.table.apply s.address c
      ∧ t.bus.line = .gap ∧ t.bus.failures = 0 ∧ t.lease.quiet = some 0
      ∧ t.bus.fairGap = (if s.settings.fairGap = 0 then none else some s.settings.fairGap.toNat)
      ∧ t.settings = s.settings ∧ t.address = s.address
      ∧ (c.kind ∈ [.release, .leave, .freeze, .join, .claim] → ∀ i, s.bus.item? c.kind = some i → i.postedAgain = true →
          s.member.participation.allows c.kind = true →
          t.bus.item? c.kind = some { kind := c.kind, attempts := 0, postedAgain := false })
      ∧ ((∀ i, s.bus.item? c.kind = some i → i.postedAgain = false) →
          (c.kind ∈ [.release, .leave, .freeze, .join] → t.bus.has c.kind = false)
          ∧ (∀ k u tag, c = .claim k u tag → (t.bus.has .claim = true ↔ t.demand.slot.isSome = true))
          ∧ (∀ q, c = .evict q → (t.bus.has .evict = true ↔ t.member.participation.inStep = true ∧ ∃ p : Station, t.lease.marks[p] = true))
          ∧ (c = .thaw → s.table.frozen = false →
              (t.bus.has .thaw = true ↔ s.member.participation.inStep = true ∧ s.freeze.thawMark = true)))
      ∧ (c = .thaw → s.table.frozen = true → t.bus.has .thaw = false)
      ∧ (∀ v, c = .cap v → t.cap.held = none
          ∧ (s.cap.held = none → t.cap.request = none ∧ t.bus.has .cap = false)
          ∧ (∀ w, s.cap.held = some w → s.member.participation.inStep = true →
              (w = v → t.cap.request = none ∧ t.bus.has .cap = false)
              ∧ (w ≠ v → t.cap.request = some w ∧ t.bus.has .cap = (s.member.participation == .active))))
      ∧ (c = .join → s.member.participation = .joining → t.member = { s.member with participation := .active }
          ∧ t.port = (((s.table.events s.address .join).foldl (fun u e => u.postAt (s.table.commit + 1) e.1 e.2) s).postAt
              (s.table.commit + 1) .phase 3).port))
  ∧ (∀ (s : State) (b b' : Base) (slots : Slots), s.power.running = true → s.bus.line = .sending (.change b .leave) →
    s.member.participation = .leaving → slots.ack = true ∨ (slots.obj = false ∧ s.table.hasOther s.address = false) →
    ∃ t, exec (.leaveFrame s.address b' slots) s = .next t ∧ t.member = .cleared .detached ∧ t.table = .empty ∧ t.bus = .stopped
      ∧ t.port = (((s.table.events s.address .leave).foldl (fun u e => u.postAt (s.table.commit + 1) e.1 e.2) s).postAt 0 .phase 5).port)

/-- An own frame refused, or unheard for the fourth time: applied nowhere, and the node leaves step for SEEKING with the cause, or from LEAVING
for DETACHED with PHASE(5) alone. That the row's own base and body are not read is the model's reading (DEDUCED, log 8). -/
def Obligations.SenderRefusedOrDroppedSeeks : Prop :=
  ∀ (s : State) (b b' : Base) (c c' : Change) (slots : Slots), s.power.running = true →
    s.bus.line = .sending (.change b c) → c'.kind = c.kind → slots.ack = false →
    (s.member.participation = .joining ∨ s.member.participation = .active →
      (slots.obj = true → ∃ t, exec (changeFrame s.address b' c' slots) s = .next t
        ∧ t.table = s.table ∧ t.member.participation = .seeking ∧ t.bus.has .seek = true ∧ t.demand.slot = none
        ∧ t.port = ((s.post .outOfStep 1).post .phase 1).port)
      ∧ (slots.obj = false → s.table.hasOther s.address = true → s.bus.attempts c.kind = 3 →
        ∃ t, exec (changeFrame s.address b' c' slots) s = .next t
        ∧ t.table = s.table ∧ t.member.participation = .seeking ∧ t.bus.has .seek = true ∧ t.demand.slot = none
        ∧ t.port = ((s.post .outOfStep 2).post .phase 1).port))
    ∧ (s.member.participation = .leaving →
      slots.obj = true ∨ (s.table.hasOther s.address = true ∧ s.bus.attempts c.kind = 3) →
      ∃ t, exec (changeFrame s.address b' c' slots) s = .next t
        ∧ t.table = .empty ∧ t.member = .cleared .detached ∧ t.bus = .stopped ∧ t.demand.slot = none ∧ t.demand.blocked = none
        ∧ t.demand.openUnits = .replicate 4 0 ∧ t.demand.latchedUnits = .replicate 4 0 ∧ t.lease = .stopped s.lease.code
        ∧ t.cap = { s.cap with request := none, held := none } ∧ t.freeze = .reset
        ∧ t.port = (s.postAt 0 .phase 5).port)

/-- An own frame unheard with attempts remaining: applied nowhere, its item waits with one attempt more, and the participation state stays.
A CLAIM's slot empties, and its item waits only where composition fills the slot again; the latched amounts of a RELEASE are open again,
and its item waits in ACTIVE alone; after a CAP a held setting is taken. -/
def Obligations.SenderUnheardRetries : Prop :=
  (∀ (s : State) (b b' : Base) (c c' : Change) (slots : Slots), s.power.running = true →
    s.bus.line = .sending (.change b c) → c'.kind = c.kind → c.kind ∈ [.evict, .leave, .freeze, .thaw, .join] →
    slots.ack = false → slots.obj = false → s.table.hasOther s.address = true →
    s.bus.has c.kind = true → s.bus.attempts c.kind < 3 →
    ∃ t, exec (changeFrame s.address b' c' slots) s = .next t
      ∧ t.table = s.table ∧ t.member.participation = s.member.participation ∧ t.bus.line = .gap ∧ t.port = s.port
      ∧ t.bus.item? c.kind = some { kind := c.kind, attempts := s.bus.attempts c.kind + 1, postedAgain := false })
  ∧ ∀ (s : State) (b b' : Base) (slots : Slots), s.power.running = true →
    slots.ack = false → slots.obj = false → s.table.hasOther s.address = true →
    (∀ k u tag k' u' tag', s.bus.line = .sending (.change b (.claim k u tag)) → s.bus.has .claim = true → s.bus.attempts .claim < 3 →
      ∃ t, exec (.claimFrame s.address b' k' u' tag' slots) s = .next t
      ∧ t.table = s.table ∧ t.member.participation = s.member.participation ∧ t.bus.line = .gap ∧ t.port = s.port
      ∧ (t.demand.slot = none → t.bus.has .claim = false)
      ∧ (∀ c, t.demand.slot = some c → c.latched = false ∧ c.orphaned = false
          ∧ t.bus.item? .claim = some { kind := .claim, attempts := s.bus.attempts .claim + 1, postedAgain := false })
      ∧ (∀ c, s.demand.slot = some c → c.orphaned = false → (s.load c.load).state = .claiming →
          (t.load c.load).state = .waiting ∨ (t.load c.load).state = .claiming)
      ∧ (∀ c, s.demand.slot = some c → c.orphaned = false → (s.load c.load).state = .raiseClaim →
          (t.load c.load).state = .raiseWait ∨ (t.load c.load).state = .raiseClaim))
    ∧ (∀ a a', s.bus.line = .sending (.change b (.release a)) → s.bus.has .release = true → s.bus.attempts .release < 3 →
      ∃ t, exec (.releaseFrame s.address b' a' slots) s = .next t
      ∧ t.table = s.table ∧ t.member.participation = s.member.participation ∧ t.bus.line = .gap ∧ t.port = s.port
      ∧ t.demand.openUnits = addAccounts s.demand.openUnits s.demand.latchedUnits ∧ t.demand.latchedUnits = .replicate 4 0
      ∧ (s.member.participation = .active →
          t.bus.item? .release = some { kind := .release, attempts := s.bus.attempts .release + 1, postedAgain := false })
      ∧ (s.member.participation ≠ .active → t.bus.has .release = false))
    ∧ (∀ v v', s.bus.line = .sending (.change b (.cap v)) → s.bus.has .cap = true → s.bus.attempts .cap < 3 →
      s.member.participation = .active → ∃ t, exec (.capFrame s.address b' v' slots) s = .next t
      ∧ t.table = s.table ∧ t.member.participation = .active ∧ t.bus.line = .gap ∧ t.port = s.port ∧ t.cap.held = none
      ∧ (s.cap.held = none → t.cap.request = s.cap.request)
      ∧ (∀ w, s.cap.held = some w → w = s.table.cap → t.cap.request = none ∧ t.bus.has .cap = false)
      ∧ (∀ w, s.cap.held = some w → w ≠ s.table.cap → t.cap.request = some w)
      ∧ (s.cap.held ≠ some s.table.cap →
          t.bus.item? .cap = some { kind := .cap, attempts := s.bus.attempts .cap + 1, postedAgain := false }))

/-- The node's own CLAIM accepted: granted, its load ramps with the whole full level and GRANTED is posted (on to KEEP where the wish is KEEP
and there is a keep level); denied, its load is back in its place and DENIED is posted. Orphaned and
granted, its units go to the open account of its class, with a RELEASE in ACTIVE; orphaned and denied, nothing; either way no load changes but by
composition, and no record is posted. -/
def Obligations.OwnClaimGrantedRamps : Prop :=
  (∀ (s : State) (b b' : Base) (k : ClassIx) (u : Byte) (tag : LoadIx) (slot : ClaimSlot) (slots : Slots), s.power.running = true →
    s.member.participation = .active → s.bus.line = .sending (.change b (.claim k u tag)) → slots.ack = true →
    s.demand.slot = some slot → slot.orphaned = false → slot.load = tag →
    (s.load tag).state = .claiming ∨ (s.load tag).state = .raiseClaim →
    (s.table.grants s.address k u.toNat = true → ∃ t, exec (.claimFrame s.address b' k u tag slots) s = .next t
      ∧ t.table = s.table.apply s.address (.claim k u tag)
      ∧ ((s.load tag).wish = .full →
          (t.load tag).state = .ramping ∧ (t.load tag).ramp = some (durationMs (s.cfg tag).ramp)
          ∧ t.loads.grants.head? = some tag)
      ∧ ((s.load tag).wish = .keep → 0 < (s.cfg tag).keep.toNat → (t.load tag).state = .keep)
      ∧ t.port = (s.postAt (s.table.commit + 1) .granted (argOf tag.val)).port)
    ∧ (s.table.grants s.address k u.toNat = false → s.demand.queue.head? = some tag →
      ∃ t, exec (.claimFrame s.address b' k u tag slots) s = .next t
      ∧ t.table = { s.table with commit := s.table.commit + 1 }
      ∧ (t.load tag).state = (if (s.load tag).state = .claiming then .waiting else .raiseWait)
      ∧ t.demand.blocked = some tag ∧ t.demand.slot = none
      ∧ t.port = (s.postAt (s.table.commit + 1) .denied (argOf tag.val)).port))
  ∧ ∀ (s : State) (b b' : Base) (k : ClassIx) (u : Byte) (tag : LoadIx) (slot : ClaimSlot) (slots : Slots), s.power.running = true →
    s.member.participation.inStep = true → s.bus.line = .sending (.change b (.claim k u tag)) → slots.ack = true →
    s.demand.slot = some slot → slot.orphaned = true →
    ∃ t, exec (.claimFrame s.address b' k u tag slots) s = .next t
      ∧ t.table = s.table.apply s.address (.claim k u tag) ∧ t.port = s.port
      ∧ (∀ c, t.demand.slot = some c → c.orphaned = false ∧ c.latched = false)
      ∧ (∀ x, t.load x = { s.load x with state := (t.load x).state }) ∧ t.loads.grants = s.loads.grants
      ∧ (s.table.grants s.address k u.toNat = true → t.demand.openUnits = addAt s.demand.openUnits k u.toNat
          ∧ (s.member.participation = .active → t.bus.has .release = true))
      ∧ (s.table.grants s.address k u.toNat = false → t.demand.openUnits = s.demand.openUnits)

/-! ## Frames that do not change the table (2.7), images and group codes -/

/-- ALIVE: at another node that keeps a timer for its source the timer restarts at 0 and an unlatched mark on it goes; at the sender its
completion restarts the quiet timer and clears the failure count. A silence timer that reaches the lease marks its station, and an EVICT item
stands in step; the quiet timer's arrival posts ALIVE. A row that the time base has queued finds nothing to do where its station was heard, or
the quiet timer restarted, before it is taken (log 5). -/
def Obligations.LeaseRenewalAndMarks : Prop :=
  (∀ (s : State) (q : Station), s.power.running = true →
    (q ≠ s.address → s.bus.line = .idle → (s.lease.silence[q]).isSome = true →
      ∃ t, exec (.aliveFrame q) s = .next t ∧ t.lease.silence = s.lease.silence.set q (some 0)
        ∧ (s.lease.latchedMark ≠ some q → t.lease.marks = s.lease.marks.set q false)
        ∧ (∀ p, p ≠ q → t.lease.marks[p] = s.lease.marks[p]) ∧ t.bus.line = .gap ∧ t.table = s.table ∧ t.port = s.port)
    ∧ (s.bus.line = .sending .alive →
      ∃ t, exec (.aliveFrame s.address) s = .next t ∧ t.lease = { s.lease with quiet := some 0 } ∧ t.bus.failures = 0
        ∧ t.bus.line = .gap ∧ t.table = s.table ∧ t.member = s.member ∧ t.port = s.port))
  ∧ (∀ s : State, s.power.running = true →
    (∀ q : Station, (s.lease.silence[q]).isSome = true → s.member.participation.inStep = true →
      (.silenceTimerExpiry q ∈ s.due → s.lease.silence[q] = some (durationMs s.lease.code)) →
      ∃ t, exec (.silenceTimerExpiry q) s = .next t ∧ t.lease.marks = s.lease.marks.set q true
        ∧ t.lease.silence = s.lease.silence.set q (some (durationMs s.lease.code)) ∧ t.bus.has .evict = true
        ∧ t = { s with due := t.due, lease := t.lease, bus := { s.bus with items := t.bus.items } })
    ∧ (∀ (q : Station) (n : Nat), s.lease.silence[q] = some n → n < durationMs s.lease.code → .silenceTimerExpiry q ∈ s.due →
      exec (.silenceTimerExpiry q) s = .next { s with due := s.due.erase (.silenceTimerExpiry q) })
    ∧ (∀ n, s.lease.quiet = some n → s.member.participation.onLine = true →
      (.quietTimerExpiry ∈ s.due → max 1 (renewMs s.lease.code) ≤ n) →
      ∃ t, exec .quietTimerExpiry s = .next t ∧ t.bus.has .alive = true
        ∧ t = { s with
            due := t.due, lease := { s.lease with quiet := some (max n (max 1 (renewMs s.lease.code))) }
            bus := { s.bus with items := t.bus.items } })
    ∧ (∀ n, s.lease.quiet = some n → n < max 1 (renewMs s.lease.code) → .quietTimerExpiry ∈ s.due →
      exec .quietTimerExpiry s = .next { s with due := s.due.erase .quietTimerExpiry }))

/-- SEEK: a node in step owes an image, and a segment 0 item stands while it has no train; a seeking node's count falls to 0 at a SEEK from a
lower address and stays at one from a higher; at the sender its completion counts, empties the list, records and starts the seek wait, and it
is the latest SEEK, even where SEEK was posted again meanwhile (DESIGN CHOICE, log 30). -/
def Obligations.SeekAsksForImage : Prop :=
  ∀ (s : State) (q : Station), s.power.running = true →
    (q ≠ s.address → s.bus.line = .idle → s.member.participation.inStep = true →
      ∃ t, exec (.seekFrame q) s = .next t ∧ t.member = { s.member with imageOwed := true } ∧ t.table = s.table
        ∧ (s.member.train = none → t.bus.has .image = true))
    ∧ (q ≠ s.address → s.bus.line = .idle → s.member.participation = .seeking →
      ∃ t, exec (.seekFrame q) s = .next t
        ∧ t.member = { s.member with seekCount := if s.address < q then s.member.seekCount else 0 } ∧ t.table = s.table)
    ∧ (s.bus.line = .sending .seek → s.member.participation = .seeking → s.member.seekCount < 4 →
      ∃ t, exec (.seekFrame s.address) s = .next t ∧ t.table = s.table
        ∧ t.member = { s.member with
            seekCount := s.member.seekCount + 1, changes := [], recording := true, seekWait := some 100
            latestSeek := true, segmentSeen := false })

/-- IMAGE at a collector: the first segment 0 since its latest SEEK starts a collection; the expected segment is stored with the holdings of
ABSENT entries as 0; any other segment of the source abandons it with cause ORDER. -/
def Obligations.CollectorFollowsTrain : Prop :=
  ∀ (s : State) (q : Station), s.power.running = true → q ≠ s.address → s.bus.line = .idle → s.member.participation = .seeking →
    (∀ h, s.member.seekWait.isSome = true → s.member.collection = none → s.member.latestSeek = true → s.member.segmentSeen = false →
      ∃ t, exec (.imageFrame q (.header h)) s = .next t ∧ t.table = s.table
        ∧ t.member = { s.member with
            seekCount := 0, segmentSeen := true, imageGap := some 20
            collection := some { source := q, next := 1, header := h, entries := .replicate 32 .absent } })
    ∧ (∀ c i rows, s.member.collection = some c → c.source = q → i.val + 1 = c.next → i.val < 7 →
      ∃ t c', exec (.imageFrame q (.entries i rows)) s = .next t ∧ t.table = s.table
        ∧ t.member = { s.member with seekCount := 0, imageGap := some 20, collection := some c' }
        ∧ c' = { c with next := c.next + 1, entries := c'.entries }
        ∧ (∀ j : Fin 4, c'.entries[segmentStation i j] =
            (if rows[j].member then
              { member := true, held := #v[rows[j].held[0].toNat, rows[j].held[1].toNat, rows[j].held[2].toNat, rows[j].held[3].toNat] }
            else .absent))
        ∧ ∀ p : Station, (∀ j, p ≠ segmentStation i j) → c'.entries[p] = c.entries[p])
    ∧ (∀ c seg, s.member.collection = some c → c.source = q →
      (∀ i rows, seg = .entries i rows → i.val + 1 ≠ c.next) →
      ∃ t, exec (.imageFrame q seg) s = .next t ∧ t.table = s.table ∧ t.member.collection = none ∧ t.member.changes = []
        ∧ t.member.recording = false ∧ t.bus.has .seek = true ∧ t.port = (s.post .imageFailed 1).port)

/-- Segment 8 of a collection whose check value agrees and whose replay succeeds: the table is the replayed one, the lease in force is the
header's, and the node is ACTIVE where its own entry is MEMBER, its loads within the own holdings and the account the rest, and JOINING with every load off where it is ABSENT. A check value that differs,
or a replay that fails, leaves the stale table. Replay goes by distance: 0 is checked and applied, 1 to 15 fails, 16 or more is skipped. -/
def Obligations.InstallationTakesReplayedTable : Prop :=
  (∀ (s : State) (q : Station) (c : Collection) (rows : Vector WireEntry 4), s.power.running = true → q ≠ s.address →
    s.bus.line = .idle → s.member.participation = .seeking → s.member.collection = some c → c.source = q → c.next = 8 →
    ∃ full : Table, full = { c.table with entries := storeRows c.entries 7 rows }
    ∧ (full.check = c.header.check → ∀ table rs, replay s.member.changes full = some (table, rs) →
      ∃ t, exec (.imageFrame q (.entries 7 rows)) s = .next t ∧ t.table = table ∧ t.lease.code = c.header.lease
        ∧ (∀ p : Station, t.lease.silence[p] = (if table.entries[p].member = true ∧ p ≠ s.address then some 0 else none))
        ∧ t.member.collection = none ∧ t.member.changes = [] ∧ t.member.recording = false ∧ t.member.seekCount = 0
        ∧ (table.entries[s.address].member = true → t.member.participation = .active
            ∧ t.demand.latchedUnits = .replicate 4 0
            ∧ (s.listsSound → s.recordsSound → ∀ k : ClassIx,
                t.occupiedIn k ≤ table.entries[s.address].held[k]
                ∧ t.demand.openUnits[k] + t.occupiedIn k = table.entries[s.address].held[k]))
        ∧ (table.entries[s.address].member = false → t.member.participation = .joining ∧ t.bus.has .join = true
            ∧ t.demand.openUnits = .replicate 4 0 ∧ t.demand.latchedUnits = .replicate 4 0
            ∧ ∀ x, (t.load x).state.energized = false))
    ∧ (full.check ≠ c.header.check →
      ∃ t, exec (.imageFrame q (.entries 7 rows)) s = .next t ∧ t.table = s.table ∧ t.member.participation = .seeking
        ∧ t.port = (s.post .imageFailed 5).port)
    ∧ (full.check = c.header.check → replay s.member.changes full = none →
      ∃ t, exec (.imageFrame q (.entries 7 rows)) s = .next t ∧ t.table = s.table ∧ t.member.participation = .seeking
        ∧ t.port = (s.post .imageFailed 6).port))
  ∧ (∀ (r : ChangeRecord) (rs : List ChangeRecord) (t : Table),
    (r.base.commit = t.commit → r.base.check = t.check →
      replay (r :: rs) t = (replay rs (t.apply r.source r.change)).map fun p => (p.1, ⟨r, t, t.apply r.source r.change⟩ :: p.2))
    ∧ (r.base.commit = t.commit → r.base.check ≠ t.check → replay (r :: rs) t = none)
    ∧ (1 ≤ (r.base.commit - t.commit).toNat → (r.base.commit - t.commit).toNat ≤ 15 → replay (r :: rs) t = none)
    ∧ (16 ≤ (r.base.commit - t.commit).toNat → replay (r :: rs) t = replay rs t))

/-- The sender of an image: the latch of segment 0 copies the table into the buffer; the latch of an entry segment takes its four rows from
the buffer; the completion of segment k from 0 to 7 posts the next one, and that of segment 8 ends the train. At the end of the node's own
frame the row's segment is not read: the frame carries what was latched (DEDUCED, log 8). -/
def Obligations.TrainSendsBuffer : Prop :=
  ∀ s : State, s.power.running = true → s.member.participation.inStep = true →
    (s.bus.line = .contending .image → s.member.train = none → ∃ t h, exec .itemLatch s = .next t
      ∧ t.bus.line = .sending (.image (.header h)) ∧ t.member.buffer = some { header := h, entries := s.table.entries }
      ∧ h.commit = s.table.commit ∧ h.check = s.table.check ∧ h.cap = s.table.cap ∧ h.frozen = s.table.frozen
      ∧ h.lease = s.lease.code
      ∧ h.remaining = (if s.table.frozen then leastCode (s.freeze.timer.getD 0) else 0))
    ∧ (∀ i buffer, s.bus.line = .contending .image → s.member.train = some i → s.member.buffer = some buffer →
      ∃ t rows, exec .itemLatch s = .next t ∧ t.bus.line = .sending (.image (.entries i rows)) ∧ t.member = s.member ∧ t.table = s.table
      ∧ ∀ j : Fin 4, (rows[j]).member = (buffer.entries[segmentStation i j]).member
          ∧ ∀ k : ClassIx, (rows[j]).held[k] = BitVec.ofNat 11 (buffer.entries[segmentStation i j]).held[k])
    ∧ (∀ h seg, s.bus.line = .sending (.image (.header h)) → ∃ t, exec (.imageFrame s.address seg) s = .next t
      ∧ t.member = { s.member with imageOwed := false, train := some 0 } ∧ t.bus.has .image = true ∧ t.table = s.table)
    ∧ (∀ (i : Fin 8) rows seg, i.val < 7 → s.bus.line = .sending (.image (.entries i rows)) →
      ∃ t, exec (.imageFrame s.address seg) s = .next t
      ∧ t.member = { s.member with train := some (i + 1) } ∧ t.bus.has .image = true ∧ t.table = s.table)
    ∧ (∀ rows seg, s.bus.line = .sending (.image (.entries 7 rows)) → ∃ t, exec (.imageFrame s.address seg) s = .next t
      ∧ t.member = { s.member with train := none, buffer := none } ∧ t.table = s.table)

/-- The duration of a time code is (count + 1) × unit. A duration's least code: never shorter than the time remaining, of least duration among
the codes that are not shorter, and of the smaller unit where two codes give that duration. -/
def Obligations.TimeCodesAndLeastCode : Prop :=
  (∀ c : TimeCode, durationMs c = (c.toNat % 32 + 1) * (if c.toNat / 32 = 0 then 1 else if c.toNat / 32 = 1 then 16
      else if c.toNat / 32 = 2 then 128 else 1000))
  ∧ ∀ r : Nat, r ≤ 32000 →
      r ≤ durationMs (leastCode r)
      ∧ ∀ c : TimeCode, r ≤ durationMs c → durationMs (leastCode r) ≤ durationMs c
          ∧ (durationMs c = durationMs (leastCode r) → (leastCode r).toNat / 32 ≤ c.toNat / 32)

/-- Group windows: a code matches in every bit that the mask holds; the resolved action of a load is the one of highest precedence among
the enabled windows that match and name it. -/
def Obligations.GroupActionsResolveByPrecedence : Prop :=
  (∀ (w : GroupWindow) (code : Byte),
    w.matchesCode code = true ↔ ∀ i, i < 8 → w.mask.getLsbD i = true → code.getLsbD i = w.base.getLsbD i)
  ∧ ∀ (s : State) (code : Byte) (x : LoadIx),
    (s.resolve code x = none ↔ ∀ i : Fin 4, ¬((s.settings.windows[i]).enabled = true
        ∧ (s.settings.windows[i]).matchesCode code = true ∧ (s.settings.windows[i]).loads.getLsbD x.val = true))
    ∧ ∀ a, s.resolve code x = some a ↔
        (∃ i : Fin 4, (s.settings.windows[i]).enabled = true ∧ (s.settings.windows[i]).matchesCode code = true
          ∧ (s.settings.windows[i]).loads.getLsbD x.val = true ∧ (s.settings.windows[i]).action = a)
        ∧ ∀ i : Fin 4, (s.settings.windows[i]).enabled = true → (s.settings.windows[i]).matchesCode code = true →
            (s.settings.windows[i]).loads.getLsbD x.val = true → a.number ≤ (s.settings.windows[i]).action.number

/-- GROUP, at a receiver and at the completion of the sender's own: GROUP_MATCHED when an enabled window matches, and each load's resolved
action carried out as the command of its name, WITHDRAW and REQUEST for SOFT loads alone: INHIBIT and WITHDRAW turn the load off, KEEP
lowers it, PERMIT and REQUEST queue it; units freed stand in the account; a load without an action moves by composition alone. The
sender's head code leaves its list. -/
def Obligations.GroupFrameActsOnLoads : Prop :=
  ∀ (s : State) (q : Station) (code : Byte), s.power.running = true → s.member.participation.onLine = true →
    (q ≠ s.address ∧ s.bus.line = .idle) ∨ (q = s.address ∧ s.bus.line = .sending (.group code)) →
    ∃ t, exec (.groupFrame q code) s = .next t ∧ t.bus.line = .gap ∧ t.table = s.table ∧ t.settings = s.settings
      ∧ (q = s.address → t.bus.codes = s.bus.codes.tail) ∧ (q ≠ s.address → t.bus.codes = s.bus.codes)
      ∧ t.port = (if (s.settings.windows.toList.any fun w => w.enabled && w.matchesCode code) = true
          then (s.post .groupMatched code).port else s.port)
      ∧ ((∀ x : LoadIx, (s.cfg x).keep.toNat ≤ (s.cfg x).full.toNat) → ∀ k : ClassIx,
          t.occupiedIn k + t.demand.openUnits[k] = s.occupiedIn k + s.demand.openUnits[k])
      ∧ ∀ x : LoadIx,
        (s.resolve code x = none → t.load x = { s.load x with state := (t.load x).state } ∧ (s.load x).state.composedTo (t.load x).state)
        ∧ (s.resolve code x = some .inhibit →
            (t.load x).inhibited = true ∧ (t.load x).wanted = (s.load x).wanted
            ∧ ((s.load x).inhibited = false → (t.load x).state = (if (s.load x).state = .fault then .fault else .off))
            ∧ ((s.load x).inhibited = true → (s.load x).state.composedTo (t.load x).state))
        ∧ (s.resolve code x = some .permit →
            (t.load x).inhibited = false ∧ (t.load x).wanted = (s.load x).wanted
            ∧ (if (s.load x).inhibited = true ∧ (s.load x).state = .off ∧ (s.load x).wanted = true
              then (t.load x).state = .waiting ∨ (t.load x).state = .claiming
              else (s.load x).state.composedTo (t.load x).state))
        ∧ (s.resolve code x = some .keep →
            (t.load x).wish = .keep ∧ (t.load x).wanted = (s.load x).wanted
            ∧ ((s.load x).wish = .full → (s.load x).state = .ramping ∨ (s.load x).state = .on →
                (t.load x).state = (if 0 < (s.cfg x).keep.toNat then .keep else (s.load x).state))
            ∧ ((s.load x).wish = .full → (s.load x).state = .raiseWait ∨ (s.load x).state = .raiseClaim → (t.load x).state = .keep)
            ∧ ((s.load x).wish = .keep ∨ (s.load x).state ∈ [.off, .waiting, .claiming, .keep, .fault] →
                (s.load x).state.composedTo (t.load x).state))
        ∧ (s.resolve code x = some .withdraw →
            (t.load x).wanted = ((s.load x).wanted && (s.cfg x).source == .pin)
            ∧ (if (s.cfg x).source = .soft ∧ (s.load x).wanted = true
              then (t.load x).state = (if (s.load x).state = .fault then .fault else .off)
              else (s.load x).state.composedTo (t.load x).state))
        ∧ (s.resolve code x = some .request →
            (t.load x).wanted = ((s.load x).wanted || (s.cfg x).source == .soft)
            ∧ (t.load x).wish = (if (s.cfg x).source = .soft then .full else (s.load x).wish)
            ∧ (if (s.cfg x).source = .soft ∧ (s.load x).state = .keep ∧ (s.load x).wish = .keep
              then (t.load x).state = .raiseWait ∨ (t.load x).state = .raiseClaim
              else if (s.cfg x).source = .soft ∧ (s.load x).state = .off ∧ (s.load x).wanted = false ∧ (s.load x).inhibited = false
              then (t.load x).state = .waiting ∨ (t.load x).state = .claiming
              else (s.load x).state.composedTo (t.load x).state))

/-! ## Timers and inputs -/

/-- The fair gap ends; a ramp ends in ON with RUNNING or, with ready used and RDYx deasserted, in FAULT with cause RAMP and its units freed;
the image gap abandons the collection with cause GAP, and a seek wait still running has no further effect, even one that an own SEEK restarted
within the collection (DESIGN CHOICE, log 30). A row that the time base has queued finds nothing to do where its timer has
restarted or stopped before it is taken: so the expected segment taken first keeps its collection (DESIGN CHOICE, log 5). -/
def Obligations.FairGapRampAndImageGapEnd : Prop :=
  ∀ s : State, s.power.running = true →
    ((.fairGapExpiry ∈ s.due → s.bus.fairGap = some 0) →
      exec .fairGapExpiry s = .next { s with due := s.due.erase .fairGapExpiry, bus := { s.bus with fairGap := none } })
    ∧ (.fairGapExpiry ∈ s.due → s.bus.fairGap ≠ some 0 → exec .fairGapExpiry s = .next { s with due := s.due.erase .fairGapExpiry })
    ∧ (∀ x : LoadIx, (s.load x).state = .ramping → (.rampTimerExpiry x ∈ s.due → (s.load x).ramp = some 0) →
      ((s.cfg x).readyUsed = false ∨ s.loads.rdy[x].level = true → ∃ t, exec (.rampTimerExpiry x) s = .next t
        ∧ t.load x = { s.load x with state := .on, ramp := none } ∧ t.port = (s.post .running (argOf x.val)).port
        ∧ t.table = s.table ∧ t.loads.grants = s.loads.grants ∧ t.demand.openUnits = s.demand.openUnits)
      ∧ ((s.cfg x).readyUsed = true → s.loads.rdy[x].level = false → ∃ t, exec (.rampTimerExpiry x) s = .next t
        ∧ t.load x = { s.load x with state := .fault, ramp := none, cause := .ramp }
        ∧ t.port = (s.post .faulted (argOf x.val)).port ∧ t.table = s.table ∧ t.loads.grants = s.loads.grants.erase x
        ∧ t.demand.openUnits = addAt s.demand.openUnits (s.cfg x).cls (s.cfg x).full.toNat))
    ∧ (∀ x : LoadIx, .rampTimerExpiry x ∈ s.due → (s.load x).ramp ≠ some 0 →
      exec (.rampTimerExpiry x) s = .next { s with due := s.due.erase (.rampTimerExpiry x) })
    ∧ (s.member.imageGap.isSome = true → s.member.collection.isSome = true → s.member.participation = .seeking →
      (.imageGapExpiry ∈ s.due → s.member.imageGap = some 0) →
      ∃ t, exec .imageGapExpiry s = .next t ∧ t.member.collection = none ∧ t.member.imageGap = none ∧ t.member.changes = []
        ∧ t.member.recording = false ∧ t.member.latestSeek = false ∧ t.member.segmentSeen = true ∧ t.bus.has .seek = true
        ∧ t.port = (s.post .imageFailed 2).port ∧ t.table = s.table)
    ∧ (.imageGapExpiry ∈ s.due → s.member.imageGap ≠ some 0 → exec .imageGapExpiry s = .next { s with due := s.due.erase .imageGapExpiry })

/-- The end of a seek wait: nothing after a segment 0 or with a collection in progress; else a new SEEK below four attempts; at four the node founds: its own entry MEMBER with what
its loads occupy, the stale cap or the normal cap, not frozen, commit 0, and ACTIVE with FOUNDED and PHASE. -/
def Obligations.SeekWaitEndsInSeekOrFounding : Prop :=
  ∀ s : State, s.power.running = true → s.member.participation = .seeking → s.member.seekWait.isSome = true →
    (.seekWaitExpiry ∈ s.due → s.member.seekWait = some 0) →
    (s.member.segmentSeen = true ∨ s.member.collection.isSome = true → exec .seekWaitExpiry s = .next { s with
      due := s.due.erase .seekWaitExpiry, member := { s.member with seekWait := none } })
    ∧ (s.member.segmentSeen = false → s.member.collection = none → s.member.seekCount < 4 → ∃ t, exec .seekWaitExpiry s = .next t
      ∧ t.member = { s.member with seekWait := none, latestSeek := false } ∧ t.bus.has .seek = true ∧ t.table = s.table)
    ∧ (s.member.segmentSeen = false → s.member.collection = none → s.member.seekCount = 4 → ∃ t, exec .seekWaitExpiry s = .next t
      ∧ t.member.participation = .active
      ∧ (∀ p : Station, t.table.entries[p] = (if p = s.address then
            { member := true, held := #v[s.occupiedIn 0, s.occupiedIn 1, s.occupiedIn 2, s.occupiedIn 3] } else .absent))
      ∧ t.table.cap = (if s.member.wasMember then s.table.cap else s.settings.normalCap)
      ∧ t.table.frozen = false ∧ t.table.commit = 0
      ∧ t.lease.code = s.settings.lease ∧ t.lease.silence = .replicate 32 none
      ∧ t.freeze = { s.freeze with timer := none, thawMark := false }
      ∧ t.member.seekCount = 0 ∧ t.member.changes = [] ∧ t.member.recording = false
      ∧ (t.table.overCap = false →
          t.port = ((s.postAt 0 .founded (argOf s.address.val)).postAt 0 .phase 3).port ∧ t.demand.openUnits = .replicate 4 0))

/-- The freeze timer's expiry stops it and sets the thaw mark; in step a THAW item stands, else none is placed; frozen does not change. An
applied FREEZE restarts the timer only for a longer duration, an applied THAW stops it; both clear the mark and withdraw an unlatched THAW. A
queued expiry finds nothing to do where a FREEZE or a THAW moved the timer before it is taken (log 5). -/
def Obligations.FreezeTimerAndThawMark : Prop :=
  (∀ s : State, s.power.running = true → s.freeze.timer.isSome = true → (.freezeTimerExpiry ∈ s.due → s.freeze.timer = some 0) →
    ∃ t, exec .freezeTimerExpiry s = .next t ∧ t.freeze = { s.freeze with timer := none, thawMark := true } ∧ t.table = s.table
      ∧ (s.member.participation.inStep = true → t.bus.has .thaw = true)
      ∧ (s.member.participation.inStep = false → t.bus = s.bus)
      ∧ t = { s with due := t.due, freeze := t.freeze, bus := { s.bus with items := t.bus.items } })
  ∧ (∀ s : State, s.power.running = true → .freezeTimerExpiry ∈ s.due → s.freeze.timer ≠ some 0 →
    exec .freezeTimerExpiry s = .next { s with due := s.due.erase .freezeTimerExpiry })
  ∧ (∀ (s : State) (d : TimeCode),
    (s.freezeApplied d).freeze = { s.freeze with
        timer := if s.freeze.timer.getD 0 < durationMs d then some (durationMs d) else s.freeze.timer, thawMark := false }
    ∧ s.thawApplied.freeze = { s.freeze with timer := none, thawMark := false }
    ∧ (s.bus.line = .gap → (s.freezeApplied d).bus.has .thaw = false ∧ s.thawApplied.bus.has .thaw = false))

/-- Debounced inputs. REQx of a PIN load in a started state sets or clears wanted, with the load queued from OFF or turned off, and in SETUP
nothing but the level changes; a deassertion of RDYx faults a checked load with ready used, cause DROPOUT, and changes the level alone at any
other load, as an assertion does. With the debounced level the raw pin stands at the new level (DESIGN CHOICE, log 3); a row that the
time base has queued finds nothing to do where its count has fallen since (log 5). -/
def Obligations.RequestAndReadyInputs : Prop :=
  ∀ (s : State) (x : LoadIx), s.power.running = true →
    ((∀ b, .reqDebouncedChange x b ∈ s.due → (s.cfg x).debounce.ms ≤ (s.loads.req[x]).count) →
      (s.loads.req[x].level = false → (s.cfg x).source = .pin → s.member.participation ≠ .setup →
        ∃ t, exec (.reqDebouncedChange x true) s = .next t ∧ t.loads.req = s.loads.req.set x { level := true, count := 0 }
          ∧ (t.load x).wanted = true ∧ (t.load x).wish = .full ∧ t.table = s.table ∧ t.port = s.port
          ∧ ((s.load x).state = .off → (s.load x).inhibited = false → (s.load x).wanted = false →
              (t.load x).state = .waiting ∨ (t.load x).state = .claiming))
      ∧ (s.loads.req[x].level = true → (s.cfg x).source = .pin → s.member.participation ≠ .setup →
        ∃ t, exec (.reqDebouncedChange x false) s = .next t ∧ t.loads.req = s.loads.req.set x { level := false, count := 0 }
          ∧ (t.load x).wanted = false ∧ t.table = s.table ∧ t.port = s.port
          ∧ ((s.load x).wanted = true → (t.load x).state = (if (s.load x).state = .fault then .fault else .off)))
      ∧ (∀ b, s.loads.req[x].level ≠ b → (s.cfg x).source = .soft ∨ s.member.participation = .setup →
        exec (.reqDebouncedChange x b) s = .next { s with
          due := s.due.erase (.reqDebouncedChange x b)
          pins := { s.pins with req := s.pins.req.set x b }
          loads := { s.loads with req := s.loads.req.set x { level := b, count := 0 } } }))
    ∧ (∀ b, .reqDebouncedChange x b ∈ s.due → (s.loads.req[x]).count < (s.cfg x).debounce.ms →
      exec (.reqDebouncedChange x b) s = .next { s with due := s.due.erase (.reqDebouncedChange x b) })
    ∧ ((∀ b, .rdyDebouncedChange x b ∈ s.due → 1 ≤ (s.loads.rdy[x]).count) →
      (s.loads.rdy[x].level = true → (s.cfg x).readyUsed = true → (s.load x).state.checked = true →
        ∃ t, exec (.rdyDebouncedChange x false) s = .next t
          ∧ t.load x = { s.load x with state := .fault, ramp := none, cause := .dropout }
          ∧ t.port = (s.post .faulted (argOf (x.val + 8))).port ∧ t.table = s.table
          ∧ t.demand.openUnits = addAt s.demand.openUnits (s.cfg x).cls (s.occupied x))
      ∧ (∀ b, s.loads.rdy[x].level ≠ b → b = true ∨ (s.cfg x).readyUsed = false ∨ (s.load x).state.checked = false →
        exec (.rdyDebouncedChange x b) s = .next { s with
          due := s.due.erase (.rdyDebouncedChange x b)
          pins := { s.pins with rdy := s.pins.rdy.set x b }
          loads := { s.loads with rdy := s.loads.rdy.set x { level := b, count := 0 } } }))
    ∧ (∀ b, .rdyDebouncedChange x b ∈ s.due → (s.loads.rdy[x]).count = 0 →
      exec (.rdyDebouncedChange x b) s = .next { s with due := s.due.erase (.rdyDebouncedChange x b) })

/-- LIMIT in a started state asks for the limit cap at an assertion and for the normal cap at a deassertion: out of step as the request
alone; in step against the cap, whose own value clears the request, another posting a CAP in ACTIVE; held while the node's own CAP is
contended for or in flight; in SETUP for nothing. An asserted trigger, enabled and with the node following the line, puts its code on the
list or posts GROUP_DROPPED. With the debounced level the raw pin stands at the new level (DESIGN CHOICE, log 3); a trigger's assertion is
taken whatever its debounced level was (DESIGN CHOICE, log 21); a row that the time base has queued finds nothing to do where its count has
fallen since (log 5). -/
def Obligations.LimitAndTriggerInputs : Prop :=
  ∀ s : State, s.power.running = true →
    ((∀ b, .limitDebouncedChange b ∈ s.due → 32 ≤ s.cap.limit.count) → ∀ b, s.cap.limit.level ≠ b →
      ∃ t v, exec (.limitDebouncedChange b) s = .next t ∧ v = (if b then s.settings.limitCap else s.settings.normalCap)
      ∧ t.cap.limit = { level := b, count := 0 } ∧ t.pins = { s.pins with limit := b } ∧ t.table = s.table ∧ t.port = s.port
      ∧ (s.member.participation = .setup → t.cap.request = s.cap.request ∧ t.cap.held = s.cap.held)
      ∧ (s.member.participation ≠ .setup → s.bus.capBusy = true → t.cap.held = some v ∧ t.cap.request = s.cap.request ∧ t.bus = s.bus)
      ∧ (s.member.participation = .seeking ∨ s.member.participation = .detached → s.bus.capBusy = false → t.cap.request = some v)
      ∧ (s.member.participation.inStep = true → s.bus.capBusy = false →
          (v = s.table.cap → t.cap.request = none ∧ t.bus.has .cap = false)
          ∧ (v ≠ s.table.cap → t.cap.request = some v ∧ (s.member.participation = .active → t.bus.has .cap = true)
              ∧ (s.member.participation ≠ .active → t.bus = s.bus))))
    ∧ (∀ b, .limitDebouncedChange b ∈ s.due → s.cap.limit.count < 32 →
      exec (.limitDebouncedChange b) s = .next { s with due := s.due.erase (.limitDebouncedChange b) })
    ∧ ∀ i : Fin 2,
      ((.trgDebouncedAssertion i ∈ s.due → 32 ≤ (s.group.trg[i]).count) →
        ∃ t, exec (.trgDebouncedAssertion i) s = .next t ∧ t.table = s.table
          ∧ t.group.trg = s.group.trg.set i { level := true, count := 0 } ∧ t.pins = { s.pins with trg := s.pins.trg.set i true }
          ∧ ((s.settings.triggers[i]).enabled = true → s.member.participation.onLine = true → s.bus.codes.length < 4 →
              t.bus = { s.bus with codes := s.bus.codes ++ [(s.settings.triggers[i]).code] } ∧ t.port = s.port)
          ∧ ((s.settings.triggers[i]).enabled = true → s.member.participation.onLine = true → 4 ≤ s.bus.codes.length →
              t.bus = s.bus ∧ t.port = (s.post .groupDropped (argOf i.val)).port)
          ∧ ((s.settings.triggers[i]).enabled = false ∨ s.member.participation.onLine = false → t.bus = s.bus ∧ t.port = s.port))
      ∧ (.trgDebouncedAssertion i ∈ s.due → (s.group.trg[i]).count < 32 →
        exec (.trgDebouncedAssertion i) s = .next { s with due := s.due.erase (.trgDebouncedAssertion i) })

/-! ## Shedding (chapter 7) and the release account (chapter 6) -/

/-- The shed plan of a table over cap shares the whole excess, asks nobody for more than it holds, and reaches a class only when every holding
of the higher-numbered classes is given. -/
def Obligations.ShedPlanSharesExcess : Prop :=
  ∀ t : Table, t.overCap = true →
    (t.plan.map (·.2)).sum = t.total - t.cap.toNat
    ∧ (∀ q : Station, ∀ k : ClassIx, t.obligation q k ≤ t.entries[q].held[k])
    ∧ (∀ q : Station, ∀ k : ClassIx, t.entries[q].member = false → t.obligation q k = 0)
    ∧ ∀ q p : Station, ∀ k j : ClassIx, 0 < t.obligation q k → (k < j ∨ (k = j ∧ q < p)) → t.entries[p].member = true →
        t.obligation p j = t.entries[p].held[j]

/-- The local shed order ends with the class's occupied units at most the target, and sheds nothing from a class already there. A plan acted
on leaves each class with an obligation at most its target, the own holding less the obligation. -/
def Obligations.LocalShedMeetsTarget : Prop :=
  ∀ (s : State) (k : ClassIx) (target : Nat), s.listsSound → s.recordsSound →
    (s.shedClass k target).occupiedIn k ≤ target
    ∧ (s.occupiedIn k ≤ target → s.shedClass k target = s)
    ∧ (0 < s.table.obligation s.address k →
        s.executePlan.occupiedIn k ≤ s.table.entries[s.address].held[k] - s.table.obligation s.address k)

/-- Over a drop to keep, over a load turned off and over a fault, occupied units and open account together stay the same in every class:
the units go to the release account. (Revocation and entry to DETACHED clear the account; they are not these.) -/
def Obligations.UnitsFreedAreAccounted : Prop :=
  ∀ (s : State) (x : LoadIx) (k : ClassIx), (s.cfg x).keep.toNat ≤ (s.cfg x).full.toNat →
    (s.lowerToKeep x).occupiedIn k + (s.lowerToKeep x).demand.openUnits[k] = s.occupiedIn k + s.demand.openUnits[k]
    ∧ (s.turnOff x).occupiedIn k + (s.turnOff x).demand.openUnits[k] = s.occupiedIn k + s.demand.openUnits[k]
    ∧ ∀ cause, (s.faultLoad x cause).occupiedIn k + (s.faultLoad x cause).demand.openUnits[k]
        = s.occupiedIn k + s.demand.openUnits[k]

/-- Composition: with every condition of R111 met, a head, waiting or raising, that needs more than free sets the blocked flag and nothing else; a head that fits
fills the slot with its load, class and units and a CLAIM item is on the list. Queue entry: behind every load of its class that stood there,
ahead of the first load of a higher class. -/
def Obligations.QueueOrderAndComposition : Prop :=
  (∀ (s : State) (x : LoadIx) (rest : List LoadIx), s.member.participation = .active → s.table.frozen = false →
    s.demand.blocked = none → s.demand.slot = none → s.demand.queue = x :: rest →
    ((s.load x).state = .waiting → s.table.free < (s.cfg x).full.toNat →
      s.compose = { s with demand := { s.demand with blocked := some x } })
    ∧ ((s.load x).state = .raiseWait → s.table.free < (s.cfg x).full.toNat - (s.cfg x).keep.toNat →
      s.compose = { s with demand := { s.demand with blocked := some x } })
    ∧ ((s.load x).state = .waiting → (s.cfg x).full.toNat ≤ s.table.free →
      (s.compose.load x).state = .claiming ∧ s.compose.bus.has .claim = true
      ∧ s.compose.demand = { s.demand with slot := some ⟨x, (s.cfg x).cls, (s.cfg x).full.toNat, false, false⟩ })
    ∧ ((s.load x).state = .raiseWait → (s.cfg x).full.toNat - (s.cfg x).keep.toNat ≤ s.table.free →
      (s.compose.load x).state = .raiseClaim ∧ s.compose.bus.has .claim = true
      ∧ s.compose.demand = { s.demand with slot := some ⟨x, (s.cfg x).cls, (s.cfg x).full.toNat - (s.cfg x).keep.toNat, false, false⟩ }))
  ∧ (∀ (cls : LoadIx → ClassIx) (x : LoadIx) (q : List LoadIx), q.Pairwise (fun a b => cls a ≤ cls b) →
    ∃ front back, q = front ++ back ∧ enqueueBy cls x q = front ++ x :: back
      ∧ (∀ y ∈ front, cls y ≤ cls x) ∧ (∀ y ∈ back, cls x < cls y)
      ∧ (enqueueBy cls x q).Pairwise (fun a b => cls a ≤ cls b))

/-! ## The wire (2.2 to 2.5) -/

/-- The frame check code is the register of R28, one bit at a time from FFFFh. No five recessive bits in a row are sent, and a receiver that
takes the region's length gets the region back, whatever follows. -/
def Obligations.CheckCodeAndStuffing : Prop :=
  (frameCheck [] = 0xFFFF
  ∧ ∀ (bits : List Bool) (b : Bool),
      frameCheck (bits ++ [b]) =
        (if (frameCheck bits).getLsbD 15 ^^ b then (frameCheck bits <<< 1) ^^^ 0x1021 else frameCheck bits <<< 1))
  ∧ (∀ bits rest : List Bool,
    (∃ run, unstuff bits.length 0 (stuff 0 bits ++ rest) = some (bits, run, rest))
    ∧ ∀ pre post, stuff 0 bits ≠ pre ++ List.replicate 5 true ++ post)

/-- Every frame that a node can send is read back whole: source, body and slots. -/
def Obligations.FramesReadBackAsSent : Prop :=
  ∀ (q : Station) (body : FrameBody) (slots : Slots), receive (lineBits q body slots) = .intact q body slots

/-! ## What stays true at every step -/

/-- The event queue and the send list stay within their bounds. -/
def Obligations.QueuesStayBounded : Prop :=
  ∀ s t : State, step s = .next t → (s.port.sound → t.port.sound) ∧ (s.bus.sound → t.bus.sound)

/-- Every holding stays in 0..2047 and every ABSENT entry holds nothing, in the table and in a collected copy. -/
def Obligations.TablesStaySound : Prop :=
  ∀ s t : State, s.tablesSound → step s = .next t → t.tablesSound

/-- What belongs to seeking is found in SEEKING alone; and in SETUP and DETACHED outputs, table and send list stay empty. -/
def Obligations.SeekingAndParkedStaySound : Prop :=
  ∀ s t : State, s.member.sound → s.parkedSound → step s = .next t → t.member.sound ∧ t.parkedSound

/-- Load records stay sound, the demand queue and the grant list stay in step with the load states, and the queue stays ordered by class. -/
def Obligations.LoadsAndListsStaySound : Prop :=
  ∀ s t : State, step s = .next t →
    (s.recordsSound → s.listsSound → t.recordsSound ∧ t.listsSound) ∧ (s.queueSound → t.queueSound)

/-- The state after a power-on reset has every property that the steps keep. -/
def Obligations.ResetStateIsSound : Prop :=
  State.reset.port.sound ∧ State.reset.bus.sound ∧ State.reset.tablesSound ∧ State.reset.member.sound ∧ State.reset.parkedSound
    ∧ State.reset.recordsSound ∧ State.reset.listsSound ∧ State.reset.queueSound ∧ State.reset.balanceSound
end

