-- ==== Sys2Proof/Laws/State.lean ====
section
/-! SUPPORT. What each named update of State leaves alone: one lemma per update, every line true by rfl. -/

namespace Sys2Proof.Machine

@[simp] theorem State.taken_frame (s : State) (i : Instr) :
    (s.taken i).pending = s.pending ∧ (s.taken i).power = s.power ∧ (s.taken i).pins = s.pins ∧
    (s.taken i).address = s.address ∧ (s.taken i).settings = s.settings ∧ (s.taken i).table = s.table ∧
    (s.taken i).bus = s.bus ∧ (s.taken i).member = s.member ∧ (s.taken i).lease = s.lease ∧ (s.taken i).loads = s.loads ∧
    (s.taken i).demand = s.demand ∧ (s.taken i).cap = s.cap ∧ (s.taken i).freeze = s.freeze ∧ (s.taken i).group = s.group ∧
    (s.taken i).port = s.port := by
  and_intros <;> rfl

@[simp] theorem State.taken_due (s : State) (i : Instr) : (s.taken i).due = s.due.erase i := rfl

/-- A row takes effect where the time base has not queued it, or its timer or input still stands at its end. -/
theorem State.takeRow_of_stands (s : State) (i : Instr) (b : Bool) (f : State → State) (h : i ∈ s.due → b = true) :
    s.takeRow i b f = f (s.taken i) := by
  unfold State.takeRow
  by_cases hi : i ∈ s.due <;> simp_all

/-- A row that the time base has queued, and whose timer or input has moved since, does nothing. -/
theorem State.takeRow_of_late (s : State) (i : Instr) (f : State → State) (h : i ∈ s.due) : s.takeRow i false f = s.taken i := by
  simp [State.takeRow, h]

@[simp] theorem State.setLoad_frame (s : State) (x : LoadIx) (r : LoadRecord) :
    (s.setLoad x r).pending = s.pending ∧ (s.setLoad x r).due = s.due ∧ (s.setLoad x r).power = s.power ∧
    (s.setLoad x r).pins = s.pins ∧ (s.setLoad x r).address = s.address ∧ (s.setLoad x r).settings = s.settings ∧
    (s.setLoad x r).table = s.table ∧ (s.setLoad x r).bus = s.bus ∧ (s.setLoad x r).member = s.member ∧
    (s.setLoad x r).lease = s.lease ∧ (s.setLoad x r).demand = s.demand ∧ (s.setLoad x r).cap = s.cap ∧
    (s.setLoad x r).freeze = s.freeze ∧ (s.setLoad x r).group = s.group ∧ (s.setLoad x r).port = s.port := by
  and_intros <;> rfl

@[simp] theorem State.setLoadState_frame (s : State) (x : LoadIx) (l : LoadState) :
    (s.setLoadState x l).pending = s.pending ∧ (s.setLoadState x l).due = s.due ∧ (s.setLoadState x l).power = s.power ∧
    (s.setLoadState x l).pins = s.pins ∧ (s.setLoadState x l).address = s.address ∧ (s.setLoadState x l).settings = s.settings ∧
    (s.setLoadState x l).table = s.table ∧ (s.setLoadState x l).bus = s.bus ∧ (s.setLoadState x l).member = s.member ∧
    (s.setLoadState x l).lease = s.lease ∧ (s.setLoadState x l).demand = s.demand ∧ (s.setLoadState x l).cap = s.cap ∧
    (s.setLoadState x l).freeze = s.freeze ∧ (s.setLoadState x l).group = s.group ∧ (s.setLoadState x l).port = s.port := by
  and_intros <;> rfl

@[simp] theorem State.setResult_frame (s : State) (r : CommandResult) (b : Byte) :
    (s.setResult r b).pending = s.pending ∧ (s.setResult r b).due = s.due ∧ (s.setResult r b).power = s.power ∧
    (s.setResult r b).pins = s.pins ∧ (s.setResult r b).address = s.address ∧ (s.setResult r b).settings = s.settings ∧
    (s.setResult r b).table = s.table ∧ (s.setResult r b).bus = s.bus ∧ (s.setResult r b).member = s.member ∧
    (s.setResult r b).lease = s.lease ∧ (s.setResult r b).loads = s.loads ∧ (s.setResult r b).demand = s.demand ∧
    (s.setResult r b).cap = s.cap ∧ (s.setResult r b).freeze = s.freeze ∧ (s.setResult r b).group = s.group := by
  and_intros <;> rfl

@[simp] theorem State.storeCommand_frame (s : State) (c a : Byte) :
    (s.storeCommand c a).pending = s.pending ∧ (s.storeCommand c a).due = s.due ∧ (s.storeCommand c a).power = s.power ∧
    (s.storeCommand c a).pins = s.pins ∧ (s.storeCommand c a).address = s.address ∧ (s.storeCommand c a).settings = s.settings ∧
    (s.storeCommand c a).table = s.table ∧ (s.storeCommand c a).bus = s.bus ∧ (s.storeCommand c a).member = s.member ∧
    (s.storeCommand c a).lease = s.lease ∧ (s.storeCommand c a).loads = s.loads ∧ (s.storeCommand c a).demand = s.demand ∧
    (s.storeCommand c a).cap = s.cap ∧ (s.storeCommand c a).freeze = s.freeze ∧ (s.storeCommand c a).group = s.group := by
  and_intros <;> rfl

@[simp] theorem State.dropItem_frame (s : State) (k : FrameKind) :
    (s.dropItem k).pending = s.pending ∧ (s.dropItem k).due = s.due ∧ (s.dropItem k).power = s.power ∧
    (s.dropItem k).pins = s.pins ∧ (s.dropItem k).address = s.address ∧ (s.dropItem k).settings = s.settings ∧
    (s.dropItem k).table = s.table ∧ (s.dropItem k).member = s.member ∧ (s.dropItem k).lease = s.lease ∧
    (s.dropItem k).loads = s.loads ∧ (s.dropItem k).demand = s.demand ∧ (s.dropItem k).cap = s.cap ∧
    (s.dropItem k).freeze = s.freeze ∧ (s.dropItem k).group = s.group ∧ (s.dropItem k).port = s.port := by
  and_intros <;> rfl

@[simp] theorem State.keepItem_frame (s : State) (k : FrameKind) (n : Nat) :
    (s.keepItem k n).pending = s.pending ∧ (s.keepItem k n).due = s.due ∧ (s.keepItem k n).power = s.power ∧
    (s.keepItem k n).pins = s.pins ∧ (s.keepItem k n).address = s.address ∧ (s.keepItem k n).settings = s.settings ∧
    (s.keepItem k n).table = s.table ∧ (s.keepItem k n).member = s.member ∧ (s.keepItem k n).lease = s.lease ∧
    (s.keepItem k n).loads = s.loads ∧ (s.keepItem k n).demand = s.demand ∧ (s.keepItem k n).cap = s.cap ∧
    (s.keepItem k n).freeze = s.freeze ∧ (s.keepItem k n).group = s.group ∧ (s.keepItem k n).port = s.port := by
  and_intros <;> rfl

@[simp] theorem State.setParticipation_frame (s : State) (p : Participation) :
    (s.setParticipation p).pending = s.pending ∧ (s.setParticipation p).due = s.due ∧ (s.setParticipation p).power = s.power ∧
    (s.setParticipation p).pins = s.pins ∧ (s.setParticipation p).address = s.address ∧
    (s.setParticipation p).settings = s.settings ∧ (s.setParticipation p).table = s.table ∧
    (s.setParticipation p).lease = s.lease ∧ (s.setParticipation p).loads = s.loads ∧ (s.setParticipation p).demand = s.demand ∧
    (s.setParticipation p).cap = s.cap ∧ (s.setParticipation p).freeze = s.freeze ∧ (s.setParticipation p).group = s.group ∧
    (s.setParticipation p).port = s.port := by
  and_intros <;> rfl

@[simp] theorem State.placeCode_frame (s : State) (c : Byte) :
    (s.placeCode c).pending = s.pending ∧ (s.placeCode c).due = s.due ∧ (s.placeCode c).power = s.power ∧
    (s.placeCode c).pins = s.pins ∧ (s.placeCode c).address = s.address ∧ (s.placeCode c).settings = s.settings ∧
    (s.placeCode c).table = s.table ∧ (s.placeCode c).member = s.member ∧ (s.placeCode c).lease = s.lease ∧
    (s.placeCode c).loads = s.loads ∧ (s.placeCode c).demand = s.demand ∧ (s.placeCode c).cap = s.cap ∧
    (s.placeCode c).freeze = s.freeze ∧ (s.placeCode c).group = s.group ∧ (s.placeCode c).port = s.port := by
  and_intros <;> rfl

@[simp] theorem State.setLine_frame (s : State) (l : Line) :
    (s.setLine l).pending = s.pending ∧ (s.setLine l).due = s.due ∧ (s.setLine l).power = s.power ∧
    (s.setLine l).pins = s.pins ∧ (s.setLine l).address = s.address ∧ (s.setLine l).settings = s.settings ∧
    (s.setLine l).table = s.table ∧ (s.setLine l).member = s.member ∧ (s.setLine l).lease = s.lease ∧
    (s.setLine l).loads = s.loads ∧ (s.setLine l).demand = s.demand ∧ (s.setLine l).cap = s.cap ∧
    (s.setLine l).freeze = s.freeze ∧ (s.setLine l).group = s.group ∧ (s.setLine l).port = s.port := by
  and_intros <;> rfl

@[simp] theorem State.enqueue_frame (s : State) (x : LoadIx) :
    (s.enqueue x).pending = s.pending ∧ (s.enqueue x).due = s.due ∧ (s.enqueue x).power = s.power ∧
    (s.enqueue x).pins = s.pins ∧ (s.enqueue x).address = s.address ∧ (s.enqueue x).settings = s.settings ∧
    (s.enqueue x).table = s.table ∧ (s.enqueue x).bus = s.bus ∧ (s.enqueue x).member = s.member ∧
    (s.enqueue x).lease = s.lease ∧ (s.enqueue x).loads = s.loads ∧ (s.enqueue x).cap = s.cap ∧
    (s.enqueue x).freeze = s.freeze ∧ (s.enqueue x).group = s.group ∧ (s.enqueue x).port = s.port := by
  and_intros <;> rfl

@[simp] theorem State.dequeue_frame (s : State) (x : LoadIx) :
    (s.dequeue x).pending = s.pending ∧ (s.dequeue x).due = s.due ∧ (s.dequeue x).power = s.power ∧
    (s.dequeue x).pins = s.pins ∧ (s.dequeue x).address = s.address ∧ (s.dequeue x).settings = s.settings ∧
    (s.dequeue x).table = s.table ∧ (s.dequeue x).bus = s.bus ∧ (s.dequeue x).member = s.member ∧
    (s.dequeue x).lease = s.lease ∧ (s.dequeue x).loads = s.loads ∧ (s.dequeue x).cap = s.cap ∧
    (s.dequeue x).freeze = s.freeze ∧ (s.dequeue x).group = s.group ∧ (s.dequeue x).port = s.port := by
  and_intros <;> rfl

@[simp] theorem State.reopenAccount_frame (s : State) :
    (s.reopenAccount).pending = s.pending ∧ (s.reopenAccount).due = s.due ∧ (s.reopenAccount).power = s.power ∧
    (s.reopenAccount).pins = s.pins ∧ (s.reopenAccount).address = s.address ∧ (s.reopenAccount).settings = s.settings ∧
    (s.reopenAccount).table = s.table ∧ (s.reopenAccount).bus = s.bus ∧ (s.reopenAccount).member = s.member ∧
    (s.reopenAccount).lease = s.lease ∧ (s.reopenAccount).loads = s.loads ∧ (s.reopenAccount).cap = s.cap ∧
    (s.reopenAccount).freeze = s.freeze ∧ (s.reopenAccount).group = s.group ∧ (s.reopenAccount).port = s.port := by
  and_intros <;> rfl

@[simp] theorem State.clearAccount_frame (s : State) :
    (s.clearAccount).pending = s.pending ∧ (s.clearAccount).due = s.due ∧ (s.clearAccount).power = s.power ∧
    (s.clearAccount).pins = s.pins ∧ (s.clearAccount).address = s.address ∧ (s.clearAccount).settings = s.settings ∧
    (s.clearAccount).table = s.table ∧ (s.clearAccount).bus = s.bus ∧ (s.clearAccount).member = s.member ∧
    (s.clearAccount).lease = s.lease ∧ (s.clearAccount).loads = s.loads ∧ (s.clearAccount).cap = s.cap ∧
    (s.clearAccount).freeze = s.freeze ∧ (s.clearAccount).group = s.group ∧ (s.clearAccount).port = s.port := by
  and_intros <;> rfl

@[simp] theorem State.accountOccupied_frame (s : State) :
    (s.accountOccupied).pending = s.pending ∧ (s.accountOccupied).due = s.due ∧ (s.accountOccupied).power = s.power ∧
    (s.accountOccupied).pins = s.pins ∧ (s.accountOccupied).address = s.address ∧ (s.accountOccupied).settings = s.settings ∧
    (s.accountOccupied).table = s.table ∧ (s.accountOccupied).bus = s.bus ∧ (s.accountOccupied).member = s.member ∧
    (s.accountOccupied).lease = s.lease ∧ (s.accountOccupied).loads = s.loads ∧ (s.accountOccupied).cap = s.cap ∧
    (s.accountOccupied).freeze = s.freeze ∧ (s.accountOccupied).group = s.group ∧ (s.accountOccupied).port = s.port := by
  and_intros <;> rfl

@[simp] theorem State.setSlot_frame (s : State) (c : Option ClaimSlot) :
    (s.setSlot c).pending = s.pending ∧ (s.setSlot c).due = s.due ∧ (s.setSlot c).power = s.power ∧
    (s.setSlot c).pins = s.pins ∧ (s.setSlot c).address = s.address ∧ (s.setSlot c).settings = s.settings ∧
    (s.setSlot c).table = s.table ∧ (s.setSlot c).bus = s.bus ∧ (s.setSlot c).member = s.member ∧
    (s.setSlot c).lease = s.lease ∧ (s.setSlot c).loads = s.loads ∧ (s.setSlot c).cap = s.cap ∧
    (s.setSlot c).freeze = s.freeze ∧ (s.setSlot c).group = s.group ∧ (s.setSlot c).port = s.port := by
  and_intros <;> rfl

@[simp] theorem State.setBlocked_frame (s : State) (x : Option LoadIx) :
    (s.setBlocked x).pending = s.pending ∧ (s.setBlocked x).due = s.due ∧ (s.setBlocked x).power = s.power ∧
    (s.setBlocked x).pins = s.pins ∧ (s.setBlocked x).address = s.address ∧ (s.setBlocked x).settings = s.settings ∧
    (s.setBlocked x).table = s.table ∧ (s.setBlocked x).bus = s.bus ∧ (s.setBlocked x).member = s.member ∧
    (s.setBlocked x).lease = s.lease ∧ (s.setBlocked x).loads = s.loads ∧ (s.setBlocked x).cap = s.cap ∧
    (s.setBlocked x).freeze = s.freeze ∧ (s.setBlocked x).group = s.group ∧ (s.setBlocked x).port = s.port := by
  and_intros <;> rfl

@[simp] theorem State.ungrant_frame (s : State) (x : LoadIx) :
    (s.ungrant x).pending = s.pending ∧ (s.ungrant x).due = s.due ∧ (s.ungrant x).power = s.power ∧
    (s.ungrant x).pins = s.pins ∧ (s.ungrant x).address = s.address ∧ (s.ungrant x).settings = s.settings ∧
    (s.ungrant x).table = s.table ∧ (s.ungrant x).bus = s.bus ∧ (s.ungrant x).member = s.member ∧
    (s.ungrant x).lease = s.lease ∧ (s.ungrant x).demand = s.demand ∧ (s.ungrant x).cap = s.cap ∧
    (s.ungrant x).freeze = s.freeze ∧ (s.ungrant x).group = s.group ∧ (s.ungrant x).port = s.port := by
  and_intros <;> rfl

@[simp] theorem State.grantFirst_frame (s : State) (x : LoadIx) :
    (s.grantFirst x).pending = s.pending ∧ (s.grantFirst x).due = s.due ∧ (s.grantFirst x).power = s.power ∧
    (s.grantFirst x).pins = s.pins ∧ (s.grantFirst x).address = s.address ∧ (s.grantFirst x).settings = s.settings ∧
    (s.grantFirst x).table = s.table ∧ (s.grantFirst x).bus = s.bus ∧ (s.grantFirst x).member = s.member ∧
    (s.grantFirst x).lease = s.lease ∧ (s.grantFirst x).demand = s.demand ∧ (s.grantFirst x).cap = s.cap ∧
    (s.grantFirst x).freeze = s.freeze ∧ (s.grantFirst x).group = s.group ∧ (s.grantFirst x).port = s.port := by
  and_intros <;> rfl

@[simp] theorem State.setRequest_frame (s : State) (v : Option Word16) :
    (s.setRequest v).pending = s.pending ∧ (s.setRequest v).due = s.due ∧ (s.setRequest v).power = s.power ∧
    (s.setRequest v).pins = s.pins ∧ (s.setRequest v).address = s.address ∧ (s.setRequest v).settings = s.settings ∧
    (s.setRequest v).table = s.table ∧ (s.setRequest v).bus = s.bus ∧ (s.setRequest v).member = s.member ∧
    (s.setRequest v).lease = s.lease ∧ (s.setRequest v).loads = s.loads ∧ (s.setRequest v).demand = s.demand ∧
    (s.setRequest v).freeze = s.freeze ∧ (s.setRequest v).group = s.group ∧ (s.setRequest v).port = s.port := by
  and_intros <;> rfl

@[simp] theorem State.resetFreezeTimer_frame (s : State) :
    (s.resetFreezeTimer).pending = s.pending ∧ (s.resetFreezeTimer).due = s.due ∧ (s.resetFreezeTimer).power = s.power ∧
    (s.resetFreezeTimer).pins = s.pins ∧ (s.resetFreezeTimer).address = s.address ∧ (s.resetFreezeTimer).settings = s.settings ∧
    (s.resetFreezeTimer).table = s.table ∧ (s.resetFreezeTimer).bus = s.bus ∧ (s.resetFreezeTimer).member = s.member ∧
    (s.resetFreezeTimer).lease = s.lease ∧ (s.resetFreezeTimer).loads = s.loads ∧ (s.resetFreezeTimer).demand = s.demand ∧
    (s.resetFreezeTimer).cap = s.cap ∧ (s.resetFreezeTimer).group = s.group ∧ (s.resetFreezeTimer).port = s.port := by
  and_intros <;> rfl

@[simp] theorem State.installFreeze_frame (s : State) (h : ImageHeader) :
    (s.installFreeze h).pending = s.pending ∧ (s.installFreeze h).due = s.due ∧ (s.installFreeze h).power = s.power ∧
    (s.installFreeze h).pins = s.pins ∧ (s.installFreeze h).address = s.address ∧ (s.installFreeze h).settings = s.settings ∧
    (s.installFreeze h).table = s.table ∧ (s.installFreeze h).bus = s.bus ∧ (s.installFreeze h).member = s.member ∧
    (s.installFreeze h).lease = s.lease ∧ (s.installFreeze h).loads = s.loads ∧ (s.installFreeze h).demand = s.demand ∧
    (s.installFreeze h).cap = s.cap ∧ (s.installFreeze h).group = s.group ∧ (s.installFreeze h).port = s.port := by
  and_intros <;> rfl

@[simp] theorem State.startSilence_frame (s : State) (q : Station) :
    (s.startSilence q).pending = s.pending ∧ (s.startSilence q).due = s.due ∧ (s.startSilence q).power = s.power ∧
    (s.startSilence q).pins = s.pins ∧ (s.startSilence q).address = s.address ∧ (s.startSilence q).settings = s.settings ∧
    (s.startSilence q).table = s.table ∧ (s.startSilence q).bus = s.bus ∧ (s.startSilence q).member = s.member ∧
    (s.startSilence q).loads = s.loads ∧ (s.startSilence q).demand = s.demand ∧ (s.startSilence q).cap = s.cap ∧
    (s.startSilence q).freeze = s.freeze ∧ (s.startSilence q).group = s.group ∧ (s.startSilence q).port = s.port := by
  and_intros <;> rfl

@[simp] theorem State.stopSilence_frame (s : State) :
    (s.stopSilence).pending = s.pending ∧ (s.stopSilence).due = s.due ∧ (s.stopSilence).power = s.power ∧
    (s.stopSilence).pins = s.pins ∧ (s.stopSilence).address = s.address ∧ (s.stopSilence).settings = s.settings ∧
    (s.stopSilence).table = s.table ∧ (s.stopSilence).bus = s.bus ∧ (s.stopSilence).member = s.member ∧
    (s.stopSilence).loads = s.loads ∧ (s.stopSilence).demand = s.demand ∧ (s.stopSilence).cap = s.cap ∧
    (s.stopSilence).freeze = s.freeze ∧ (s.stopSilence).group = s.group ∧ (s.stopSilence).port = s.port := by
  and_intros <;> rfl

@[simp] theorem State.startLease_frame (s : State) :
    (s.startLease).pending = s.pending ∧ (s.startLease).due = s.due ∧ (s.startLease).power = s.power ∧
    (s.startLease).pins = s.pins ∧ (s.startLease).address = s.address ∧ (s.startLease).settings = s.settings ∧
    (s.startLease).table = s.table ∧ (s.startLease).bus = s.bus ∧ (s.startLease).member = s.member ∧
    (s.startLease).loads = s.loads ∧ (s.startLease).demand = s.demand ∧ (s.startLease).cap = s.cap ∧
    (s.startLease).freeze = s.freeze ∧ (s.startLease).group = s.group ∧ (s.startLease).port = s.port := by
  and_intros <;> rfl

@[simp] theorem State.setReq_frame (s : State) (x : LoadIx) (l : Bool) :
    (s.setReq x l).pending = s.pending ∧ (s.setReq x l).due = s.due ∧ (s.setReq x l).power = s.power ∧
    (s.setReq x l).address = s.address ∧ (s.setReq x l).settings = s.settings ∧ (s.setReq x l).table = s.table ∧
    (s.setReq x l).bus = s.bus ∧ (s.setReq x l).member = s.member ∧ (s.setReq x l).lease = s.lease ∧
    (s.setReq x l).demand = s.demand ∧ (s.setReq x l).cap = s.cap ∧ (s.setReq x l).freeze = s.freeze ∧
    (s.setReq x l).group = s.group ∧ (s.setReq x l).port = s.port := by
  and_intros <;> rfl

@[simp] theorem State.setRdy_frame (s : State) (x : LoadIx) (l : Bool) :
    (s.setRdy x l).pending = s.pending ∧ (s.setRdy x l).due = s.due ∧ (s.setRdy x l).power = s.power ∧
    (s.setRdy x l).address = s.address ∧ (s.setRdy x l).settings = s.settings ∧ (s.setRdy x l).table = s.table ∧
    (s.setRdy x l).bus = s.bus ∧ (s.setRdy x l).member = s.member ∧ (s.setRdy x l).lease = s.lease ∧
    (s.setRdy x l).demand = s.demand ∧ (s.setRdy x l).cap = s.cap ∧ (s.setRdy x l).freeze = s.freeze ∧
    (s.setRdy x l).group = s.group ∧ (s.setRdy x l).port = s.port := by
  and_intros <;> rfl

@[simp] theorem State.setLimit_frame (s : State) (l : Bool) :
    (s.setLimit l).pending = s.pending ∧ (s.setLimit l).due = s.due ∧ (s.setLimit l).power = s.power ∧
    (s.setLimit l).address = s.address ∧ (s.setLimit l).settings = s.settings ∧ (s.setLimit l).table = s.table ∧
    (s.setLimit l).bus = s.bus ∧ (s.setLimit l).member = s.member ∧ (s.setLimit l).lease = s.lease ∧
    (s.setLimit l).loads = s.loads ∧ (s.setLimit l).demand = s.demand ∧ (s.setLimit l).freeze = s.freeze ∧
    (s.setLimit l).group = s.group ∧ (s.setLimit l).port = s.port := by
  and_intros <;> rfl

@[simp] theorem State.setTrg_frame (s : State) (t : Fin 2) (l : Bool) :
    (s.setTrg t l).pending = s.pending ∧ (s.setTrg t l).due = s.due ∧ (s.setTrg t l).power = s.power ∧
    (s.setTrg t l).address = s.address ∧ (s.setTrg t l).settings = s.settings ∧ (s.setTrg t l).table = s.table ∧
    (s.setTrg t l).bus = s.bus ∧ (s.setTrg t l).member = s.member ∧ (s.setTrg t l).lease = s.lease ∧
    (s.setTrg t l).loads = s.loads ∧ (s.setTrg t l).demand = s.demand ∧ (s.setTrg t l).cap = s.cap ∧
    (s.setTrg t l).freeze = s.freeze ∧ (s.setTrg t l).port = s.port := by
  and_intros <;> rfl

/-! ## What an update writes -/

@[simp] theorem State.load_setLoad_self (s : State) (x : LoadIx) (r : LoadRecord) : (s.setLoad x r).load x = r := by
  simp [State.load, State.setLoad]

theorem State.load_setLoad_of_ne (s : State) {x y : LoadIx} (r : LoadRecord) (h : x ≠ y) : (s.setLoad x r).load y = s.load y := by
  have : x.val ≠ y.val := fun e => h (Fin.ext e)
  simp [State.load, State.setLoad, Vector.getElem_set_ne, this]

@[simp] theorem State.cfg_setLoad (s : State) (x y : LoadIx) (r : LoadRecord) : (s.setLoad x r).cfg y = s.cfg y := rfl

@[simp] theorem State.setResult_port (s : State) (r : CommandResult) (b : Byte) :
    (s.setResult r b).port = { s.port with result := r, badIndex := b } := rfl

@[simp] theorem State.storeCommand_port (s : State) (c a : Byte) :
    (s.storeCommand c a).port = { s.port with command := c ++ a } := rfl

@[simp] theorem State.setLine_bus (s : State) (l : Line) : (s.setLine l).bus = { s.bus with line := l } := rfl

@[simp] theorem State.setSlot_demand (s : State) (c : Option ClaimSlot) : (s.setSlot c).demand = { s.demand with slot := c } := rfl

@[simp] theorem State.setBlocked_demand (s : State) (x : Option LoadIx) :
    (s.setBlocked x).demand = { s.demand with blocked := x } := rfl

@[simp] theorem State.setRequest_cap (s : State) (v : Option Word16) : (s.setRequest v).cap = { s.cap with request := v } := rfl

@[simp] theorem State.setParticipation_member (s : State) (p : Participation) :
    (s.setParticipation p).member = { s.member with participation := p } := rfl

@[simp] theorem State.dropItem_bus (s : State) (k : FrameKind) : (s.dropItem k).bus = s.bus.drop k := rfl

@[simp] theorem State.placeCode_bus (s : State) (c : Byte) : (s.placeCode c).bus = { s.bus with codes := s.bus.codes ++ [c] } := rfl

end Sys2Proof.Machine
end

