-- ==== Sys2Proof/Laws/Ops.lean ====
section
/-! SUPPORT. What each shared operation leaves alone (its frame): later proofs cite these and do not unfold the operation. -/

namespace Sys2Proof.Machine

@[simp] theorem State.postAt_frame (s : State) (w : Word16) (c : EventCode) (a : Byte) :
    (s.postAt w c a).pending = s.pending ∧ (s.postAt w c a).due = s.due ∧ (s.postAt w c a).power = s.power ∧
    (s.postAt w c a).pins = s.pins ∧ (s.postAt w c a).address = s.address ∧ (s.postAt w c a).settings = s.settings ∧
    (s.postAt w c a).table = s.table ∧ (s.postAt w c a).bus = s.bus ∧ (s.postAt w c a).member = s.member ∧
    (s.postAt w c a).lease = s.lease ∧ (s.postAt w c a).loads = s.loads ∧ (s.postAt w c a).demand = s.demand ∧
    (s.postAt w c a).cap = s.cap ∧ (s.postAt w c a).freeze = s.freeze ∧ (s.postAt w c a).group = s.group := by
  unfold State.postAt; (repeat' split) <;> simp_all

@[simp] theorem State.post_frame (s : State) (c : EventCode) (a : Byte) :
    (s.post c a).pending = s.pending ∧ (s.post c a).due = s.due ∧ (s.post c a).power = s.power ∧ (s.post c a).pins = s.pins ∧
    (s.post c a).address = s.address ∧ (s.post c a).settings = s.settings ∧ (s.post c a).table = s.table ∧
    (s.post c a).bus = s.bus ∧ (s.post c a).member = s.member ∧ (s.post c a).lease = s.lease ∧ (s.post c a).loads = s.loads ∧
    (s.post c a).demand = s.demand ∧ (s.post c a).cap = s.cap ∧ (s.post c a).freeze = s.freeze ∧ (s.post c a).group = s.group := by
  simp [State.post]

@[simp] theorem State.postPhase_frame (s : State) :
    (s.postPhase).pending = s.pending ∧ (s.postPhase).due = s.due ∧ (s.postPhase).power = s.power ∧
    (s.postPhase).pins = s.pins ∧ (s.postPhase).address = s.address ∧ (s.postPhase).settings = s.settings ∧
    (s.postPhase).table = s.table ∧ (s.postPhase).bus = s.bus ∧ (s.postPhase).member = s.member ∧
    (s.postPhase).lease = s.lease ∧ (s.postPhase).loads = s.loads ∧ (s.postPhase).demand = s.demand ∧
    (s.postPhase).cap = s.cap ∧ (s.postPhase).freeze = s.freeze ∧ (s.postPhase).group = s.group := by
  simp [State.postPhase]

@[simp] theorem State.send_frame (s : State) (k : FrameKind) :
    (s.send k).pending = s.pending ∧ (s.send k).due = s.due ∧ (s.send k).power = s.power ∧ (s.send k).pins = s.pins ∧
    (s.send k).address = s.address ∧ (s.send k).settings = s.settings ∧ (s.send k).table = s.table ∧
    (s.send k).member = s.member ∧ (s.send k).lease = s.lease ∧ (s.send k).loads = s.loads ∧ (s.send k).demand = s.demand ∧
    (s.send k).cap = s.cap ∧ (s.send k).freeze = s.freeze ∧ (s.send k).group = s.group ∧ (s.send k).port = s.port := by
  unfold State.send; (repeat' split) <;> simp_all

@[simp] theorem State.withdrawItem_frame (s : State) (k : FrameKind) :
    (s.withdrawItem k).pending = s.pending ∧ (s.withdrawItem k).due = s.due ∧ (s.withdrawItem k).power = s.power ∧
    (s.withdrawItem k).pins = s.pins ∧ (s.withdrawItem k).address = s.address ∧ (s.withdrawItem k).settings = s.settings ∧
    (s.withdrawItem k).table = s.table ∧ (s.withdrawItem k).member = s.member ∧ (s.withdrawItem k).lease = s.lease ∧
    (s.withdrawItem k).loads = s.loads ∧ (s.withdrawItem k).demand = s.demand ∧ (s.withdrawItem k).cap = s.cap ∧
    (s.withdrawItem k).freeze = s.freeze ∧ (s.withdrawItem k).group = s.group ∧ (s.withdrawItem k).port = s.port := by
  unfold State.withdrawItem; (try dsimp only); (repeat' split) <;> simp_all

@[simp] theorem State.retire_frame (s : State) (k : FrameKind) :
    (s.retire k).pending = s.pending ∧ (s.retire k).due = s.due ∧ (s.retire k).power = s.power ∧ (s.retire k).pins = s.pins ∧
    (s.retire k).address = s.address ∧ (s.retire k).settings = s.settings ∧ (s.retire k).table = s.table ∧
    (s.retire k).member = s.member ∧ (s.retire k).lease = s.lease ∧ (s.retire k).loads = s.loads ∧
    (s.retire k).demand = s.demand ∧ (s.retire k).cap = s.cap ∧ (s.retire k).freeze = s.freeze ∧ (s.retire k).group = s.group ∧
    (s.retire k).port = s.port := by
  unfold State.retire; (repeat' split) <;> simp_all

@[simp] theorem State.freeUnits_frame (s : State) (k : ClassIx) (u : Nat) :
    (s.freeUnits k u).pending = s.pending ∧ (s.freeUnits k u).due = s.due ∧ (s.freeUnits k u).power = s.power ∧
    (s.freeUnits k u).pins = s.pins ∧ (s.freeUnits k u).address = s.address ∧ (s.freeUnits k u).settings = s.settings ∧
    (s.freeUnits k u).table = s.table ∧ (s.freeUnits k u).member = s.member ∧ (s.freeUnits k u).lease = s.lease ∧
    (s.freeUnits k u).loads = s.loads ∧ (s.freeUnits k u).cap = s.cap ∧ (s.freeUnits k u).freeze = s.freeze ∧
    (s.freeUnits k u).group = s.group ∧ (s.freeUnits k u).port = s.port := by
  unfold State.freeUnits; (try dsimp only); (repeat' split) <;> simp_all

@[simp] theorem State.returnLoad_frame (s : State) (x : LoadIx) :
    (s.returnLoad x).pending = s.pending ∧ (s.returnLoad x).due = s.due ∧ (s.returnLoad x).power = s.power ∧
    (s.returnLoad x).pins = s.pins ∧ (s.returnLoad x).address = s.address ∧ (s.returnLoad x).settings = s.settings ∧
    (s.returnLoad x).table = s.table ∧ (s.returnLoad x).bus = s.bus ∧ (s.returnLoad x).member = s.member ∧
    (s.returnLoad x).lease = s.lease ∧ (s.returnLoad x).demand = s.demand ∧ (s.returnLoad x).cap = s.cap ∧
    (s.returnLoad x).freeze = s.freeze ∧ (s.returnLoad x).group = s.group ∧ (s.returnLoad x).port = s.port := by
  unfold State.returnLoad; (repeat' split) <;> simp_all

@[simp] theorem State.emptySlot_frame (s : State) :
    (s.emptySlot).pending = s.pending ∧ (s.emptySlot).due = s.due ∧ (s.emptySlot).power = s.power ∧
    (s.emptySlot).pins = s.pins ∧ (s.emptySlot).address = s.address ∧ (s.emptySlot).settings = s.settings ∧
    (s.emptySlot).table = s.table ∧ (s.emptySlot).bus = s.bus ∧ (s.emptySlot).member = s.member ∧
    (s.emptySlot).lease = s.lease ∧ (s.emptySlot).cap = s.cap ∧ (s.emptySlot).freeze = s.freeze ∧
    (s.emptySlot).group = s.group ∧ (s.emptySlot).port = s.port := by
  unfold State.emptySlot; (repeat' split) <;> simp_all

@[simp] theorem State.endClaim_frame (s : State) (x : LoadIx) :
    (s.endClaim x).pending = s.pending ∧ (s.endClaim x).due = s.due ∧ (s.endClaim x).power = s.power ∧
    (s.endClaim x).pins = s.pins ∧ (s.endClaim x).address = s.address ∧ (s.endClaim x).settings = s.settings ∧
    (s.endClaim x).table = s.table ∧ (s.endClaim x).member = s.member ∧ (s.endClaim x).lease = s.lease ∧
    (s.endClaim x).loads = s.loads ∧ (s.endClaim x).cap = s.cap ∧ (s.endClaim x).freeze = s.freeze ∧
    (s.endClaim x).group = s.group ∧ (s.endClaim x).port = s.port := by
  unfold State.endClaim; (repeat' split) <;> simp_all

@[simp] theorem State.clearStaleBlock_frame (s : State) :
    (s.clearStaleBlock).pending = s.pending ∧ (s.clearStaleBlock).due = s.due ∧ (s.clearStaleBlock).power = s.power ∧
    (s.clearStaleBlock).pins = s.pins ∧ (s.clearStaleBlock).address = s.address ∧ (s.clearStaleBlock).settings = s.settings ∧
    (s.clearStaleBlock).table = s.table ∧ (s.clearStaleBlock).bus = s.bus ∧ (s.clearStaleBlock).member = s.member ∧
    (s.clearStaleBlock).lease = s.lease ∧ (s.clearStaleBlock).loads = s.loads ∧ (s.clearStaleBlock).cap = s.cap ∧
    (s.clearStaleBlock).freeze = s.freeze ∧ (s.clearStaleBlock).group = s.group ∧ (s.clearStaleBlock).port = s.port := by
  unfold State.clearStaleBlock; (repeat' split) <;> simp_all

@[simp] theorem State.fillSlot_frame (s : State) (x : LoadIx) :
    (s.fillSlot x).pending = s.pending ∧ (s.fillSlot x).due = s.due ∧ (s.fillSlot x).power = s.power ∧
    (s.fillSlot x).pins = s.pins ∧ (s.fillSlot x).address = s.address ∧ (s.fillSlot x).settings = s.settings ∧
    (s.fillSlot x).table = s.table ∧ (s.fillSlot x).member = s.member ∧ (s.fillSlot x).lease = s.lease ∧
    (s.fillSlot x).cap = s.cap ∧ (s.fillSlot x).freeze = s.freeze ∧ (s.fillSlot x).group = s.group ∧
    (s.fillSlot x).port = s.port := by
  unfold State.fillSlot; (try dsimp only); (repeat' split) <;> simp_all

@[simp] theorem State.compose_frame (s : State) :
    (s.compose).pending = s.pending ∧ (s.compose).due = s.due ∧ (s.compose).power = s.power ∧ (s.compose).pins = s.pins ∧
    (s.compose).address = s.address ∧ (s.compose).settings = s.settings ∧ (s.compose).table = s.table ∧
    (s.compose).member = s.member ∧ (s.compose).lease = s.lease ∧ (s.compose).cap = s.cap ∧ (s.compose).freeze = s.freeze ∧
    (s.compose).group = s.group ∧ (s.compose).port = s.port := by
  unfold State.compose; (try dsimp only); (repeat' split) <;> simp_all

@[simp] theorem State.standEvict_frame (s : State) :
    (s.standEvict).pending = s.pending ∧ (s.standEvict).due = s.due ∧ (s.standEvict).power = s.power ∧
    (s.standEvict).pins = s.pins ∧ (s.standEvict).address = s.address ∧ (s.standEvict).settings = s.settings ∧
    (s.standEvict).table = s.table ∧ (s.standEvict).member = s.member ∧ (s.standEvict).lease = s.lease ∧
    (s.standEvict).loads = s.loads ∧ (s.standEvict).demand = s.demand ∧ (s.standEvict).cap = s.cap ∧
    (s.standEvict).freeze = s.freeze ∧ (s.standEvict).group = s.group ∧ (s.standEvict).port = s.port := by
  unfold State.standEvict; (repeat' split) <;> simp_all

@[simp] theorem State.standThaw_frame (s : State) :
    (s.standThaw).pending = s.pending ∧ (s.standThaw).due = s.due ∧ (s.standThaw).power = s.power ∧
    (s.standThaw).pins = s.pins ∧ (s.standThaw).address = s.address ∧ (s.standThaw).settings = s.settings ∧
    (s.standThaw).table = s.table ∧ (s.standThaw).member = s.member ∧ (s.standThaw).lease = s.lease ∧
    (s.standThaw).loads = s.loads ∧ (s.standThaw).demand = s.demand ∧ (s.standThaw).cap = s.cap ∧
    (s.standThaw).freeze = s.freeze ∧ (s.standThaw).group = s.group ∧ (s.standThaw).port = s.port := by
  unfold State.standThaw; (repeat' split) <;> simp_all

@[simp] theorem State.standImage_frame (s : State) :
    (s.standImage).pending = s.pending ∧ (s.standImage).due = s.due ∧ (s.standImage).power = s.power ∧
    (s.standImage).pins = s.pins ∧ (s.standImage).address = s.address ∧ (s.standImage).settings = s.settings ∧
    (s.standImage).table = s.table ∧ (s.standImage).member = s.member ∧ (s.standImage).lease = s.lease ∧
    (s.standImage).loads = s.loads ∧ (s.standImage).demand = s.demand ∧ (s.standImage).cap = s.cap ∧
    (s.standImage).freeze = s.freeze ∧ (s.standImage).group = s.group ∧ (s.standImage).port = s.port := by
  unfold State.standImage; (repeat' split) <;> simp_all

@[simp] theorem State.settle_frame (s : State) :
    (s.settle).pending = s.pending ∧ (s.settle).due = s.due ∧ (s.settle).power = s.power ∧ (s.settle).pins = s.pins ∧
    (s.settle).address = s.address ∧ (s.settle).settings = s.settings ∧ (s.settle).table = s.table ∧
    (s.settle).member = s.member ∧ (s.settle).lease = s.lease ∧ (s.settle).cap = s.cap ∧ (s.settle).freeze = s.freeze ∧
    (s.settle).group = s.group ∧ (s.settle).port = s.port := by
  simp [State.settle]

@[simp] theorem State.enterQueue_frame (s : State) (x : LoadIx) :
    (s.enterQueue x).pending = s.pending ∧ (s.enterQueue x).due = s.due ∧ (s.enterQueue x).power = s.power ∧
    (s.enterQueue x).pins = s.pins ∧ (s.enterQueue x).address = s.address ∧ (s.enterQueue x).settings = s.settings ∧
    (s.enterQueue x).table = s.table ∧ (s.enterQueue x).bus = s.bus ∧ (s.enterQueue x).member = s.member ∧
    (s.enterQueue x).lease = s.lease ∧ (s.enterQueue x).cap = s.cap ∧ (s.enterQueue x).freeze = s.freeze ∧
    (s.enterQueue x).group = s.group ∧ (s.enterQueue x).port = s.port := by
  unfold State.enterQueue; (repeat' split) <;> simp_all

@[simp] theorem State.dropLoad_frame (s : State) (x : LoadIx) (t : LoadState) :
    (s.dropLoad x t).pending = s.pending ∧ (s.dropLoad x t).due = s.due ∧ (s.dropLoad x t).power = s.power ∧
    (s.dropLoad x t).pins = s.pins ∧ (s.dropLoad x t).address = s.address ∧ (s.dropLoad x t).settings = s.settings ∧
    (s.dropLoad x t).table = s.table ∧ (s.dropLoad x t).member = s.member ∧ (s.dropLoad x t).lease = s.lease ∧
    (s.dropLoad x t).cap = s.cap ∧ (s.dropLoad x t).freeze = s.freeze ∧ (s.dropLoad x t).group = s.group ∧
    (s.dropLoad x t).port = s.port := by
  unfold State.dropLoad; (try dsimp only); (repeat' split) <;> simp_all

@[simp] theorem State.turnOff_frame (s : State) (x : LoadIx) :
    (s.turnOff x).pending = s.pending ∧ (s.turnOff x).due = s.due ∧ (s.turnOff x).power = s.power ∧
    (s.turnOff x).pins = s.pins ∧ (s.turnOff x).address = s.address ∧ (s.turnOff x).settings = s.settings ∧
    (s.turnOff x).table = s.table ∧ (s.turnOff x).member = s.member ∧ (s.turnOff x).lease = s.lease ∧
    (s.turnOff x).cap = s.cap ∧ (s.turnOff x).freeze = s.freeze ∧ (s.turnOff x).group = s.group ∧ (s.turnOff x).port = s.port := by
  unfold State.turnOff; (repeat' split) <;> simp_all

@[simp] theorem State.faultLoad_frame (s : State) (x : LoadIx) (c : FaultCause) :
    (s.faultLoad x c).pending = s.pending ∧ (s.faultLoad x c).due = s.due ∧ (s.faultLoad x c).power = s.power ∧
    (s.faultLoad x c).pins = s.pins ∧ (s.faultLoad x c).address = s.address ∧ (s.faultLoad x c).settings = s.settings ∧
    (s.faultLoad x c).table = s.table ∧ (s.faultLoad x c).member = s.member ∧ (s.faultLoad x c).lease = s.lease ∧
    (s.faultLoad x c).cap = s.cap ∧ (s.faultLoad x c).freeze = s.freeze ∧ (s.faultLoad x c).group = s.group := by
  simp [State.faultLoad]

@[simp] theorem State.lowerToKeep_frame (s : State) (x : LoadIx) :
    (s.lowerToKeep x).pending = s.pending ∧ (s.lowerToKeep x).due = s.due ∧ (s.lowerToKeep x).power = s.power ∧
    (s.lowerToKeep x).pins = s.pins ∧ (s.lowerToKeep x).address = s.address ∧ (s.lowerToKeep x).settings = s.settings ∧
    (s.lowerToKeep x).table = s.table ∧ (s.lowerToKeep x).member = s.member ∧ (s.lowerToKeep x).lease = s.lease ∧
    (s.lowerToKeep x).cap = s.cap ∧ (s.lowerToKeep x).freeze = s.freeze ∧ (s.lowerToKeep x).group = s.group ∧
    (s.lowerToKeep x).port = s.port := by
  unfold State.lowerToKeep; (try dsimp only); (repeat' split) <;> simp_all

@[simp] theorem State.raiseFromKeep_frame (s : State) (x : LoadIx) :
    (s.raiseFromKeep x).pending = s.pending ∧ (s.raiseFromKeep x).due = s.due ∧ (s.raiseFromKeep x).power = s.power ∧
    (s.raiseFromKeep x).pins = s.pins ∧ (s.raiseFromKeep x).address = s.address ∧ (s.raiseFromKeep x).settings = s.settings ∧
    (s.raiseFromKeep x).table = s.table ∧ (s.raiseFromKeep x).bus = s.bus ∧ (s.raiseFromKeep x).member = s.member ∧
    (s.raiseFromKeep x).lease = s.lease ∧ (s.raiseFromKeep x).cap = s.cap ∧ (s.raiseFromKeep x).freeze = s.freeze ∧
    (s.raiseFromKeep x).group = s.group ∧ (s.raiseFromKeep x).port = s.port := by
  unfold State.raiseFromKeep; (repeat' split) <;> simp_all

@[simp] theorem State.wishKeep_frame (s : State) (x : LoadIx) :
    (s.wishKeep x).pending = s.pending ∧ (s.wishKeep x).due = s.due ∧ (s.wishKeep x).power = s.power ∧
    (s.wishKeep x).pins = s.pins ∧ (s.wishKeep x).address = s.address ∧ (s.wishKeep x).settings = s.settings ∧
    (s.wishKeep x).table = s.table ∧ (s.wishKeep x).member = s.member ∧ (s.wishKeep x).lease = s.lease ∧
    (s.wishKeep x).cap = s.cap ∧ (s.wishKeep x).freeze = s.freeze ∧ (s.wishKeep x).group = s.group ∧
    (s.wishKeep x).port = s.port := by
  unfold State.wishKeep; (try dsimp only); (repeat' split) <;> simp_all

@[simp] theorem State.wishFull_frame (s : State) (x : LoadIx) :
    (s.wishFull x).pending = s.pending ∧ (s.wishFull x).due = s.due ∧ (s.wishFull x).power = s.power ∧
    (s.wishFull x).pins = s.pins ∧ (s.wishFull x).address = s.address ∧ (s.wishFull x).settings = s.settings ∧
    (s.wishFull x).table = s.table ∧ (s.wishFull x).bus = s.bus ∧ (s.wishFull x).member = s.member ∧
    (s.wishFull x).lease = s.lease ∧ (s.wishFull x).cap = s.cap ∧ (s.wishFull x).freeze = s.freeze ∧
    (s.wishFull x).group = s.group ∧ (s.wishFull x).port = s.port := by
  unfold State.wishFull; (try dsimp only); (repeat' split) <;> simp_all

@[simp] theorem State.wishLevel_frame (s : State) (x : LoadIx) (l : Level) :
    (s.wishLevel x l).pending = s.pending ∧ (s.wishLevel x l).due = s.due ∧ (s.wishLevel x l).power = s.power ∧
    (s.wishLevel x l).pins = s.pins ∧ (s.wishLevel x l).address = s.address ∧ (s.wishLevel x l).settings = s.settings ∧
    (s.wishLevel x l).table = s.table ∧ (s.wishLevel x l).member = s.member ∧ (s.wishLevel x l).lease = s.lease ∧
    (s.wishLevel x l).cap = s.cap ∧ (s.wishLevel x l).freeze = s.freeze ∧ (s.wishLevel x l).group = s.group ∧
    (s.wishLevel x l).port = s.port := by
  cases l <;> simp [State.wishLevel]

@[simp] theorem State.wantLoad_frame (s : State) (x : LoadIx) :
    (s.wantLoad x).pending = s.pending ∧ (s.wantLoad x).due = s.due ∧ (s.wantLoad x).power = s.power ∧
    (s.wantLoad x).pins = s.pins ∧ (s.wantLoad x).address = s.address ∧ (s.wantLoad x).settings = s.settings ∧
    (s.wantLoad x).table = s.table ∧ (s.wantLoad x).bus = s.bus ∧ (s.wantLoad x).member = s.member ∧
    (s.wantLoad x).lease = s.lease ∧ (s.wantLoad x).cap = s.cap ∧ (s.wantLoad x).freeze = s.freeze ∧
    (s.wantLoad x).group = s.group ∧ (s.wantLoad x).port = s.port := by
  unfold State.wantLoad; (try dsimp only); (repeat' split) <;> simp_all

@[simp] theorem State.unwantLoad_frame (s : State) (x : LoadIx) :
    (s.unwantLoad x).pending = s.pending ∧ (s.unwantLoad x).due = s.due ∧ (s.unwantLoad x).power = s.power ∧
    (s.unwantLoad x).pins = s.pins ∧ (s.unwantLoad x).address = s.address ∧ (s.unwantLoad x).settings = s.settings ∧
    (s.unwantLoad x).table = s.table ∧ (s.unwantLoad x).member = s.member ∧ (s.unwantLoad x).lease = s.lease ∧
    (s.unwantLoad x).cap = s.cap ∧ (s.unwantLoad x).freeze = s.freeze ∧ (s.unwantLoad x).group = s.group ∧
    (s.unwantLoad x).port = s.port := by
  unfold State.unwantLoad; (try dsimp only); (repeat' split) <;> simp_all

@[simp] theorem State.inhibitLoad_frame (s : State) (x : LoadIx) :
    (s.inhibitLoad x).pending = s.pending ∧ (s.inhibitLoad x).due = s.due ∧ (s.inhibitLoad x).power = s.power ∧
    (s.inhibitLoad x).pins = s.pins ∧ (s.inhibitLoad x).address = s.address ∧ (s.inhibitLoad x).settings = s.settings ∧
    (s.inhibitLoad x).table = s.table ∧ (s.inhibitLoad x).member = s.member ∧ (s.inhibitLoad x).lease = s.lease ∧
    (s.inhibitLoad x).cap = s.cap ∧ (s.inhibitLoad x).freeze = s.freeze ∧ (s.inhibitLoad x).group = s.group ∧
    (s.inhibitLoad x).port = s.port := by
  unfold State.inhibitLoad; (try dsimp only); (repeat' split) <;> simp_all

@[simp] theorem State.permitLoad_frame (s : State) (x : LoadIx) :
    (s.permitLoad x).pending = s.pending ∧ (s.permitLoad x).due = s.due ∧ (s.permitLoad x).power = s.power ∧
    (s.permitLoad x).pins = s.pins ∧ (s.permitLoad x).address = s.address ∧ (s.permitLoad x).settings = s.settings ∧
    (s.permitLoad x).table = s.table ∧ (s.permitLoad x).bus = s.bus ∧ (s.permitLoad x).member = s.member ∧
    (s.permitLoad x).lease = s.lease ∧ (s.permitLoad x).cap = s.cap ∧ (s.permitLoad x).freeze = s.freeze ∧
    (s.permitLoad x).group = s.group ∧ (s.permitLoad x).port = s.port := by
  unfold State.permitLoad; (try dsimp only); (repeat' split) <;> simp_all

@[simp] theorem State.clearFaultLoad_frame (s : State) (x : LoadIx) :
    (s.clearFaultLoad x).pending = s.pending ∧ (s.clearFaultLoad x).due = s.due ∧ (s.clearFaultLoad x).power = s.power ∧
    (s.clearFaultLoad x).pins = s.pins ∧ (s.clearFaultLoad x).address = s.address ∧ (s.clearFaultLoad x).settings = s.settings ∧
    (s.clearFaultLoad x).table = s.table ∧ (s.clearFaultLoad x).bus = s.bus ∧ (s.clearFaultLoad x).member = s.member ∧
    (s.clearFaultLoad x).lease = s.lease ∧ (s.clearFaultLoad x).cap = s.cap ∧ (s.clearFaultLoad x).freeze = s.freeze ∧
    (s.clearFaultLoad x).group = s.group ∧ (s.clearFaultLoad x).port = s.port := by
  simp [State.clearFaultLoad]

@[simp] theorem State.grantLoad_frame (s : State) (x : LoadIx) :
    (s.grantLoad x).pending = s.pending ∧ (s.grantLoad x).due = s.due ∧ (s.grantLoad x).power = s.power ∧
    (s.grantLoad x).pins = s.pins ∧ (s.grantLoad x).address = s.address ∧ (s.grantLoad x).settings = s.settings ∧
    (s.grantLoad x).table = s.table ∧ (s.grantLoad x).member = s.member ∧ (s.grantLoad x).lease = s.lease ∧
    (s.grantLoad x).cap = s.cap ∧ (s.grantLoad x).freeze = s.freeze ∧ (s.grantLoad x).group = s.group ∧
    (s.grantLoad x).port = s.port := by
  unfold State.grantLoad; (try dsimp only); (repeat' split) <;> simp_all

@[simp] theorem State.endRamp_frame (s : State) (x : LoadIx) :
    (s.endRamp x).pending = s.pending ∧ (s.endRamp x).due = s.due ∧ (s.endRamp x).power = s.power ∧
    (s.endRamp x).pins = s.pins ∧ (s.endRamp x).address = s.address ∧ (s.endRamp x).settings = s.settings ∧
    (s.endRamp x).table = s.table ∧ (s.endRamp x).member = s.member ∧ (s.endRamp x).lease = s.lease ∧
    (s.endRamp x).cap = s.cap ∧ (s.endRamp x).freeze = s.freeze ∧ (s.endRamp x).group = s.group := by
  unfold State.endRamp; (try dsimp only); (repeat' split) <;> simp_all

@[simp] theorem State.disconnectLoad_frame (s : State) (x : LoadIx) :
    (s.disconnectLoad x).pending = s.pending ∧ (s.disconnectLoad x).due = s.due ∧ (s.disconnectLoad x).power = s.power ∧
    (s.disconnectLoad x).pins = s.pins ∧ (s.disconnectLoad x).address = s.address ∧ (s.disconnectLoad x).settings = s.settings ∧
    (s.disconnectLoad x).table = s.table ∧ (s.disconnectLoad x).bus = s.bus ∧ (s.disconnectLoad x).member = s.member ∧
    (s.disconnectLoad x).lease = s.lease ∧ (s.disconnectLoad x).cap = s.cap ∧ (s.disconnectLoad x).freeze = s.freeze ∧
    (s.disconnectLoad x).group = s.group ∧ (s.disconnectLoad x).port = s.port := by
  unfold State.disconnectLoad; (try dsimp only); (repeat' split) <;> simp_all

/-- A relation to the start state that every step of a fold keeps, the fold keeps. -/
theorem foldl_keeps {α β : Type} (f : State → α → State) (p : State → β) (h : ∀ s a, p (f s a) = p s) :
    ∀ (l : List α) (s : State), p (l.foldl f s) = p s
  | [], _ => rfl
  | a :: l, s => (foldl_keeps f p h l (f s a)).trans (h s a)

@[simp] theorem State.disconnectAll_frame (s : State) :
    (s.disconnectAll).pending = s.pending ∧ (s.disconnectAll).due = s.due ∧ (s.disconnectAll).power = s.power ∧
    (s.disconnectAll).pins = s.pins ∧ (s.disconnectAll).address = s.address ∧ (s.disconnectAll).settings = s.settings ∧
    (s.disconnectAll).table = s.table ∧ (s.disconnectAll).bus = s.bus ∧ (s.disconnectAll).member = s.member ∧
    (s.disconnectAll).lease = s.lease ∧ (s.disconnectAll).cap = s.cap ∧ (s.disconnectAll).freeze = s.freeze ∧
    (s.disconnectAll).group = s.group ∧ (s.disconnectAll).port = s.port := by
  unfold State.disconnectAll; exact ⟨foldl_keeps _ State.pending (fun s x => by simp) _ _,
    foldl_keeps _ State.due (fun s x => by simp) _ _,
    foldl_keeps _ State.power (fun s x => by simp) _ _,
    foldl_keeps _ State.pins (fun s x => by simp) _ _,
    foldl_keeps _ State.address (fun s x => by simp) _ _,
    foldl_keeps _ State.settings (fun s x => by simp) _ _,
    foldl_keeps _ State.table (fun s x => by simp) _ _,
    foldl_keeps _ State.bus (fun s x => by simp) _ _,
    foldl_keeps _ State.member (fun s x => by simp) _ _,
    foldl_keeps _ State.lease (fun s x => by simp) _ _,
    foldl_keeps _ State.cap (fun s x => by simp) _ _,
    foldl_keeps _ State.freeze (fun s x => by simp) _ _,
    foldl_keeps _ State.group (fun s x => by simp) _ _,
    foldl_keeps _ State.port (fun s x => by simp) _ _⟩

@[simp] theorem State.shedToKeep_frame (s : State) (x : LoadIx) :
    (s.shedToKeep x).pending = s.pending ∧ (s.shedToKeep x).due = s.due ∧ (s.shedToKeep x).power = s.power ∧
    (s.shedToKeep x).pins = s.pins ∧ (s.shedToKeep x).address = s.address ∧ (s.shedToKeep x).settings = s.settings ∧
    (s.shedToKeep x).table = s.table ∧ (s.shedToKeep x).member = s.member ∧ (s.shedToKeep x).lease = s.lease ∧
    (s.shedToKeep x).cap = s.cap ∧ (s.shedToKeep x).freeze = s.freeze ∧ (s.shedToKeep x).group = s.group := by
  unfold State.shedToKeep; (try dsimp only); (repeat' split) <;> simp_all

@[simp] theorem State.shedOff_frame (s : State) (x : LoadIx) :
    (s.shedOff x).pending = s.pending ∧ (s.shedOff x).due = s.due ∧ (s.shedOff x).power = s.power ∧
    (s.shedOff x).pins = s.pins ∧ (s.shedOff x).address = s.address ∧ (s.shedOff x).settings = s.settings ∧
    (s.shedOff x).table = s.table ∧ (s.shedOff x).member = s.member ∧ (s.shedOff x).lease = s.lease ∧
    (s.shedOff x).cap = s.cap ∧ (s.shedOff x).freeze = s.freeze ∧ (s.shedOff x).group = s.group := by
  simp [State.shedOff]

@[simp] theorem shedKeeps_frame (k : ClassIx) (n : Nat) : ∀ (l : List LoadIx) (s : State),
    (shedKeeps k n l s).pending = s.pending ∧ (shedKeeps k n l s).due = s.due ∧
    (shedKeeps k n l s).power = s.power ∧
    (shedKeeps k n l s).pins = s.pins ∧
    (shedKeeps k n l s).address = s.address ∧
    (shedKeeps k n l s).settings = s.settings ∧
    (shedKeeps k n l s).table = s.table ∧
    (shedKeeps k n l s).member = s.member ∧
    (shedKeeps k n l s).lease = s.lease ∧
    (shedKeeps k n l s).cap = s.cap ∧
    (shedKeeps k n l s).freeze = s.freeze ∧
    (shedKeeps k n l s).group = s.group
  | [], s => by simp [shedKeeps]
  | x :: xs, s => by
    have ih := shedKeeps_frame k n xs
    unfold shedKeeps; (repeat' split) <;> simp [ih]

@[simp] theorem shedOffs_frame (k : ClassIx) (n : Nat) : ∀ (l : List LoadIx) (s : State),
    (shedOffs k n l s).pending = s.pending ∧ (shedOffs k n l s).due = s.due ∧
    (shedOffs k n l s).power = s.power ∧
    (shedOffs k n l s).pins = s.pins ∧
    (shedOffs k n l s).address = s.address ∧
    (shedOffs k n l s).settings = s.settings ∧
    (shedOffs k n l s).table = s.table ∧
    (shedOffs k n l s).member = s.member ∧
    (shedOffs k n l s).lease = s.lease ∧
    (shedOffs k n l s).cap = s.cap ∧
    (shedOffs k n l s).freeze = s.freeze ∧
    (shedOffs k n l s).group = s.group
  | [], s => by simp [shedOffs]
  | x :: xs, s => by
    have ih := shedOffs_frame k n xs
    unfold shedOffs; (repeat' split) <;> simp [ih]

@[simp] theorem State.shedClass_frame (s : State) (k : ClassIx) (n : Nat) :
    (s.shedClass k n).pending = s.pending ∧ (s.shedClass k n).due = s.due ∧ (s.shedClass k n).power = s.power ∧
    (s.shedClass k n).pins = s.pins ∧ (s.shedClass k n).address = s.address ∧ (s.shedClass k n).settings = s.settings ∧
    (s.shedClass k n).table = s.table ∧ (s.shedClass k n).member = s.member ∧ (s.shedClass k n).lease = s.lease ∧
    (s.shedClass k n).cap = s.cap ∧ (s.shedClass k n).freeze = s.freeze ∧ (s.shedClass k n).group = s.group := by
  simp [State.shedClass]

@[simp] theorem State.executePlan_frame (s : State) :
    (s.executePlan).pending = s.pending ∧ (s.executePlan).due = s.due ∧ (s.executePlan).power = s.power ∧
    (s.executePlan).pins = s.pins ∧ (s.executePlan).address = s.address ∧ (s.executePlan).settings = s.settings ∧
    (s.executePlan).table = s.table ∧ (s.executePlan).member = s.member ∧ (s.executePlan).lease = s.lease ∧
    (s.executePlan).cap = s.cap ∧ (s.executePlan).freeze = s.freeze ∧ (s.executePlan).group = s.group := by
  unfold State.executePlan; exact ⟨foldl_keeps _ State.pending (fun s k => by dsimp only; split <;> simp) _ _,
    foldl_keeps _ State.due (fun s k => by dsimp only; split <;> simp) _ _,
    foldl_keeps _ State.power (fun s k => by dsimp only; split <;> simp) _ _,
    foldl_keeps _ State.pins (fun s k => by dsimp only; split <;> simp) _ _,
    foldl_keeps _ State.address (fun s k => by dsimp only; split <;> simp) _ _,
    foldl_keeps _ State.settings (fun s k => by dsimp only; split <;> simp) _ _,
    foldl_keeps _ State.table (fun s k => by dsimp only; split <;> simp) _ _,
    foldl_keeps _ State.member (fun s k => by dsimp only; split <;> simp) _ _,
    foldl_keeps _ State.lease (fun s k => by dsimp only; split <;> simp) _ _,
    foldl_keeps _ State.cap (fun s k => by dsimp only; split <;> simp) _ _,
    foldl_keeps _ State.freeze (fun s k => by dsimp only; split <;> simp) _ _,
    foldl_keeps _ State.group (fun s k => by dsimp only; split <;> simp) _ _⟩

@[simp] theorem State.shedIfOverCap_frame (s : State) :
    (s.shedIfOverCap).pending = s.pending ∧ (s.shedIfOverCap).due = s.due ∧ (s.shedIfOverCap).power = s.power ∧
    (s.shedIfOverCap).pins = s.pins ∧ (s.shedIfOverCap).address = s.address ∧ (s.shedIfOverCap).settings = s.settings ∧
    (s.shedIfOverCap).table = s.table ∧ (s.shedIfOverCap).member = s.member ∧ (s.shedIfOverCap).lease = s.lease ∧
    (s.shedIfOverCap).cap = s.cap ∧ (s.shedIfOverCap).freeze = s.freeze ∧ (s.shedIfOverCap).group = s.group := by
  unfold State.shedIfOverCap; (repeat' split) <;> simp_all

@[simp] theorem State.takeCap_frame (s : State) (v : Word16) :
    (s.takeCap v).pending = s.pending ∧ (s.takeCap v).due = s.due ∧ (s.takeCap v).power = s.power ∧
    (s.takeCap v).pins = s.pins ∧ (s.takeCap v).address = s.address ∧ (s.takeCap v).settings = s.settings ∧
    (s.takeCap v).table = s.table ∧ (s.takeCap v).member = s.member ∧ (s.takeCap v).lease = s.lease ∧
    (s.takeCap v).loads = s.loads ∧ (s.takeCap v).demand = s.demand ∧ (s.takeCap v).freeze = s.freeze ∧
    (s.takeCap v).group = s.group ∧ (s.takeCap v).port = s.port := by
  unfold State.takeCap; (try dsimp only); (repeat' split) <;> simp_all

@[simp] theorem State.takeHeldCap_frame (s : State) :
    (s.takeHeldCap).pending = s.pending ∧ (s.takeHeldCap).due = s.due ∧ (s.takeHeldCap).power = s.power ∧
    (s.takeHeldCap).pins = s.pins ∧ (s.takeHeldCap).address = s.address ∧ (s.takeHeldCap).settings = s.settings ∧
    (s.takeHeldCap).table = s.table ∧ (s.takeHeldCap).member = s.member ∧ (s.takeHeldCap).lease = s.lease ∧
    (s.takeHeldCap).loads = s.loads ∧ (s.takeHeldCap).demand = s.demand ∧ (s.takeHeldCap).freeze = s.freeze ∧
    (s.takeHeldCap).group = s.group ∧ (s.takeHeldCap).port = s.port := by
  unfold State.takeHeldCap; (try dsimp only); (repeat' split) <;> simp_all

@[simp] theorem State.capApplied_frame (s : State) (q : Station) (v : Word16) :
    (s.capApplied q v).pending = s.pending ∧ (s.capApplied q v).due = s.due ∧ (s.capApplied q v).power = s.power ∧
    (s.capApplied q v).pins = s.pins ∧ (s.capApplied q v).address = s.address ∧ (s.capApplied q v).settings = s.settings ∧
    (s.capApplied q v).table = s.table ∧ (s.capApplied q v).member = s.member ∧ (s.capApplied q v).lease = s.lease ∧
    (s.capApplied q v).loads = s.loads ∧ (s.capApplied q v).demand = s.demand ∧ (s.capApplied q v).freeze = s.freeze ∧
    (s.capApplied q v).group = s.group ∧ (s.capApplied q v).port = s.port := by
  unfold State.capApplied; (repeat' split) <;> simp_all

@[simp] theorem State.compareCap_frame (s : State) :
    (s.compareCap).pending = s.pending ∧ (s.compareCap).due = s.due ∧ (s.compareCap).power = s.power ∧
    (s.compareCap).pins = s.pins ∧ (s.compareCap).address = s.address ∧ (s.compareCap).settings = s.settings ∧
    (s.compareCap).table = s.table ∧ (s.compareCap).member = s.member ∧ (s.compareCap).lease = s.lease ∧
    (s.compareCap).loads = s.loads ∧ (s.compareCap).demand = s.demand ∧ (s.compareCap).freeze = s.freeze ∧
    (s.compareCap).group = s.group ∧ (s.compareCap).port = s.port := by
  unfold State.compareCap; (repeat' split) <;> simp_all

@[simp] theorem State.askLimit_frame (s : State) :
    (s.askLimit).pending = s.pending ∧ (s.askLimit).due = s.due ∧ (s.askLimit).power = s.power ∧ (s.askLimit).pins = s.pins ∧
    (s.askLimit).address = s.address ∧ (s.askLimit).settings = s.settings ∧ (s.askLimit).table = s.table ∧
    (s.askLimit).bus = s.bus ∧ (s.askLimit).member = s.member ∧ (s.askLimit).lease = s.lease ∧ (s.askLimit).loads = s.loads ∧
    (s.askLimit).demand = s.demand ∧ (s.askLimit).freeze = s.freeze ∧ (s.askLimit).group = s.group ∧ (s.askLimit).port = s.port := by
  unfold State.askLimit; (repeat' split) <;> simp_all

@[simp] theorem State.freezeApplied_frame (s : State) (d : TimeCode) :
    (s.freezeApplied d).pending = s.pending ∧ (s.freezeApplied d).due = s.due ∧ (s.freezeApplied d).power = s.power ∧
    (s.freezeApplied d).pins = s.pins ∧ (s.freezeApplied d).address = s.address ∧ (s.freezeApplied d).settings = s.settings ∧
    (s.freezeApplied d).table = s.table ∧ (s.freezeApplied d).member = s.member ∧ (s.freezeApplied d).lease = s.lease ∧
    (s.freezeApplied d).loads = s.loads ∧ (s.freezeApplied d).demand = s.demand ∧ (s.freezeApplied d).cap = s.cap ∧
    (s.freezeApplied d).group = s.group ∧ (s.freezeApplied d).port = s.port := by
  simp [State.freezeApplied]

@[simp] theorem State.thawApplied_frame (s : State) :
    (s.thawApplied).pending = s.pending ∧ (s.thawApplied).due = s.due ∧ (s.thawApplied).power = s.power ∧
    (s.thawApplied).pins = s.pins ∧ (s.thawApplied).address = s.address ∧ (s.thawApplied).settings = s.settings ∧
    (s.thawApplied).table = s.table ∧ (s.thawApplied).member = s.member ∧ (s.thawApplied).lease = s.lease ∧
    (s.thawApplied).loads = s.loads ∧ (s.thawApplied).demand = s.demand ∧ (s.thawApplied).cap = s.cap ∧
    (s.thawApplied).group = s.group ∧ (s.thawApplied).port = s.port := by
  simp [State.thawApplied]

@[simp] theorem State.repostFreeze_frame (s : State) :
    (s.repostFreeze).pending = s.pending ∧ (s.repostFreeze).due = s.due ∧ (s.repostFreeze).power = s.power ∧
    (s.repostFreeze).pins = s.pins ∧ (s.repostFreeze).address = s.address ∧ (s.repostFreeze).settings = s.settings ∧
    (s.repostFreeze).table = s.table ∧ (s.repostFreeze).member = s.member ∧ (s.repostFreeze).lease = s.lease ∧
    (s.repostFreeze).loads = s.loads ∧ (s.repostFreeze).demand = s.demand ∧ (s.repostFreeze).cap = s.cap ∧
    (s.repostFreeze).freeze = s.freeze ∧ (s.repostFreeze).group = s.group ∧ (s.repostFreeze).port = s.port := by
  unfold State.repostFreeze; (repeat' split) <;> simp_all

@[simp] theorem State.freezeClaim_frame (s : State) :
    (s.freezeClaim).pending = s.pending ∧ (s.freezeClaim).due = s.due ∧ (s.freezeClaim).power = s.power ∧
    (s.freezeClaim).pins = s.pins ∧ (s.freezeClaim).address = s.address ∧ (s.freezeClaim).settings = s.settings ∧
    (s.freezeClaim).table = s.table ∧ (s.freezeClaim).member = s.member ∧ (s.freezeClaim).lease = s.lease ∧
    (s.freezeClaim).cap = s.cap ∧ (s.freezeClaim).freeze = s.freeze ∧ (s.freezeClaim).group = s.group ∧
    (s.freezeClaim).port = s.port := by
  unfold State.freezeClaim; (repeat' split) <;> simp_all

@[simp] theorem State.withdrawEvictIfUnmarked_frame (s : State) :
    (s.withdrawEvictIfUnmarked).pending = s.pending ∧ (s.withdrawEvictIfUnmarked).due = s.due ∧
    (s.withdrawEvictIfUnmarked).power = s.power ∧ (s.withdrawEvictIfUnmarked).pins = s.pins ∧
    (s.withdrawEvictIfUnmarked).address = s.address ∧ (s.withdrawEvictIfUnmarked).settings = s.settings ∧
    (s.withdrawEvictIfUnmarked).table = s.table ∧ (s.withdrawEvictIfUnmarked).member = s.member ∧
    (s.withdrawEvictIfUnmarked).lease = s.lease ∧ (s.withdrawEvictIfUnmarked).loads = s.loads ∧
    (s.withdrawEvictIfUnmarked).demand = s.demand ∧ (s.withdrawEvictIfUnmarked).cap = s.cap ∧
    (s.withdrawEvictIfUnmarked).freeze = s.freeze ∧ (s.withdrawEvictIfUnmarked).group = s.group ∧
    (s.withdrawEvictIfUnmarked).port = s.port := by
  unfold State.withdrawEvictIfUnmarked; (repeat' split) <;> simp_all

@[simp] theorem State.heard_frame (s : State) (q : Station) :
    (s.heard q).pending = s.pending ∧ (s.heard q).due = s.due ∧ (s.heard q).power = s.power ∧ (s.heard q).pins = s.pins ∧
    (s.heard q).address = s.address ∧ (s.heard q).settings = s.settings ∧ (s.heard q).table = s.table ∧
    (s.heard q).member = s.member ∧ (s.heard q).loads = s.loads ∧ (s.heard q).demand = s.demand ∧ (s.heard q).cap = s.cap ∧
    (s.heard q).freeze = s.freeze ∧ (s.heard q).group = s.group ∧ (s.heard q).port = s.port := by
  unfold State.heard; (try dsimp only); (repeat' split) <;> simp_all

@[simp] theorem State.memberRemoved_frame (s : State) (q : Station) :
    (s.memberRemoved q).pending = s.pending ∧ (s.memberRemoved q).due = s.due ∧ (s.memberRemoved q).power = s.power ∧
    (s.memberRemoved q).pins = s.pins ∧ (s.memberRemoved q).address = s.address ∧ (s.memberRemoved q).settings = s.settings ∧
    (s.memberRemoved q).table = s.table ∧ (s.memberRemoved q).member = s.member ∧ (s.memberRemoved q).loads = s.loads ∧
    (s.memberRemoved q).demand = s.demand ∧ (s.memberRemoved q).cap = s.cap ∧ (s.memberRemoved q).freeze = s.freeze ∧
    (s.memberRemoved q).group = s.group ∧ (s.memberRemoved q).port = s.port := by
  simp [State.memberRemoved]

@[simp] theorem State.act_frame (s : State) (x : LoadIx) (a : Action) :
    (s.act x a).pending = s.pending ∧ (s.act x a).due = s.due ∧ (s.act x a).power = s.power ∧ (s.act x a).pins = s.pins ∧
    (s.act x a).address = s.address ∧ (s.act x a).settings = s.settings ∧ (s.act x a).table = s.table ∧
    (s.act x a).member = s.member ∧ (s.act x a).lease = s.lease ∧ (s.act x a).cap = s.cap ∧ (s.act x a).freeze = s.freeze ∧
    (s.act x a).group = s.group ∧ (s.act x a).port = s.port := by
  unfold State.act; (repeat' split) <;> simp_all

@[simp] theorem State.actOn_frame (s : State) (x : LoadIx) (c : Byte) :
    (State.actOn c s x).pending = s.pending ∧ (State.actOn c s x).due = s.due ∧ (State.actOn c s x).power = s.power ∧
    (State.actOn c s x).pins = s.pins ∧ (State.actOn c s x).address = s.address ∧ (State.actOn c s x).settings = s.settings ∧
    (State.actOn c s x).table = s.table ∧ (State.actOn c s x).member = s.member ∧ (State.actOn c s x).lease = s.lease ∧
    (State.actOn c s x).cap = s.cap ∧ (State.actOn c s x).freeze = s.freeze ∧ (State.actOn c s x).group = s.group ∧
    (State.actOn c s x).port = s.port := by
  unfold State.actOn; (repeat' split) <;> simp_all

@[simp] theorem State.applyCode_frame (s : State) (c : Byte) :
    (s.applyCode c).pending = s.pending ∧ (s.applyCode c).due = s.due ∧ (s.applyCode c).power = s.power ∧
    (s.applyCode c).pins = s.pins ∧ (s.applyCode c).address = s.address ∧ (s.applyCode c).settings = s.settings ∧
    (s.applyCode c).table = s.table ∧ (s.applyCode c).member = s.member ∧ (s.applyCode c).lease = s.lease ∧
    (s.applyCode c).cap = s.cap ∧ (s.applyCode c).freeze = s.freeze ∧ (s.applyCode c).group = s.group := by
  unfold State.applyCode; split
  · refine ⟨(foldl_keeps _ State.pending (fun s x => by simp) _ _).trans ?_, 
      (foldl_keeps _ State.due (fun s x => by simp) _ _).trans ?_,
      (foldl_keeps _ State.power (fun s x => by simp) _ _).trans ?_,
      (foldl_keeps _ State.pins (fun s x => by simp) _ _).trans ?_,
      (foldl_keeps _ State.address (fun s x => by simp) _ _).trans ?_,
      (foldl_keeps _ State.settings (fun s x => by simp) _ _).trans ?_,
      (foldl_keeps _ State.table (fun s x => by simp) _ _).trans ?_,
      (foldl_keeps _ State.member (fun s x => by simp) _ _).trans ?_,
      (foldl_keeps _ State.lease (fun s x => by simp) _ _).trans ?_,
      (foldl_keeps _ State.cap (fun s x => by simp) _ _).trans ?_,
      (foldl_keeps _ State.freeze (fun s x => by simp) _ _).trans ?_,
      (foldl_keeps _ State.group (fun s x => by simp) _ _).trans ?_⟩ <;> simp
  · simp

end Sys2Proof.Machine
end

