-- ==== Sys2Proof/Laws/Handling.lean ====
section
/-! SUPPORT. What each operation of the membership and of the frame ends leaves alone (its frame): later proofs cite these and do not unfold the operation. -/

namespace Sys2Proof.Machine

@[simp] theorem State.sendSeek_frame (s : State) :
    (s.sendSeek).pending = s.pending ∧ (s.sendSeek).due = s.due ∧ (s.sendSeek).power = s.power ∧ (s.sendSeek).pins = s.pins ∧
    (s.sendSeek).address = s.address ∧ (s.sendSeek).settings = s.settings ∧ (s.sendSeek).table = s.table ∧
    (s.sendSeek).lease = s.lease ∧ (s.sendSeek).loads = s.loads ∧ (s.sendSeek).demand = s.demand ∧ (s.sendSeek).cap = s.cap ∧
    (s.sendSeek).freeze = s.freeze ∧ (s.sendSeek).group = s.group ∧ (s.sendSeek).port = s.port := by
  simp [State.sendSeek]

@[simp] theorem State.abandon_frame (s : State) (c : AbandonCause) :
    (s.abandon c).pending = s.pending ∧ (s.abandon c).due = s.due ∧ (s.abandon c).power = s.power ∧
    (s.abandon c).pins = s.pins ∧ (s.abandon c).address = s.address ∧ (s.abandon c).settings = s.settings ∧
    (s.abandon c).table = s.table ∧ (s.abandon c).lease = s.lease ∧ (s.abandon c).loads = s.loads ∧
    (s.abandon c).demand = s.demand ∧ (s.abandon c).cap = s.cap ∧ (s.abandon c).freeze = s.freeze ∧
    (s.abandon c).group = s.group := by
  simp [State.abandon]

@[simp] theorem State.reportDiscard_frame (s : State) :
    (s.reportDiscard).pending = s.pending ∧ (s.reportDiscard).due = s.due ∧ (s.reportDiscard).power = s.power ∧
    (s.reportDiscard).pins = s.pins ∧ (s.reportDiscard).address = s.address ∧ (s.reportDiscard).settings = s.settings ∧
    (s.reportDiscard).table = s.table ∧ (s.reportDiscard).lease = s.lease ∧ (s.reportDiscard).loads = s.loads ∧
    (s.reportDiscard).demand = s.demand ∧ (s.reportDiscard).cap = s.cap ∧ (s.reportDiscard).freeze = s.freeze ∧
    (s.reportDiscard).group = s.group := by
  unfold State.reportDiscard; (repeat' split) <;> simp_all

@[simp] theorem State.countFrame_frame (s : State) (k : FrameKind) (q : Station) :
    (s.countFrame k q).pending = s.pending ∧ (s.countFrame k q).due = s.due ∧ (s.countFrame k q).power = s.power ∧
    (s.countFrame k q).pins = s.pins ∧ (s.countFrame k q).address = s.address ∧ (s.countFrame k q).settings = s.settings ∧
    (s.countFrame k q).table = s.table ∧ (s.countFrame k q).bus = s.bus ∧ (s.countFrame k q).lease = s.lease ∧
    (s.countFrame k q).loads = s.loads ∧ (s.countFrame k q).demand = s.demand ∧ (s.countFrame k q).cap = s.cap ∧
    (s.countFrame k q).freeze = s.freeze ∧ (s.countFrame k q).group = s.group ∧ (s.countFrame k q).port = s.port := by
  unfold State.countFrame; (try dsimp only); (repeat' split) <;> simp_all

@[simp] theorem State.record_frame (s : State) (r : ChangeRecord) :
    (s.record r).pending = s.pending ∧ (s.record r).due = s.due ∧ (s.record r).power = s.power ∧ (s.record r).pins = s.pins ∧
    (s.record r).address = s.address ∧ (s.record r).settings = s.settings ∧ (s.record r).table = s.table ∧
    (s.record r).lease = s.lease ∧ (s.record r).loads = s.loads ∧ (s.record r).demand = s.demand ∧ (s.record r).cap = s.cap ∧
    (s.record r).freeze = s.freeze ∧ (s.record r).group = s.group := by
  unfold State.record; (try dsimp only); (repeat' split) <;> simp_all

@[simp] theorem State.enterSeeking_frame (s : State) (c : StepCause) :
    (s.enterSeeking c).pending = s.pending ∧ (s.enterSeeking c).due = s.due ∧ (s.enterSeeking c).power = s.power ∧
    (s.enterSeeking c).pins = s.pins ∧ (s.enterSeeking c).address = s.address ∧ (s.enterSeeking c).settings = s.settings ∧
    (s.enterSeeking c).table = s.table ∧ (s.enterSeeking c).cap = s.cap ∧ (s.enterSeeking c).freeze = s.freeze ∧
    (s.enterSeeking c).group = s.group := by
  simp [State.enterSeeking]

@[simp] theorem State.enterDetached_frame (s : State) :
    (s.enterDetached).pending = s.pending ∧ (s.enterDetached).due = s.due ∧ (s.enterDetached).power = s.power ∧
    (s.enterDetached).pins = s.pins ∧ (s.enterDetached).address = s.address ∧ (s.enterDetached).settings = s.settings ∧
    (s.enterDetached).group = s.group := by
  simp [State.enterDetached]

@[simp] theorem State.outOfStep_frame (s : State) (c : StepCause) :
    (s.outOfStep c).pending = s.pending ∧ (s.outOfStep c).due = s.due ∧ (s.outOfStep c).power = s.power ∧
    (s.outOfStep c).pins = s.pins ∧ (s.outOfStep c).address = s.address ∧ (s.outOfStep c).settings = s.settings ∧
    (s.outOfStep c).group = s.group := by
  unfold State.outOfStep; (repeat' split) <;> simp_all

@[simp] theorem State.selfEvict_frame (s : State) :
    (s.selfEvict).pending = s.pending ∧ (s.selfEvict).due = s.due ∧ (s.selfEvict).power = s.power ∧
    (s.selfEvict).pins = s.pins ∧ (s.selfEvict).address = s.address ∧ (s.selfEvict).settings = s.settings ∧
    (s.selfEvict).table = s.table ∧ (s.selfEvict).lease = s.lease ∧ (s.selfEvict).cap = s.cap ∧
    (s.selfEvict).freeze = s.freeze ∧ (s.selfEvict).group = s.group := by
  simp [State.selfEvict]

@[simp] theorem State.reachActive_frame (s : State) :
    (s.reachActive).pending = s.pending ∧ (s.reachActive).due = s.due ∧ (s.reachActive).power = s.power ∧
    (s.reachActive).pins = s.pins ∧ (s.reachActive).address = s.address ∧ (s.reachActive).settings = s.settings ∧
    (s.reachActive).table = s.table ∧ (s.reachActive).member = s.member ∧ (s.reachActive).lease = s.lease ∧
    (s.reachActive).loads = s.loads ∧ (s.reachActive).freeze = s.freeze ∧ (s.reachActive).group = s.group ∧
    (s.reachActive).port = s.port := by
  simp [State.reachActive]

@[simp] theorem State.joined_frame (s : State) :
    (s.joined).pending = s.pending ∧ (s.joined).due = s.due ∧ (s.joined).power = s.power ∧ (s.joined).pins = s.pins ∧
    (s.joined).address = s.address ∧ (s.joined).settings = s.settings ∧ (s.joined).table = s.table ∧
    (s.joined).lease = s.lease ∧ (s.joined).loads = s.loads ∧ (s.joined).freeze = s.freeze ∧ (s.joined).group = s.group := by
  simp [State.joined]

@[simp] theorem State.found_frame (s : State) :
    (s.found).pending = s.pending ∧ (s.found).due = s.due ∧ (s.found).power = s.power ∧ (s.found).pins = s.pins ∧
    (s.found).address = s.address ∧ (s.found).settings = s.settings ∧ (s.found).group = s.group := by
  simp [State.found]

@[simp] theorem State.reconcileClass_frame (s : State) (k : ClassIx) :
    (s.reconcileClass k).pending = s.pending ∧ (s.reconcileClass k).due = s.due ∧ (s.reconcileClass k).power = s.power ∧
    (s.reconcileClass k).pins = s.pins ∧ (s.reconcileClass k).address = s.address ∧ (s.reconcileClass k).settings = s.settings ∧
    (s.reconcileClass k).table = s.table ∧ (s.reconcileClass k).member = s.member ∧ (s.reconcileClass k).lease = s.lease ∧
    (s.reconcileClass k).cap = s.cap ∧ (s.reconcileClass k).freeze = s.freeze ∧ (s.reconcileClass k).group = s.group := by
  simp [State.reconcileClass]

@[simp] theorem State.sendReleaseIfOpen_frame (s : State) :
    (s.sendReleaseIfOpen).pending = s.pending ∧ (s.sendReleaseIfOpen).due = s.due ∧ (s.sendReleaseIfOpen).power = s.power ∧
    (s.sendReleaseIfOpen).pins = s.pins ∧ (s.sendReleaseIfOpen).address = s.address ∧
    (s.sendReleaseIfOpen).settings = s.settings ∧ (s.sendReleaseIfOpen).table = s.table ∧
    (s.sendReleaseIfOpen).member = s.member ∧ (s.sendReleaseIfOpen).lease = s.lease ∧ (s.sendReleaseIfOpen).loads = s.loads ∧
    (s.sendReleaseIfOpen).demand = s.demand ∧ (s.sendReleaseIfOpen).cap = s.cap ∧ (s.sendReleaseIfOpen).freeze = s.freeze ∧
    (s.sendReleaseIfOpen).group = s.group ∧ (s.sendReleaseIfOpen).port = s.port := by
  unfold State.sendReleaseIfOpen; (repeat' split) <;> simp_all

@[simp] theorem State.reconcileMember_frame (s : State) :
    (s.reconcileMember).pending = s.pending ∧ (s.reconcileMember).due = s.due ∧ (s.reconcileMember).power = s.power ∧
    (s.reconcileMember).pins = s.pins ∧ (s.reconcileMember).address = s.address ∧ (s.reconcileMember).settings = s.settings ∧
    (s.reconcileMember).table = s.table ∧ (s.reconcileMember).lease = s.lease ∧ (s.reconcileMember).freeze = s.freeze ∧
    (s.reconcileMember).group = s.group := by
  unfold State.reconcileMember
  and_intros <;>
    simp only [State.reachActive_frame, State.postPhase_frame, State.sendReleaseIfOpen_frame, State.setParticipation_frame]
  all_goals exact foldl_keeps _ _ (fun s k => by simp) _ _

@[simp] theorem State.reconcileAbsent_frame (s : State) :
    (s.reconcileAbsent).pending = s.pending ∧ (s.reconcileAbsent).due = s.due ∧ (s.reconcileAbsent).power = s.power ∧
    (s.reconcileAbsent).pins = s.pins ∧ (s.reconcileAbsent).address = s.address ∧ (s.reconcileAbsent).settings = s.settings ∧
    (s.reconcileAbsent).table = s.table ∧ (s.reconcileAbsent).lease = s.lease ∧ (s.reconcileAbsent).freeze = s.freeze ∧
    (s.reconcileAbsent).group = s.group := by
  unfold State.reconcileAbsent; dsimp only; (repeat' split) <;> simp

@[simp] theorem State.reconcile_frame (s : State) :
    (s.reconcile).pending = s.pending ∧ (s.reconcile).due = s.due ∧ (s.reconcile).power = s.power ∧
    (s.reconcile).pins = s.pins ∧ (s.reconcile).address = s.address ∧ (s.reconcile).settings = s.settings ∧
    (s.reconcile).table = s.table ∧ (s.reconcile).lease = s.lease ∧ (s.reconcile).freeze = s.freeze ∧
    (s.reconcile).group = s.group := by
  unfold State.reconcile; (repeat' split) <;> simp_all

@[simp] theorem postReplayed_frame (s : State) (r : Replayed) :
    (postReplayed s r).pending = s.pending ∧ (postReplayed s r).due = s.due ∧ (postReplayed s r).power = s.power ∧
    (postReplayed s r).pins = s.pins ∧ (postReplayed s r).address = s.address ∧ (postReplayed s r).settings = s.settings ∧
    (postReplayed s r).table = s.table ∧ (postReplayed s r).bus = s.bus ∧ (postReplayed s r).member = s.member ∧
    (postReplayed s r).lease = s.lease ∧ (postReplayed s r).loads = s.loads ∧ (postReplayed s r).demand = s.demand ∧
    (postReplayed s r).cap = s.cap ∧ (postReplayed s r).freeze = s.freeze ∧ (postReplayed s r).group = s.group := by
  unfold postReplayed; exact ⟨foldl_keeps _ State.pending (fun s e => by simp) _ _,
    foldl_keeps _ State.due (fun s e => by simp) _ _,
    foldl_keeps _ State.power (fun s e => by simp) _ _,
    foldl_keeps _ State.pins (fun s e => by simp) _ _,
    foldl_keeps _ State.address (fun s e => by simp) _ _,
    foldl_keeps _ State.settings (fun s e => by simp) _ _,
    foldl_keeps _ State.table (fun s e => by simp) _ _,
    foldl_keeps _ State.bus (fun s e => by simp) _ _,
    foldl_keeps _ State.member (fun s e => by simp) _ _,
    foldl_keeps _ State.lease (fun s e => by simp) _ _,
    foldl_keeps _ State.loads (fun s e => by simp) _ _,
    foldl_keeps _ State.demand (fun s e => by simp) _ _,
    foldl_keeps _ State.cap (fun s e => by simp) _ _,
    foldl_keeps _ State.freeze (fun s e => by simp) _ _,
    foldl_keeps _ State.group (fun s e => by simp) _ _⟩

@[simp] theorem replayCap_frame (s : State) (r : Replayed) :
    (replayCap s r).pending = s.pending ∧ (replayCap s r).due = s.due ∧ (replayCap s r).power = s.power ∧
    (replayCap s r).pins = s.pins ∧ (replayCap s r).address = s.address ∧ (replayCap s r).settings = s.settings ∧
    (replayCap s r).table = s.table ∧ (replayCap s r).member = s.member ∧ (replayCap s r).lease = s.lease ∧
    (replayCap s r).loads = s.loads ∧ (replayCap s r).demand = s.demand ∧ (replayCap s r).freeze = s.freeze ∧
    (replayCap s r).group = s.group ∧ (replayCap s r).port = s.port := by
  unfold replayCap; (repeat' split) <;> simp_all

@[simp] theorem replayFreeze_frame (s : State) (r : Replayed) :
    (replayFreeze s r).pending = s.pending ∧ (replayFreeze s r).due = s.due ∧ (replayFreeze s r).power = s.power ∧
    (replayFreeze s r).pins = s.pins ∧ (replayFreeze s r).address = s.address ∧ (replayFreeze s r).settings = s.settings ∧
    (replayFreeze s r).table = s.table ∧ (replayFreeze s r).member = s.member ∧ (replayFreeze s r).lease = s.lease ∧
    (replayFreeze s r).loads = s.loads ∧ (replayFreeze s r).demand = s.demand ∧ (replayFreeze s r).cap = s.cap ∧
    (replayFreeze s r).group = s.group ∧ (replayFreeze s r).port = s.port := by
  unfold replayFreeze; (repeat' split) <;> simp_all

@[simp] theorem postReplayeds_frame (rs : List Replayed) (s : State) :
    (rs.foldl postReplayed s).pending = s.pending ∧ (rs.foldl postReplayed s).due = s.due ∧
    (rs.foldl postReplayed s).power = s.power ∧ (rs.foldl postReplayed s).pins = s.pins ∧
    (rs.foldl postReplayed s).address = s.address ∧ (rs.foldl postReplayed s).settings = s.settings ∧
    (rs.foldl postReplayed s).table = s.table ∧ (rs.foldl postReplayed s).bus = s.bus ∧
    (rs.foldl postReplayed s).member = s.member ∧ (rs.foldl postReplayed s).lease = s.lease ∧
    (rs.foldl postReplayed s).loads = s.loads ∧ (rs.foldl postReplayed s).demand = s.demand ∧
    (rs.foldl postReplayed s).cap = s.cap ∧ (rs.foldl postReplayed s).freeze = s.freeze ∧
    (rs.foldl postReplayed s).group = s.group := by
  exact ⟨foldl_keeps _ State.pending (fun s r => by simp) _ _,
    foldl_keeps _ State.due (fun s r => by simp) _ _,
    foldl_keeps _ State.power (fun s r => by simp) _ _,
    foldl_keeps _ State.pins (fun s r => by simp) _ _,
    foldl_keeps _ State.address (fun s r => by simp) _ _,
    foldl_keeps _ State.settings (fun s r => by simp) _ _,
    foldl_keeps _ State.table (fun s r => by simp) _ _,
    foldl_keeps _ State.bus (fun s r => by simp) _ _,
    foldl_keeps _ State.member (fun s r => by simp) _ _,
    foldl_keeps _ State.lease (fun s r => by simp) _ _,
    foldl_keeps _ State.loads (fun s r => by simp) _ _,
    foldl_keeps _ State.demand (fun s r => by simp) _ _,
    foldl_keeps _ State.cap (fun s r => by simp) _ _,
    foldl_keeps _ State.freeze (fun s r => by simp) _ _,
    foldl_keeps _ State.group (fun s r => by simp) _ _⟩

@[simp] theorem replayCaps_frame (rs : List Replayed) (s : State) :
    (rs.foldl replayCap s).pending = s.pending ∧ (rs.foldl replayCap s).due = s.due ∧ (rs.foldl replayCap s).power = s.power ∧
    (rs.foldl replayCap s).pins = s.pins ∧ (rs.foldl replayCap s).address = s.address ∧
    (rs.foldl replayCap s).settings = s.settings ∧ (rs.foldl replayCap s).table = s.table ∧
    (rs.foldl replayCap s).member = s.member ∧ (rs.foldl replayCap s).lease = s.lease ∧ (rs.foldl replayCap s).loads = s.loads ∧
    (rs.foldl replayCap s).demand = s.demand ∧ (rs.foldl replayCap s).freeze = s.freeze ∧
    (rs.foldl replayCap s).group = s.group ∧ (rs.foldl replayCap s).port = s.port := by
  exact ⟨foldl_keeps _ State.pending (fun s r => by simp) _ _,
    foldl_keeps _ State.due (fun s r => by simp) _ _,
    foldl_keeps _ State.power (fun s r => by simp) _ _,
    foldl_keeps _ State.pins (fun s r => by simp) _ _,
    foldl_keeps _ State.address (fun s r => by simp) _ _,
    foldl_keeps _ State.settings (fun s r => by simp) _ _,
    foldl_keeps _ State.table (fun s r => by simp) _ _,
    foldl_keeps _ State.member (fun s r => by simp) _ _,
    foldl_keeps _ State.lease (fun s r => by simp) _ _,
    foldl_keeps _ State.loads (fun s r => by simp) _ _,
    foldl_keeps _ State.demand (fun s r => by simp) _ _,
    foldl_keeps _ State.freeze (fun s r => by simp) _ _,
    foldl_keeps _ State.group (fun s r => by simp) _ _,
    foldl_keeps _ State.port (fun s r => by simp) _ _⟩

@[simp] theorem replayFreezes_frame (rs : List Replayed) (s : State) :
    (rs.foldl replayFreeze s).pending = s.pending ∧ (rs.foldl replayFreeze s).due = s.due ∧
    (rs.foldl replayFreeze s).power = s.power ∧ (rs.foldl replayFreeze s).pins = s.pins ∧
    (rs.foldl replayFreeze s).address = s.address ∧ (rs.foldl replayFreeze s).settings = s.settings ∧
    (rs.foldl replayFreeze s).table = s.table ∧ (rs.foldl replayFreeze s).member = s.member ∧
    (rs.foldl replayFreeze s).lease = s.lease ∧ (rs.foldl replayFreeze s).loads = s.loads ∧
    (rs.foldl replayFreeze s).demand = s.demand ∧ (rs.foldl replayFreeze s).cap = s.cap ∧
    (rs.foldl replayFreeze s).group = s.group ∧ (rs.foldl replayFreeze s).port = s.port := by
  exact ⟨foldl_keeps _ State.pending (fun s r => by simp) _ _,
    foldl_keeps _ State.due (fun s r => by simp) _ _,
    foldl_keeps _ State.power (fun s r => by simp) _ _,
    foldl_keeps _ State.pins (fun s r => by simp) _ _,
    foldl_keeps _ State.address (fun s r => by simp) _ _,
    foldl_keeps _ State.settings (fun s r => by simp) _ _,
    foldl_keeps _ State.table (fun s r => by simp) _ _,
    foldl_keeps _ State.member (fun s r => by simp) _ _,
    foldl_keeps _ State.lease (fun s r => by simp) _ _,
    foldl_keeps _ State.loads (fun s r => by simp) _ _,
    foldl_keeps _ State.demand (fun s r => by simp) _ _,
    foldl_keeps _ State.cap (fun s r => by simp) _ _,
    foldl_keeps _ State.group (fun s r => by simp) _ _,
    foldl_keeps _ State.port (fun s r => by simp) _ _⟩

@[simp] theorem State.install_frame (s : State) (h : ImageHeader) (t : Table) (rs : List Replayed) :
    (s.install h t rs).pending = s.pending ∧ (s.install h t rs).due = s.due ∧ (s.install h t rs).power = s.power ∧
    (s.install h t rs).pins = s.pins ∧ (s.install h t rs).address = s.address ∧ (s.install h t rs).settings = s.settings ∧
    (s.install h t rs).group = s.group := by
  simp [State.install]

@[simp] theorem State.finishCollection_frame (s : State) (c : Collection) :
    (s.finishCollection c).pending = s.pending ∧ (s.finishCollection c).due = s.due ∧ (s.finishCollection c).power = s.power ∧
    (s.finishCollection c).pins = s.pins ∧ (s.finishCollection c).address = s.address ∧
    (s.finishCollection c).settings = s.settings ∧ (s.finishCollection c).group = s.group := by
  unfold State.finishCollection; (repeat' split) <;> simp_all

@[simp] theorem State.startCollection_frame (s : State) (q : Station) (h : ImageHeader) :
    (s.startCollection q h).pending = s.pending ∧ (s.startCollection q h).due = s.due ∧
    (s.startCollection q h).power = s.power ∧ (s.startCollection q h).pins = s.pins ∧
    (s.startCollection q h).address = s.address ∧ (s.startCollection q h).settings = s.settings ∧
    (s.startCollection q h).table = s.table ∧ (s.startCollection q h).bus = s.bus ∧ (s.startCollection q h).lease = s.lease ∧
    (s.startCollection q h).loads = s.loads ∧ (s.startCollection q h).demand = s.demand ∧ (s.startCollection q h).cap = s.cap ∧
    (s.startCollection q h).freeze = s.freeze ∧ (s.startCollection q h).group = s.group ∧ (s.startCollection q h).port = s.port := by
  unfold State.startCollection; (try dsimp only); (repeat' split) <;> simp_all

@[simp] theorem State.storeSegment_frame (s : State) (c : Collection) (i : Fin 8) (r : Vector WireEntry 4) :
    (s.storeSegment c i r).pending = s.pending ∧ (s.storeSegment c i r).due = s.due ∧ (s.storeSegment c i r).power = s.power ∧
    (s.storeSegment c i r).pins = s.pins ∧ (s.storeSegment c i r).address = s.address ∧
    (s.storeSegment c i r).settings = s.settings ∧ (s.storeSegment c i r).group = s.group := by
  unfold State.storeSegment; (try dsimp only); (repeat' split) <;> simp_all

@[simp] theorem State.collect_frame (s : State) (q : Station) (g : Segment) :
    (s.collect q g).pending = s.pending ∧ (s.collect q g).due = s.due ∧ (s.collect q g).power = s.power ∧
    (s.collect q g).pins = s.pins ∧ (s.collect q g).address = s.address ∧ (s.collect q g).settings = s.settings ∧
    (s.collect q g).group = s.group := by
  unfold State.collect; (repeat' split) <;> simp_all

@[simp] theorem State.noteSegmentZero_frame (s : State) :
    (s.noteSegmentZero).pending = s.pending ∧ (s.noteSegmentZero).due = s.due ∧ (s.noteSegmentZero).power = s.power ∧
    (s.noteSegmentZero).pins = s.pins ∧ (s.noteSegmentZero).address = s.address ∧ (s.noteSegmentZero).settings = s.settings ∧
    (s.noteSegmentZero).table = s.table ∧ (s.noteSegmentZero).lease = s.lease ∧ (s.noteSegmentZero).loads = s.loads ∧
    (s.noteSegmentZero).demand = s.demand ∧ (s.noteSegmentZero).cap = s.cap ∧ (s.noteSegmentZero).freeze = s.freeze ∧
    (s.noteSegmentZero).group = s.group ∧ (s.noteSegmentZero).port = s.port := by
  unfold State.noteSegmentZero; (try dsimp only); (repeat' split) <;> simp_all

@[simp] theorem State.advanceTrain_frame (s : State) (g : Segment) :
    (s.advanceTrain g).pending = s.pending ∧ (s.advanceTrain g).due = s.due ∧ (s.advanceTrain g).power = s.power ∧
    (s.advanceTrain g).pins = s.pins ∧ (s.advanceTrain g).address = s.address ∧ (s.advanceTrain g).settings = s.settings ∧
    (s.advanceTrain g).table = s.table ∧ (s.advanceTrain g).lease = s.lease ∧ (s.advanceTrain g).loads = s.loads ∧
    (s.advanceTrain g).demand = s.demand ∧ (s.advanceTrain g).cap = s.cap ∧ (s.advanceTrain g).freeze = s.freeze ∧
    (s.advanceTrain g).group = s.group ∧ (s.advanceTrain g).port = s.port := by
  unfold State.advanceTrain; (try dsimp only); (repeat' split) <;> simp_all

@[simp] theorem State.claimGranted_frame (s : State) (k : ClassIx) (u : Nat) (t : LoadIx) :
    (s.claimGranted k u t).pending = s.pending ∧ (s.claimGranted k u t).due = s.due ∧ (s.claimGranted k u t).power = s.power ∧
    (s.claimGranted k u t).pins = s.pins ∧ (s.claimGranted k u t).address = s.address ∧
    (s.claimGranted k u t).settings = s.settings ∧ (s.claimGranted k u t).table = s.table ∧
    (s.claimGranted k u t).member = s.member ∧ (s.claimGranted k u t).lease = s.lease ∧ (s.claimGranted k u t).cap = s.cap ∧
    (s.claimGranted k u t).freeze = s.freeze ∧ (s.claimGranted k u t).group = s.group := by
  unfold State.claimGranted; (repeat' split) <;> simp_all

@[simp] theorem State.claimDenied_frame (s : State) (t : LoadIx) :
    (s.claimDenied t).pending = s.pending ∧ (s.claimDenied t).due = s.due ∧ (s.claimDenied t).power = s.power ∧
    (s.claimDenied t).pins = s.pins ∧ (s.claimDenied t).address = s.address ∧ (s.claimDenied t).settings = s.settings ∧
    (s.claimDenied t).table = s.table ∧ (s.claimDenied t).bus = s.bus ∧ (s.claimDenied t).member = s.member ∧
    (s.claimDenied t).lease = s.lease ∧ (s.claimDenied t).cap = s.cap ∧ (s.claimDenied t).freeze = s.freeze ∧
    (s.claimDenied t).group = s.group := by
  unfold State.claimDenied; (try dsimp only); (repeat' split) <;> simp_all

@[simp] theorem State.postTableEvents_frame (s : State) (b : Table) (q : Station) (c : Change) :
    (s.postTableEvents b q c).pending = s.pending ∧ (s.postTableEvents b q c).due = s.due ∧
    (s.postTableEvents b q c).power = s.power ∧ (s.postTableEvents b q c).pins = s.pins ∧
    (s.postTableEvents b q c).address = s.address ∧ (s.postTableEvents b q c).settings = s.settings ∧
    (s.postTableEvents b q c).table = s.table ∧ (s.postTableEvents b q c).bus = s.bus ∧
    (s.postTableEvents b q c).member = s.member ∧ (s.postTableEvents b q c).lease = s.lease ∧
    (s.postTableEvents b q c).loads = s.loads ∧ (s.postTableEvents b q c).demand = s.demand ∧
    (s.postTableEvents b q c).cap = s.cap ∧ (s.postTableEvents b q c).freeze = s.freeze ∧
    (s.postTableEvents b q c).group = s.group := by
  unfold State.postTableEvents; exact ⟨foldl_keeps _ State.pending (fun s e => by simp) _ _,
    foldl_keeps _ State.due (fun s e => by simp) _ _,
    foldl_keeps _ State.power (fun s e => by simp) _ _,
    foldl_keeps _ State.pins (fun s e => by simp) _ _,
    foldl_keeps _ State.address (fun s e => by simp) _ _,
    foldl_keeps _ State.settings (fun s e => by simp) _ _,
    foldl_keeps _ State.table (fun s e => by simp) _ _,
    foldl_keeps _ State.bus (fun s e => by simp) _ _,
    foldl_keeps _ State.member (fun s e => by simp) _ _,
    foldl_keeps _ State.lease (fun s e => by simp) _ _,
    foldl_keeps _ State.loads (fun s e => by simp) _ _,
    foldl_keeps _ State.demand (fun s e => by simp) _ _,
    foldl_keeps _ State.cap (fun s e => by simp) _ _,
    foldl_keeps _ State.freeze (fun s e => by simp) _ _,
    foldl_keeps _ State.group (fun s e => by simp) _ _⟩

@[simp] theorem State.handRemoval_frame (s : State) (r : Station) (e : Bool) :
    (s.handRemoval r e).pending = s.pending ∧ (s.handRemoval r e).due = s.due ∧ (s.handRemoval r e).power = s.power ∧
    (s.handRemoval r e).pins = s.pins ∧ (s.handRemoval r e).address = s.address ∧ (s.handRemoval r e).settings = s.settings ∧
    (s.handRemoval r e).group = s.group := by
  unfold State.handRemoval; dsimp only; (repeat' split) <;> simp

@[simp] theorem State.handOff_frame (s : State) (b : Table) (q : Station) (c : Change) :
    (s.handOff b q c).pending = s.pending ∧ (s.handOff b q c).due = s.due ∧ (s.handOff b q c).power = s.power ∧
    (s.handOff b q c).pins = s.pins ∧ (s.handOff b q c).address = s.address ∧ (s.handOff b q c).settings = s.settings ∧
    (s.handOff b q c).group = s.group := by
  unfold State.handOff; dsimp only; (repeat' split) <;> simp

@[simp] theorem State.applyFrame_frame (s : State) (q : Station) (c : Change) :
    (s.applyFrame q c).pending = s.pending ∧ (s.applyFrame q c).due = s.due ∧ (s.applyFrame q c).power = s.power ∧
    (s.applyFrame q c).pins = s.pins ∧ (s.applyFrame q c).address = s.address ∧ (s.applyFrame q c).settings = s.settings ∧
    (s.applyFrame q c).group = s.group := by
  unfold State.applyFrame; dsimp only; split <;> simp

@[simp] theorem State.completeOwn_frame (s : State) (k : FrameKind) :
    (s.completeOwn k).pending = s.pending ∧ (s.completeOwn k).due = s.due ∧ (s.completeOwn k).power = s.power ∧
    (s.completeOwn k).pins = s.pins ∧ (s.completeOwn k).address = s.address ∧ (s.completeOwn k).settings = s.settings ∧
    (s.completeOwn k).table = s.table ∧ (s.completeOwn k).member = s.member ∧ (s.completeOwn k).loads = s.loads ∧
    (s.completeOwn k).demand = s.demand ∧ (s.completeOwn k).cap = s.cap ∧ (s.completeOwn k).freeze = s.freeze ∧
    (s.completeOwn k).group = s.group ∧ (s.completeOwn k).port = s.port := by
  unfold State.completeOwn; (try dsimp only); (repeat' split) <;> simp_all

@[simp] theorem State.toldAccepted_frame (s : State) (c : Change) :
    (s.toldAccepted c).pending = s.pending ∧ (s.toldAccepted c).due = s.due ∧ (s.toldAccepted c).power = s.power ∧
    (s.toldAccepted c).pins = s.pins ∧ (s.toldAccepted c).address = s.address ∧ (s.toldAccepted c).settings = s.settings ∧
    (s.toldAccepted c).table = s.table ∧ (s.toldAccepted c).bus = s.bus ∧ (s.toldAccepted c).member = s.member ∧
    (s.toldAccepted c).loads = s.loads ∧ (s.toldAccepted c).cap = s.cap ∧ (s.toldAccepted c).group = s.group ∧
    (s.toldAccepted c).port = s.port := by
  unfold State.toldAccepted; (try dsimp only); (repeat' split) <;> simp_all

@[simp] theorem State.toldLost_frame (s : State) (c : Change) :
    (s.toldLost c).pending = s.pending ∧ (s.toldLost c).due = s.due ∧ (s.toldLost c).power = s.power ∧
    (s.toldLost c).pins = s.pins ∧ (s.toldLost c).address = s.address ∧ (s.toldLost c).settings = s.settings ∧
    (s.toldLost c).table = s.table ∧ (s.toldLost c).bus = s.bus ∧ (s.toldLost c).member = s.member ∧
    (s.toldLost c).cap = s.cap ∧ (s.toldLost c).group = s.group ∧ (s.toldLost c).port = s.port := by
  unfold State.toldLost; (try dsimp only); (repeat' split) <;> simp_all

@[simp] theorem State.afterUnheard_frame (s : State) (c : Change) :
    (s.afterUnheard c).pending = s.pending ∧ (s.afterUnheard c).due = s.due ∧ (s.afterUnheard c).power = s.power ∧
    (s.afterUnheard c).pins = s.pins ∧ (s.afterUnheard c).address = s.address ∧ (s.afterUnheard c).settings = s.settings ∧
    (s.afterUnheard c).table = s.table ∧ (s.afterUnheard c).member = s.member ∧ (s.afterUnheard c).lease = s.lease ∧
    (s.afterUnheard c).freeze = s.freeze ∧ (s.afterUnheard c).group = s.group ∧ (s.afterUnheard c).port = s.port := by
  unfold State.afterUnheard; (try dsimp only); (repeat' split) <;> simp_all

@[simp] theorem State.afterCap_frame (s : State) (c : Change) :
    (s.afterCap c).pending = s.pending ∧ (s.afterCap c).due = s.due ∧ (s.afterCap c).power = s.power ∧
    (s.afterCap c).pins = s.pins ∧ (s.afterCap c).address = s.address ∧ (s.afterCap c).settings = s.settings ∧
    (s.afterCap c).table = s.table ∧ (s.afterCap c).member = s.member ∧ (s.afterCap c).lease = s.lease ∧
    (s.afterCap c).loads = s.loads ∧ (s.afterCap c).demand = s.demand ∧ (s.afterCap c).freeze = s.freeze ∧
    (s.afterCap c).group = s.group ∧ (s.afterCap c).port = s.port := by
  unfold State.afterCap; (repeat' split) <;> simp_all

@[simp] theorem State.ownChange_frame (s : State) (c : Change) (l : Slots) :
    (s.ownChange c l).pending = s.pending ∧ (s.ownChange c l).due = s.due ∧ (s.ownChange c l).power = s.power ∧
    (s.ownChange c l).pins = s.pins ∧ (s.ownChange c l).address = s.address ∧ (s.ownChange c l).settings = s.settings ∧
    (s.ownChange c l).group = s.group := by
  unfold State.ownChange; (try dsimp only); (repeat' split) <;> simp_all

@[simp] theorem State.ownSeek_frame (s : State) :
    (s.ownSeek).pending = s.pending ∧ (s.ownSeek).due = s.due ∧ (s.ownSeek).power = s.power ∧ (s.ownSeek).pins = s.pins ∧
    (s.ownSeek).address = s.address ∧ (s.ownSeek).settings = s.settings ∧ (s.ownSeek).table = s.table ∧
    (s.ownSeek).loads = s.loads ∧ (s.ownSeek).demand = s.demand ∧ (s.ownSeek).cap = s.cap ∧ (s.ownSeek).freeze = s.freeze ∧
    (s.ownSeek).group = s.group ∧ (s.ownSeek).port = s.port := by
  unfold State.ownSeek; (try dsimp only); (repeat' split) <;> simp_all

@[simp] theorem State.countFailure_frame (s : State) (k : FrameKind) :
    (s.countFailure k).pending = s.pending ∧ (s.countFailure k).due = s.due ∧ (s.countFailure k).power = s.power ∧
    (s.countFailure k).pins = s.pins ∧ (s.countFailure k).address = s.address ∧ (s.countFailure k).settings = s.settings ∧
    (s.countFailure k).group = s.group := by
  unfold State.countFailure; (try dsimp only); (repeat' split) <;> simp_all

@[simp] theorem State.duplicate_frame (s : State) (k : FrameKind) :
    (s.duplicate k).pending = s.pending ∧ (s.duplicate k).due = s.due ∧ (s.duplicate k).power = s.power ∧
    (s.duplicate k).pins = s.pins ∧ (s.duplicate k).address = s.address ∧ (s.duplicate k).settings = s.settings ∧
    (s.duplicate k).group = s.group := by
  simp [State.duplicate]

@[simp] theorem State.received_frame (s : State) (k : FrameKind) (q : Station) :
    (s.received k q).pending = s.pending ∧ (s.received k q).due = s.due ∧ (s.received k q).power = s.power ∧
    (s.received k q).pins = s.pins ∧ (s.received k q).address = s.address ∧ (s.received k q).settings = s.settings ∧
    (s.received k q).table = s.table ∧ (s.received k q).loads = s.loads ∧ (s.received k q).demand = s.demand ∧
    (s.received k q).cap = s.cap ∧ (s.received k q).freeze = s.freeze ∧ (s.received k q).group = s.group ∧
    (s.received k q).port = s.port := by
  simp [State.received]

@[simp] theorem State.otherChange_frame (s : State) (q : Station) (b : Base) (c : Change) (l : Slots) :
    (s.otherChange q b c l).pending = s.pending ∧ (s.otherChange q b c l).due = s.due ∧
    (s.otherChange q b c l).power = s.power ∧ (s.otherChange q b c l).pins = s.pins ∧
    (s.otherChange q b c l).address = s.address ∧ (s.otherChange q b c l).settings = s.settings ∧
    (s.otherChange q b c l).group = s.group := by
  unfold State.otherChange; (try dsimp only); (repeat' split) <;> simp_all

@[simp] theorem State.toldLatched_frame (s : State) (b : FrameBody) :
    (s.toldLatched b).pending = s.pending ∧ (s.toldLatched b).due = s.due ∧ (s.toldLatched b).power = s.power ∧
    (s.toldLatched b).pins = s.pins ∧ (s.toldLatched b).address = s.address ∧ (s.toldLatched b).settings = s.settings ∧
    (s.toldLatched b).table = s.table ∧ (s.toldLatched b).bus = s.bus ∧ (s.toldLatched b).loads = s.loads ∧
    (s.toldLatched b).cap = s.cap ∧ (s.toldLatched b).group = s.group ∧ (s.toldLatched b).port = s.port := by
  unfold State.toldLatched; (try dsimp only); (repeat' split) <;> simp_all

@[simp] theorem State.latch_frame (s : State) (k : FrameKind) :
    (s.latch k).pending = s.pending ∧ (s.latch k).due = s.due ∧ (s.latch k).power = s.power ∧ (s.latch k).pins = s.pins ∧
    (s.latch k).address = s.address ∧ (s.latch k).settings = s.settings ∧ (s.latch k).table = s.table ∧
    (s.latch k).loads = s.loads ∧ (s.latch k).cap = s.cap ∧ (s.latch k).group = s.group ∧ (s.latch k).port = s.port := by
  unfold State.latch; (try dsimp only); (repeat' split) <;> simp_all

@[simp] theorem State.takeHeldWithdrawal_frame (s : State) (k : FrameKind) :
    (s.takeHeldWithdrawal k).pending = s.pending ∧ (s.takeHeldWithdrawal k).due = s.due ∧
    (s.takeHeldWithdrawal k).power = s.power ∧ (s.takeHeldWithdrawal k).pins = s.pins ∧
    (s.takeHeldWithdrawal k).address = s.address ∧ (s.takeHeldWithdrawal k).settings = s.settings ∧
    (s.takeHeldWithdrawal k).table = s.table ∧ (s.takeHeldWithdrawal k).member = s.member ∧
    (s.takeHeldWithdrawal k).lease = s.lease ∧ (s.takeHeldWithdrawal k).cap = s.cap ∧
    (s.takeHeldWithdrawal k).freeze = s.freeze ∧ (s.takeHeldWithdrawal k).group = s.group ∧
    (s.takeHeldWithdrawal k).port = s.port := by
  unfold State.takeHeldWithdrawal; (try dsimp only); (repeat' split) <;> simp_all

@[simp] theorem State.contentionOver_frame (s : State) (k : FrameKind) :
    (s.contentionOver k).pending = s.pending ∧ (s.contentionOver k).due = s.due ∧ (s.contentionOver k).power = s.power ∧
    (s.contentionOver k).pins = s.pins ∧ (s.contentionOver k).address = s.address ∧ (s.contentionOver k).settings = s.settings ∧
    (s.contentionOver k).table = s.table ∧ (s.contentionOver k).member = s.member ∧ (s.contentionOver k).lease = s.lease ∧
    (s.contentionOver k).freeze = s.freeze ∧ (s.contentionOver k).group = s.group ∧ (s.contentionOver k).port = s.port := by
  unfold State.contentionOver; (try dsimp only); (repeat' split) <;> simp_all

@[simp] theorem State.undoLatch_frame (s : State) (b : FrameBody) :
    (s.undoLatch b).pending = s.pending ∧ (s.undoLatch b).due = s.due ∧ (s.undoLatch b).power = s.power ∧
    (s.undoLatch b).pins = s.pins ∧ (s.undoLatch b).address = s.address ∧ (s.undoLatch b).settings = s.settings ∧
    (s.undoLatch b).table = s.table ∧ (s.undoLatch b).group = s.group ∧ (s.undoLatch b).port = s.port := by
  unfold State.undoLatch; (try dsimp only); (repeat' split) <;> simp_all

@[simp] theorem State.failTransmit_frame (s : State) :
    (s.failTransmit).pending = s.pending ∧ (s.failTransmit).due = s.due ∧ (s.failTransmit).power = s.power ∧
    (s.failTransmit).pins = s.pins ∧ (s.failTransmit).address = s.address ∧ (s.failTransmit).settings = s.settings ∧
    (s.failTransmit).group = s.group := by
  unfold State.failTransmit; (try dsimp only); (repeat' split) <;> simp_all

end Sys2Proof.Machine
end

