-- ==== Sys2Proof/Laws/Values.lean ====
section
/-! SUPPORT. What the shared operations leave in the fields they change: events, the send list, load records, the demand queue, the account, the table, the seek wait and the quiet timer. -/

namespace Sys2Proof.Machine

/-! ## Events -/

theorem Port.offer_of_lt (p : Port) (r : EventRecord) (h : p.events.length < Config.maxEvents) :
    p.offer r = { p with events := p.events ++ [r] } := by simp [Port.offer, h]

theorem Port.offer_of_full (p : Port) (r : EventRecord) (h : Config.maxEvents ≤ p.events.length) :
    p.offer r = { p with overflow := true } := by simp [Port.offer, Nat.not_lt.mpr h]

theorem Port.offer_sound (p : Port) (r : EventRecord) (h : p.sound) : (p.offer r).sound := by
  unfold Port.offer Port.sound at *
  split <;> simp_all

theorem State.postAt_port (s : State) (w : Word16) (c : EventCode) (a : Byte) :
    (s.postAt w c a).port =
      if s.port.enabled c then s.port.offer { code := c, arg := a, commit := w } else s.port := by
  unfold State.postAt; split <;> rfl

theorem State.post_port (s : State) (c : EventCode) (a : Byte) :
    (s.post c a).port =
      if s.port.enabled c then s.port.offer { code := c, arg := a, commit := s.table.commit } else s.port :=
  s.postAt_port _ _ _

theorem State.postAt_port_sound (s : State) (w : Word16) (c : EventCode) (a : Byte) (h : s.port.sound) :
    (s.postAt w c a).port.sound := by
  rw [State.postAt_port]; split
  · exact Port.offer_sound _ _ h
  · exact h

theorem State.post_port_sound (s : State) (c : EventCode) (a : Byte) (h : s.port.sound) : (s.post c a).port.sound :=
  s.postAt_port_sound _ _ _ h

/-- A posting changes the port alone. -/
theorem State.postAt_eq (s : State) (w : Word16) (c : EventCode) (a : Byte) :
    s.postAt w c a = { s with port := (s.postAt w c a).port } := by unfold State.postAt; split <;> rfl

/-! ## The send list -/

@[simp] theorem Bus.has_place_self (b : Bus) (k : FrameKind) : (b.place k).has k = true := by simp [Bus.has, Bus.place]

theorem Bus.has_place (b : Bus) (j k : FrameKind) : (b.place k).has j = (b.has j || k == j) := by simp [Bus.has, Bus.place]

@[simp] theorem Bus.has_drop_self (b : Bus) (k : FrameKind) : (b.drop k).has k = false := by
  simp [Bus.has, Bus.drop]

theorem Bus.has_drop_of_ne (b : Bus) {j k : FrameKind} (h : j ≠ k) : (b.drop k).has j = b.has j := by
  simp only [Bus.has, Bus.drop, List.any_filter]
  congr 1; funext i
  by_cases e : i.kind = j <;> simp_all

theorem Bus.has_modify (b : Bus) (j k : FrameKind) (f : Item → Item) (h : ∀ i, (f i).kind = i.kind) :
    (b.modify k f).has j = b.has j := by
  simp only [Bus.has, Bus.modify, List.any_map]
  congr 1; funext i
  simp only [Function.comp]; split <;> simp [h]

/-- A posting leaves no other kind's item changed in its presence. -/
theorem State.send_has_of_ne (s : State) {j k : FrameKind} (h : j ≠ k) : (s.send k).bus.has j = s.bus.has j := by
  unfold State.send
  split
  · rfl
  split
  · simp only [Bus.has_place]; simp [Ne.symm h]
  split
  · exact Bus.has_modify _ _ _ _ fun _ => rfl
  · rfl

/-- Where the state allows the kind, an item stands after its posting. -/
theorem State.send_has (s : State) (k : FrameKind) (h : s.member.participation.allows k = true) : (s.send k).bus.has k = true := by
  unfold State.send
  simp only [h, Bool.not_true, Bool.false_eq_true, if_false]
  split
  · simp
  next hn =>
    have hk : s.bus.has k = true := by simpa using hn
    split
    · exact (Bus.has_modify s.bus k k (fun i => { i with postedAgain := true }) fun _ => rfl).trans hk
    · exact hk

/-- Where the state does not allow the kind, a posting does nothing. -/
theorem State.send_of_not_allowed (s : State) (k : FrameKind) (h : s.member.participation.allows k = false) : s.send k = s := by
  simp [State.send, h]

/-- A posting changes the items of the send list alone. -/
theorem State.send_eq (s : State) (k : FrameKind) : s.send k = { s with bus := { s.bus with items := (s.send k).bus.items } } := by
  unfold State.send; (repeat' split) <;> rfl

/-- A withdrawal changes the items, or holds itself, and nothing else. -/
theorem State.withdrawItem_eq (s : State) (k : FrameKind) :
    s.withdrawItem k = { s with bus := { s.bus with
      items := (s.withdrawItem k).bus.items, withdrawHeld := (s.withdrawItem k).bus.withdrawHeld } } := by
  unfold State.withdrawItem; (repeat' split) <;> rfl

theorem Bus.stopped_sound : Bus.stopped.sound := by simp [Bus.sound, Bus.stopped, Config.maxCodes, Config.failureLimit]

theorem Bus.place_sound (b : Bus) (k : FrameKind) (hb : b.sound) (hk : k ≠ .group) (h : b.has k = false) : (b.place k).sound := by
  obtain ⟨h1, h2, h3, h4⟩ := hb
  refine ⟨?_, ?_, h3, h4⟩
  · simp only [Bus.place, List.map_append, List.map_cons, List.map_nil]
    refine List.nodup_append.mpr ⟨h1, by simp, ?_⟩
    intro x hx y hy hxy
    simp only [List.mem_singleton] at hy
    obtain ⟨i, hi, rfl⟩ := List.mem_map.mp hx
    simp only [Bus.has, List.any_eq_false] at h
    exact h i hi (by simp [hxy, hy])
  · intro i hi
    simp only [Bus.place, List.mem_append, List.mem_singleton] at hi
    rcases hi with hi | rfl
    · exact h2 i hi
    · exact ⟨hk, Nat.zero_lt_succ 3⟩

theorem Bus.filter_sound (b : Bus) (p : Item → Bool) (hb : b.sound) : { b with items := b.items.filter p }.sound := by
  obtain ⟨h1, h2, h3, h4⟩ := hb
  exact ⟨h1.sublist (List.filter_sublist.map _), fun i hi => h2 i (List.mem_filter.mp hi).1, h3, h4⟩

theorem Bus.drop_sound (b : Bus) (k : FrameKind) (hb : b.sound) : (b.drop k).sound := b.filter_sound _ hb

theorem Bus.modify_sound (b : Bus) (k : FrameKind) (f : Item → Item) (hb : b.sound) (hk : ∀ i, (f i).kind = i.kind)
    (ha : ∀ i, i.attempts < Config.maxAttempts → (f i).attempts < Config.maxAttempts) : (b.modify k f).sound := by
  obtain ⟨h1, h2, h3, h4⟩ := hb
  refine ⟨?_, ?_, h3, h4⟩
  · have : (b.modify k f).items.map (·.kind) = b.items.map (·.kind) := by
      simp only [Bus.modify, List.map_map]
      apply List.map_congr_left; intro i _
      simp only [Function.comp]; split <;> simp [hk]
    rw [this]; exact h1
  · intro i hi
    obtain ⟨j, hj, rfl⟩ := List.mem_map.mp hi
    split
    · exact ⟨by rw [hk]; exact (h2 j hj).1, ha j (h2 j hj).2⟩
    · exact h2 j hj

theorem State.send_bus_sound (s : State) (k : FrameKind) (hk : k ≠ .group) (h : s.bus.sound) : (s.send k).bus.sound := by
  unfold State.send
  split
  · exact h
  split
  next hn => exact Bus.place_sound _ _ h hk (by simpa using hn)
  split
  · exact Bus.modify_sound _ _ _ h (fun _ => rfl) fun _ ha => ha
  · exact h

theorem State.withdrawItem_bus_sound (s : State) (k : FrameKind) (h : s.bus.sound) : (s.withdrawItem k).bus.sound := by
  unfold State.withdrawItem
  (repeat' split) <;> first | exact h | exact Bus.drop_sound _ _ h

theorem State.retire_bus_sound (s : State) (k : FrameKind) (hk : k ≠ .group) (h : s.bus.sound) : (s.retire k).bus.sound := by
  unfold State.retire
  (repeat' split)
  · exact State.send_bus_sound _ _ hk (Bus.drop_sound _ _ h)
  · exact Bus.drop_sound _ _ h
  · exact h

theorem State.keepItem_bus_sound (s : State) (k : FrameKind) (n : Nat) (hn : n < Config.maxAttempts) (h : s.bus.sound) :
    (s.keepItem k n).bus.sound := Bus.modify_sound _ _ _ h (fun _ => rfl) fun _ _ => hn

theorem State.setParticipation_bus_sound (s : State) (p : Participation) (h : s.bus.sound) : (s.setParticipation p).bus.sound :=
  s.bus.filter_sound _ h

/-! ## Load records -/

theorem State.load_setLoad (s : State) (x y : LoadIx) (r : LoadRecord) :
    (s.setLoad x r).load y = if x = y then r else s.load y := by
  split
  next h => subst h; simp
  next h => exact s.load_setLoad_of_ne r h

theorem State.occupied_setLoad (s : State) (x y : LoadIx) (r : LoadRecord) :
    (s.setLoad x r).occupied y = if x = y then r.state.units (s.cfg x) else s.occupied y := by
  unfold State.occupied
  rw [State.load_setLoad, State.cfg_setLoad]
  split
  next h => subst h; rfl
  next => rfl

/-- What a class occupies depends on the load records and the settings alone. -/
theorem State.occupiedIn_congr (s t : State) (k : ClassIx) (hl : t.loads.records = s.loads.records) (hc : t.settings = s.settings) :
    t.occupiedIn k = s.occupiedIn k := by
  simp only [State.occupiedIn, State.occupied, State.load, State.cfg, hl, hc]
  congr 1

/-! ## The demand queue and the account -/

theorem mem_enqueueBy (cls : LoadIx → ClassIx) (x y : LoadIx) (q : List LoadIx) : y ∈ enqueueBy cls x q ↔ y = x ∨ y ∈ q := by
  have h : y ∈ q ↔ y ∈ q.takeWhile (fun y => decide (cls y ≤ cls x)) ∨ y ∈ q.dropWhile (fun y => decide (cls y ≤ cls x)) := by
    rw [← List.mem_append, List.takeWhile_append_dropWhile]
  simp only [enqueueBy, List.mem_append, List.mem_cons, h]
  tauto

theorem nodup_enqueueBy (cls : LoadIx → ClassIx) (x : LoadIx) (q : List LoadIx) (hq : q.Nodup) (hx : x ∉ q) :
    (enqueueBy cls x q).Nodup := by
  have hp : (enqueueBy cls x q).Perm (x :: q) := by
    unfold enqueueBy
    refine List.perm_middle.trans ?_
    rw [List.takeWhile_append_dropWhile]
  exact hp.nodup_iff.mpr (List.nodup_cons.mpr ⟨hx, hq⟩)

@[simp] theorem State.enqueue_demand (s : State) (x : LoadIx) :
    (s.enqueue x).demand = { s.demand with queue := enqueueBy (fun y => (s.cfg y).cls) x s.demand.queue } := rfl

@[simp] theorem State.dequeue_demand (s : State) (x : LoadIx) :
    (s.dequeue x).demand = { s.demand with queue := s.demand.queue.erase x } := rfl

/-- Freed units go to the open part of their class, and nothing else of the Demand Scheduler changes. -/
theorem State.freeUnits_demand (s : State) (k : ClassIx) (u : Nat) :
    (s.freeUnits k u).demand = { s.demand with openUnits := addAt s.demand.openUnits k u } := by
  unfold State.freeUnits
  split
  next h =>
    subst h
    have : addAt s.demand.openUnits k 0 = s.demand.openUnits := by
      apply Vector.ext; intro i hi
      simp only [addAt, Nat.add_zero, Vector.getElem_set]
      split
      next e => subst e; rfl
      next => rfl
    rw [this]
  next => simp

theorem addAt_get (v : Vector Nat 4) (k j : ClassIx) (u : Nat) : (addAt v k u)[j] = v[j] + if k = j then u else 0 := by
  unfold addAt
  by_cases h : k = j
  · subst h; simp
  · have : k.val ≠ j.val := fun e => h (Fin.ext e)
    simp [h, this]

/-! ## The table -/

theorem Table.setEntry_entries (t : Table) (q p : Station) (e : Entry) :
    (t.setEntry q e).entries[p] = if q = p then e else t.entries[p] := by
  unfold Table.setEntry
  by_cases h : q = p
  · subst h; simp
  · have : q.val ≠ p.val := fun e => h (Fin.ext e)
    simp [h, this]

theorem Entry.absent_sound : Entry.absent.sound := by
  intro k
  simp [Entry.absent, Config.maxHolding]

theorem Entry.joined_sound : Entry.joined.sound := by
  intro k
  simp [Entry.joined, Config.maxHolding]

/-! ## The seek wait and the quiet timer -/

theorem State.abandon_member (s : State) (c : AbandonCause) :
    (s.abandon c).member = { s.member with
      collection := none, imageGap := none, changes := [], recording := false, latestSeek := false
      segmentSeen := s.member.segmentSeen || s.member.collection.isSome } := by
  simp [State.abandon, State.sendSeek]

theorem State.endSeekWait_without_effect (s : State)
    (h : s.member.participation ≠ .seeking ∨ s.member.segmentSeen = true ∨ s.member.collection.isSome = true) :
    s.endSeekWait = { s with member := { s.member with seekWait := none } } := by
  simp only [State.endSeekWait]; exact if_pos h

theorem Lease.quietDue_iff (l : Lease) (hasAlive : Bool) :
    l.quietDue hasAlive = true ↔
      ∃ n, l.quiet = some n ∧ (n + 1 = l.renewal ∨ (hasAlive = false ∧ l.renewal ≤ n + 1)) := by
  unfold Lease.quietDue
  cases l.quiet <;> cases hasAlive <;> simp

end Sys2Proof.Machine
end

