-- ==== Sys2Proof/Tests/Slice0.lean ====
section
/-! SUPPORT. The model's own tests: ill-formed commands refused, the spec's worked examples as expected values, and for every statement with hypotheses a state and operands that meet them. -/

namespace Sys2Proof.Tests

set_option Elab.async false

open Sys2Proof.Machine

/-! ## Helpers -/

/-- The state that a command answers. -/
def after (c : Instr) (s : State) : State :=
  match exec c s with
  | .next t => t
  | .fault _ | .refused _ => s

/-- A MEMBER entry. -/
def holds (a b c d : Nat) : Entry := { member := true, held := #v[a, b, c, d] }

/-- A table with the entries listed. -/
def tableOf (cap commit : Nat) (es : List (Station × Entry)) : Table :=
  { entries := es.foldl (fun v e => v.set e.1 e.2) (Vector.replicate 32 Entry.absent)
    cap := .ofNat 16 cap, frozen := false, commit := .ofNat 16 commit }

/-- The network of 4.8. -/
def table48 : Table := tableOf 60 730 [(3, holds 5 0 0 0), (8, holds 0 0 10 0), (12, holds 0 20 0 0)]

/-- Station 3 of that network in a participation state, with the line where it is said. -/
def node (p : Participation) (l : Line) : State :=
  { State.reset with
    address := 3
    table := table48
    bus := { Bus.stopped with line := l }
    member := .cleared p
    lease := { Lease.stopped 0x4F with
      silence := ((Vector.replicate 32 none).set 8 (some 0)).set 12 (some 0), quiet := some 0 } }

/-- A state with one load record and its settings replaced. -/
def withLoad (s : State) (x : LoadIx) (c : LoadSettings) (r : LoadRecord) : State :=
  { s with settings := { s.settings with loads := s.settings.loads.set x c } }.setLoad x r

/-- Settings of a SOFT load of class 2, full 12 and keep 4, ramp 64 ms, ready used (load 4 of 5.12). -/
def load4 : LoadSettings :=
  { cls := 2, readyUsed := true, source := .soft, debounce := .short, ramp := 0x23, full := 12, keep := 4 }

/-- A load record in a state, wanted, with a wish. -/
def record (l : LoadState) (w : Level) : LoadRecord := { LoadRecord.reset with state := l, wanted := true, wish := w }

/-- A node whose load 4 is in a state. -/
def loaded (p : Participation) (l : LoadState) (w : Level) : State := withLoad (node p .idle) 4 load4 (record l w)

/-- A node with items on its send list. -/
def sends (s : State) (ks : List FrameKind) : State := ks.foldl State.send s

/-- The base of the network of 4.8. -/
def base48 : Base := table48.base

/-- No slot driven, ACK read, OBJ read. -/
def silent : Slots := { ack := false, obj := false }
/-- ACK alone read. -/
def acked : Slots := { ack := true, obj := false }
/-- OBJ alone read. -/
def objected : Slots := { ack := false, obj := true }

/-- A state in which the time base has queued a row that is not taken yet. -/
def queued (s : State) (i : Instr) : State := { s with due := [i] }

/-- A part held by RSTN. -/
def heldPart : State := { State.reset with power := { phase := .running, rstnLow := true } }

/-! ## Well-formedness: each check refuses an ill-formed command -/

theorem test_assigned_code_is_no_unassigned_command : (Instr.unassignedCommand 0x0D 0).wellFormed = false := by decide
theorem test_code_zero_is_no_unassigned_command : (Instr.unassignedCommand 0x00 0).wellFormed = false := by decide
theorem test_unassigned_commands_are_well_formed :
    (Instr.unassignedCommand 0x0E 0).wellFormed = true ∧ (Instr.unassignedCommand 0xFF 0).wellFormed = true := by decide
theorem test_status_write_is_no_plain_write : (Instr.registerWrite 0x01 0).wellFormed = false := by decide
theorem test_setting_write_is_no_plain_write : (Instr.registerWrite 0x11 0).wellFormed = false := by decide
theorem test_command_is_no_plain_write : (Instr.registerWrite 0x02 0x0100).wellFormed = false := by decide
theorem test_plain_writes_are_well_formed :
    (Instr.registerWrite 0x02 0x00FF).wellFormed = true ∧ (Instr.registerWrite 0x7F 0).wellFormed = true := by decide

/-! ## Worked examples of the spec -/

theorem test_time_codes : durationMs 0x4F = 2048 ∧ durationMs 0x23 = 64 ∧ durationMs 0x7F = 32000 ∧ renewMs 0x4F = 512 := by decide

/-- 8.6: 780 ms remaining is code 46h; where two codes give a duration the smaller unit is taken. -/
theorem test_least_code :
    leastCode 780 = 0x46 ∧ leastCode 512 = 0x3F ∧ leastCode 16 = 0x0F ∧ leastCode 0 = 0x00 ∧ leastCode 32000 = 0x7F := by
  decide +kernel

/-- 1.4: the check value, frozen, with a holding given up, and with a member gone. -/
theorem test_check_value_of_1_4 :
    let t := tableOf 100 0 [(2, holds 10 4 0 6), (5, holds 0 20 3 0), (9, holds 8 0 0 12)]
    t.total = 63 ∧ t.free = 37 ∧ t.overCap = false ∧ t.check = 0x26F7 ∧ { t with frozen := true }.check = 0x26F8
      ∧ (t.apply 5 (.release #v[0, 0, 3, 0])).check = 0x26EE ∧ (t.apply 9 .leave).check = 0x12BF := by decide +kernel

theorem test_check_value_of_32_members :
    ({ Table.empty with entries := .replicate 32 Entry.joined } : Table).check = 0x2000 := by decide +kernel

/-- 1.5: two claims on one margin, granted and denied, and a release. -/
theorem test_sequence_of_1_5 :
    let t := tableOf 30 411 [(3, holds 0 10 0 0), (7, holds 0 0 8 0)]
    let u := t.apply 3 (.claim 2 8 2)
    let v := u.apply 7 (.claim 1 10 5)
    let w := v.apply 3 (.release #v[0, 5, 0, 0])
    t.check = 0x184A ∧ u.check = 0x1862 ∧ u.commit = 412 ∧ v.check = 0x1862 ∧ v.commit = 413 ∧ v.free = 4
      ∧ w.check = 0x1858 ∧ w.commit = 414 ∧ w.free = 9 := by decide +kernel

/-- Table 7.4: the shed plan for an excess of 15, and the plan at step 3 of Table 7.5. -/
theorem test_shed_plan_of_7_7 :
    let t := tableOf 25 501 [(1, holds 8 0 8 0), (6, holds 0 4 0 10), (20, holds 0 0 6 4)]
    let u := tableOf 24 503 [(1, holds 8 0 8 0), (6, holds 0 4 0 0), (20, holds 0 0 6 4)]
    t.check = 0x3C8B ∧ t.obligation 20 3 = 4 ∧ t.obligation 6 3 = 10 ∧ t.obligation 1 3 = 0 ∧ t.obligation 20 2 = 1
      ∧ t.obligation 6 2 = 0 ∧ t.obligation 1 2 = 0 ∧ u.check = 0x3C62 ∧ u.obligation 20 3 = 4 ∧ u.obligation 20 2 = 2 := by
  decide +kernel

/-- Node 6 of 7.7 before its CAP. -/
def node6 : State :=
  let s := { node .active .idle with
    address := 6
    table := tableOf 40 500 [(1, holds 8 0 8 0), (6, holds 0 4 0 10), (20, holds 0 0 6 4)]
    lease := Lease.stopped 0x4F }
  let s := withLoad s 4 { load4 with cls := 1, full := 4, keep := 0, readyUsed := false } (record .on .full)
  let s := withLoad s 1 { load4 with cls := 3, full := 6, keep := 0, readyUsed := false } (record .on .full)
  let s := withLoad s 2 { load4 with cls := 3, full := 4, keep := 2, readyUsed := false } (record .on .full)
  { s with loads := { s.loads with grants := [2, 1, 4] } }

/-- 7.7: the CAP of 25 at node 6: loads 2 and 1 shed, the account 10, the events CAP_SET (1), SHED (2), SHED (10), SHED (9). -/
theorem test_cap_drop_of_7_7 :
    let t := after (.capFrame 1 node6.table.base 25 acked) node6
    (t.load 4).state = .on ∧ (t.load 2).state = .waiting ∧ (t.load 1).state = .waiting ∧ t.demand.queue = [2, 1]
      ∧ t.demand.openUnits = #v[0, 0, 0, 10] ∧ t.table.commit = 501 ∧ t.table.check = 0x3C8B ∧ t.bus.has .release = true
      ∧ t.port.events.drop 1 = [⟨.capSet, 1, 501⟩, ⟨.shed, 2, 501⟩, ⟨.shed, 10, 501⟩, ⟨.shed, 9, 501⟩] := by decide +kernel

/-- Table 9.4: the resolution at node 14. -/
theorem test_resolution_of_9_4 :
    let s := { State.reset with settings := { Settings.default with windows := #v[
      { base := 0x40, mask := 0xF0, loads := 0x04, action := .inhibit, enabled := true },
      { base := 0x41, mask := 0xFF, loads := 0x0F, action := .request, enabled := true },
      { base := 0x01, mask := 0x0F, loads := 0x02, action := .keep, enabled := true },
      { base := 0x80, mask := 0x80, loads := 0x01, action := .withdraw, enabled := true }] } }
    ([0, 1, 2, 3] : List LoadIx).map (s.resolve 0x41) = [some .request, some .keep, some .inhibit, some .request]
      ∧ ([0, 1, 2, 3] : List LoadIx).map (s.resolve 0x42) = [none, none, some .inhibit, none]
      ∧ ([0, 1, 2, 3] : List LoadIx).map (s.resolve 0xC1) = [some .withdraw, some .keep, none, none]
      ∧ ([0, 1, 2, 3] : List LoadIx).map (s.resolve 0x22) = [none, none, none, none] := by decide +kernel

/-- Table 5.8: REQUEST to a claim, SET_LEVEL to KEEP with 8 BU freed, and a dropout that frees all 12. -/
theorem test_load_4_of_5_12 :
    let off := withLoad (node .active .idle) 4 load4 .reset
    let on := loaded .active .on .full
    let ready := { on with loads := { on.loads with rdy := on.loads.rdy.set 4 { level := true, count := 0 } } }
    ((after (.request 4) off).load 4).state = .claiming ∧ (after (.request 4) off).bus.has .claim = true
      ∧ ((after (.setLevel 4) { on with port := { on.port with commandArg := 1 } }).load 4).state = .keep
      ∧ (after (.setLevel 4) { on with port := { on.port with commandArg := 1 } }).demand.openUnits = #v[0, 0, 8, 0]
      ∧ ((after (.rdyDebouncedChange 4 false) ready).load 4).state = .fault
      ∧ (after (.rdyDebouncedChange 4 false) ready).demand.openUnits = #v[0, 0, 12, 0]
      ∧ (after (.rdyDebouncedChange 4 false) ready).port.events.getLast? = some ⟨.faulted, 12, 730⟩ := by decide +kernel

/-- Table 3.9: what a founder's table is. -/
theorem test_founding_of_3_11 :
    let s := { node .seeking .idle with
      address := 2, table := .empty, settings := { Settings.default with normalCap := 60 }
      member := { Membership.cleared .seeking with seekCount := 4, seekWait := some 0, latestSeek := true } }
    let t := after .seekWaitExpiry s
    t.table = tableOf 60 0 [(2, Entry.joined)] ∧ t.table.check = 0x063C ∧ t.member.participation = .active := by decide +kernel

/-- 3.12: a CLAIM that the image holds is skipped, a RELEASE after it is applied. -/
theorem test_replay_of_3_12 :
    let t := tableOf 50 201 [(1, holds 0 12 0 0), (4, holds 0 0 0 18), (6, holds 0 0 6 0)]
    let claim : ChangeRecord := { source := 4, base := { commit := 200, check := 0x1C84 }, change := .claim 3 8 0 }
    let release : ChangeRecord := { source := 4, base := { commit := 201, check := 0x1CA4 }, change := .release #v[0, 0, 0, 4] }
    t.check = 0x1CA4 ∧ (replay [claim, release] t).map (fun p => (p.1.commit, p.1.check)) = some (202, 0x1C94)
      ∧ replay [{ release with base := { commit := 202, check := 0 } }] t = none
      ∧ replay [{ release with base := { commit := 201, check := 0 } }] t = none := by decide +kernel

/-- 4.8.2: the silence timer's end marks station 12 and posts EVICT; the EVICT from station 3 leaves 1A5Fh. -/
theorem test_eviction_of_4_8 :
    (after (.silenceTimerExpiry 12) (node .active .idle)).bus.has .evict = true
      ∧ table48.check = 0x3487 ∧ (table48.apply 3 (.evict 12)).check = 0x1A5F := by decide +kernel

/-- 6.9, steps 10 and 11: a withdrawal in flight orphans the claim; its grant goes to the open account. -/
theorem test_orphaned_grant_of_6_9 :
    let s := { node .active .idle with
      address := 11
      table := tableOf 40 1004 [(4, holds 10 0 3 0), (11, holds 0 0 0 12)]
      lease := Lease.stopped 0x4F }
    let s := withLoad s 6 { load4 with full := 6, keep := 0 } (record .claiming .full)
    let s := sends { s with demand := { s.demand with queue := [6], slot := some ⟨6, 2, 6, false, false⟩ } } [.claim]
    let u := after (.withdraw 6) (after .itemLatch (s.setLine (.contending .claim)))
    let v := after (.claimFrame 11 s.table.base 2 6 6 acked) u
    s.table.check = 0x226B ∧ (u.load 6).state = .off ∧ u.demand.slot = some ⟨6, 2, 6, true, true⟩
      ∧ v.demand.slot = none ∧ v.demand.openUnits = #v[0, 0, 6, 0] ∧ v.table.check = 0x227D ∧ v.bus.has .release = true := by
  decide +kernel

/-- 10.7: steps 2 and 3, an append and an overflow; steps 5 and 8, a read and the clearing of the flag. -/
theorem test_overflow_of_10_7 :
    let p := { Port.reset (BitVec.allOnes 18) .por with events := List.replicate 15 ⟨.phase, 3, 0x0731⟩ }
    let q := (p.offer ⟨.capSet, 8, 0x0744⟩).offer ⟨.shed, 11, 0x0744⟩
    let s := { node .active .idle with port := q }
    q.events.length = 16 ∧ q.overflow = true ∧ s.irqnHigh = false
      ∧ (after (.eventARead false) s).port.events.length = 15 ∧ (after (.eventARead false) s).port.eventB = 0x0731
      ∧ (after (.statusWrite 0x0020) s).port.overflow = false := by decide +kernel

/-- What STATUS and RESET_CAUSE read right after a power-on reset. -/
theorem test_registers_after_reset : State.reset.readRegister 0x01 = 0x0040 ∧ State.reset.readRegister 0x12 = 1 := by decide +kernel

/-- START with the default settings, and with the longest lease below 200 ms. -/
theorem test_start :
    (after (.start 0) State.reset).member.participation = .seeking ∧ (after (.start 0) State.reset).port.result = .done
      ∧ (after (.start 0) { State.reset with settings := { Settings.default with lease := 0x2B } }).port.badIndex = 2
      ∧ (after (.start 0) { State.reset with settings := { Settings.default with lease := 0x2C } }).port.result = .done := by
  decide +kernel

/-- One SPI write is the row it stands for. -/
theorem test_spi_write :
    spiInstr State.reset (natBits 8 0x82 ++ natBits 16 0x0905) = some (.setCap 5)
      ∧ spiInstr State.reset (natBits 8 0x05 ++ natBits 16 0) = some (.eventARead false)
      ∧ spiInstr State.reset (natBits 8 0x82) = none := by decide +kernel

/-- Rows that a millisecond has queued, and whose timers an event taken first has restarted, find nothing to do (R59, R74, R76, R140); with
the timer at its end each takes effect. -/
theorem test_queued_rows :
    let s := node .active .idle
    let frozen (n : Nat) := queued { s with freeze := { s.freeze with timer := some n } } .freezeTimerExpiry
    let quiet (n : Nat) := queued { s with lease := { s.lease with quiet := some n } } .quietTimerExpiry
    let silent (n : Nat) := queued { s with lease := { s.lease with silence := s.lease.silence.set 8 (some n) } } (.silenceTimerExpiry 8)
    (after .freezeTimerExpiry (frozen 64)).freeze.thawMark = false ∧ (after .freezeTimerExpiry (frozen 0)).freeze.thawMark = true
      ∧ (after .quietTimerExpiry (quiet 0)).bus.has .alive = false ∧ (after .quietTimerExpiry (quiet 512)).bus.has .alive = true
      ∧ (after (.silenceTimerExpiry 8) (silent 0)).bus.has .evict = false
      ∧ (after (.silenceTimerExpiry 8) (silent 2048)).bus.has .evict = true
      ∧ (after .freezeTimerExpiry (frozen 64)).due = [] := by decide +kernel

/-- SDO of a read of IDENT: 4320h after the eighth clock, clocks 9 to 24, high impedance with CSN high; a read cut after 12 clocks. -/
theorem test_spi_read :
    State.reset.fixedValue (natBits 8 0x00) = some 0x4320 ∧ heldPart.fixedValue (natBits 8 0x00) = none
      ∧ State.reset.fixedValue (natBits 7 0x00) = none ∧ State.reset.sdo false (some 0x4320) 10 = .driven true
      ∧ State.reset.sdo false (some 0x4320) 24 = .driven false ∧ State.reset.sdo true none 0 = .highImpedance
      ∧ shiftedOut 0x4320 12 = [false, true, false, false] ∧ (shiftedOut 0x4320 30).length = 16
      ∧ spiInstr heldPart (natBits 8 0x82 ++ natBits 16 0x0905) = none := by decide +kernel

/-! ## The wire -/

/-- Table 2.3: node 1 loses at kind bit 3, node 4 at kind bit 0, node 6 wins. -/
theorem test_arbitration_of_2_3 :
    let line := arbitrationBits .release 6
    arbitrate 0 (arbitrationBits .claim 1) line = .lost 0 ∧ arbitrate 0 (arbitrationBits .alive 4) line = .lost 3
      ∧ arbitrate 0 line line = .won ∧ arbitrationValue .alive 4 < arbitrationValue .claim 1 := by decide +kernel

/-- The note of 2.3.1: start bit and arbitration field of a JOIN from station 31 take 12 bit times. -/
theorem test_join_from_31_is_stuffed :
    (stuff 0 (false :: arbitrationBits .join 31 ++ [false])).take 12
      = [false, false, true, true, true, true, false, true, true, true, true, false] := by decide +kernel

/-- A CAP frame and a SEEK are read back as they were sent; the body lengths of Table 2.2. -/
theorem test_frames_are_read_back :
    receive (lineBits 9 (.change { commit := 500, check := 0x3C9A } (.cap 25)) acked)
        = .intact 9 (.change { commit := 500, check := 0x3C9A } (.cap 25)) acked
      ∧ receive (lineBits 31 .seek silent) = .intact 31 .seek silent
      ∧ (bodyBits (.change base48 (.release #v[1, 2, 3, 4]))).length = 76
      ∧ (bodyBits (.image (.header ⟨0, 0, 0, false, 0, 0⟩))).length = 68
      ∧ (bodyBits (.image (.entries 7 (.replicate 4 ⟨false, .replicate 4 0⟩)))).length = 184 := by decide +kernel

/-- A dominant bit in place of one recessive body bit, and one in the end bits, are discarded. -/
theorem test_damaged_frames_are_discarded :
    receive ((lineBits 5 (.group 0xFF) silent).set 11 false) = .discarded .badCheck
      ∧ receive ((lineBits 5 .alive silent).dropLast ++ [false]) = .discarded .dominantEnd := by decide +kernel

/-! ## Witnesses: for every statement with hypotheses, each of its clauses has a state and operands that meet them -/

/-- A node whose load 4 is a PIN load with its request level given. -/
def pinned (p : Participation) (level : Bool) : State :=
  let s := withLoad (node p .idle) 4 { load4 with source := .pin } .reset
  { s with loads := { s.loads with req := s.loads.req.set 4 { level := level, count := 0 } } }

/-- A node whose load 4 has its debounced RDYx asserted. -/
def readied (l : LoadState) : State :=
  let s := loaded .active l .full
  { s with loads := { s.loads with rdy := s.loads.rdy.set 4 { level := true, count := 0 } } }

/-- A node in SETUP whose settings store selects an index. -/
def selecting (index : Word16) : State :=
  { node .setup .off with port := { (node .setup .off).port with settingIndex := index } }

/-- A node that sends a change of its own. -/
def sending (p : Participation) (c : Change) : State := sends (node p (.sending (.change base48 c))) [c.kind]

/-- A node that sends a change whose item has three attempts behind it. -/
def lastTry (p : Participation) (c : Change) : State := (sending p c).keepItem c.kind 3

/-- A node whose own CLAIM for load 4 is in flight. -/
def claiming (l : LoadState) (w : Level) (units : Nat) : State :=
  let s := withLoad (sending .active (.claim 2 (.ofNat 8 units) 4)) 4 load4 (record l w)
  { s with demand := { s.demand with queue := [4], slot := some ⟨4, 2, units, true, false⟩ } }

/-- A collection from station 8 with seven segments stored: the table of 4.8 but for its last segment. -/
def collected : Collection :=
  { source := 8, next := 8
    header := { commit := 730, check := table48.check, cap := 60, frozen := false, remaining := 0, lease := 0x4F }
    entries := table48.entries }

/-- A node of the address given that collects. -/
def collecting (own : Station) (c : Collection) (rs : List ChangeRecord) : State :=
  let s := node .seeking .idle
  { s with
    address := own
    member := { s.member with
      seekWait := some 40, latestSeek := true, segmentSeen := true, recording := true, changes := rs, collection := some c
      imageGap := some 20 } }

/-- Sixteen records with bases of their own. -/
def sixteen : List ChangeRecord :=
  (List.range 16).map fun i => { source := 8, base := { commit := .ofNat 16 i, check := 0 }, change := .thaw }

/-- A node in SEEKING that records, with a pending list. -/
def recording (rs : List ChangeRecord) : State :=
  let s := node .seeking (.following .nothing)
  { s with member := { s.member with recording := true, changes := rs } }

/-- A node with four codes on its list, and a trigger 1 enabled as said. -/
def coded (p : Participation) (n : Nat) (enabled : Bool) : State :=
  let s := node p .idle
  { s with
    bus := { s.bus with codes := List.replicate n 0x41 }
    settings := { s.settings with triggers := s.settings.triggers.set 1 { code := 0x42, enabled := enabled } } }

/-- R59: the expected segment, taken ahead of the gap's expiry that came with it, keeps its collection. -/
theorem test_segment_taken_before_its_gap_expiry :
    let s := collecting 3 { collected with next := 1 } []
    let s := queued { s with member := { s.member with imageGap := some 0 } } .imageGapExpiry
    let t := after (.imageFrame 8 (.entries 0 (.replicate 4 ⟨false, .replicate 4 0⟩))) s
    t.member.imageGap = some 20 ∧ (after .imageGapExpiry t).member.collection.isSome = true
      ∧ (after .imageGapExpiry s).member.collection = none := by decide +kernel

/-- R49: a SEEK that completes within a collection restarts the seek wait, and the wait's end has no effect, neither while the collection is
in progress nor after its abandonment, whose SEEK is then in flight. -/
theorem test_seek_wait_ends_within_a_collection :
    let s := sends ((collecting 3 { collected with next := 2 } []).setLine (.sending .seek)) [.seek]
    let t := after (.seekFrame 3) s
    let waitOver (u : State) : State := after .seekWaitExpiry { u with member := { u.member with seekWait := some 0 } }
    let u := (after .imageGapExpiry t).setLine (.sending .seek)
    t.member.seekWait = some 100 ∧ t.member.segmentSeen = false ∧ (waitOver t).bus.has .seek = false ∧ (waitOver t).member.seekWait = none
      ∧ (waitOver t).member.collection = t.member.collection
      ∧ (waitOver u).bus.item? .seek = some { kind := .seek, attempts := 0, postedAgain := false } := by decide +kernel

/-- R76, R40: the quiet timer's arrival at the renew interval of 512 ms brings its row while an ALIVE is in flight, which is then posted again;
beyond the interval the row comes only where no ALIVE item stands. -/
theorem test_quiet_timer_arrives_with_alive_in_flight :
    let quiet (n : Nat) (s : State) : State := { s with lease := { s.lease with quiet := some n } }
    let flying := sends (node .active (.sending .alive)) [.alive]
    let late := after .quietTimerExpiry (quiet 511 flying).tick
    (quiet 511 flying).tick.due = [.quietTimerExpiry]
      ∧ late.bus.item? .alive = some { kind := .alive, attempts := 0, postedAgain := true }
      ∧ (after (.aliveFrame 3) late).bus.item? .alive = some { kind := .alive, attempts := 0, postedAgain := false }
      ∧ (quiet 512 flying).tick.due = [] ∧ (quiet 600 (node .active .idle)).tick.due = [.quietTimerExpiry]
      ∧ (quiet 510 (node .active .idle)).tick.due = [] := by decide +kernel

theorem test_witness_EmptyQueueIsOneMillisecond :
    State.reset.pending = [] ∧ State.reset.power.running = true ∧ heldPart.pending = [] ∧ heldPart.power.running = false := by
  decide +kernel

theorem test_witness_EveryCommandAnswersNext :
    heldPart.power.running = false ∧ Instr.contention ≠ .powerOnResetBegin ∧ (∀ q, Instr.contention ≠ .powerOnReset q)
      ∧ Instr.contention ≠ .rstnAsserted ∧ Instr.contention ≠ .rstnReleased := by decide +kernel

/-- For ResetsBeginWithOutputsOff, PowerOnResetLeavesDefaults, StationResetKeepsSettings and the resets of EventEnablesGatePosting. -/
theorem test_witness_Resets :
    { heldPart.power with phase := .stable } = { phase := .stable, rstnLow := true } ∧ State.reset.power.rstnLow = false ∧ heldPart.power.rstnLow = true
      ∧ heldPart.power = { phase := .running, rstnLow := true } ∧ State.reset.power.running = true := by decide +kernel

theorem test_witness_StartChecksInOrder :
    let full : Settings := Settings.default
    let at7 : Settings := { full with loads := full.loads.set 7 { load4 with full := 4 } }
    let at0 : Settings := { full with loads := full.loads.set 0 { load4 with full := 0, keep := 0 } }
    { full with bitRate := 3 }.bitRate = 3
      ∧ full.bitRate ≠ 3 ∧ durationMs { full with lease := 0x2B }.lease = 192 ∧ 200 ≤ durationMs { full with lease := 0x2C }.lease
      ∧ (∀ y : LoadIx, y < 7 → 1 ≤ at7.loads[y].full.toNat ∧ at7.loads[y].keep.toNat < at7.loads[y].full.toNat)
      ∧ at7.loads[(7 : LoadIx)].full.toNat ≤ at7.loads[(7 : LoadIx)].keep.toNat
      ∧ at0.loads[(0 : LoadIx)].full.toNat = 0 := by decide +kernel

theorem test_witness_StartSeeks :
    (pinned .setup true).power.running = true ∧ (pinned .setup true).member.participation = .setup
      ∧ (pinned .setup true).settings.firstBad = none ∧ ((pinned .setup true).cfg 4).source = .pin
      ∧ (pinned .setup true).loads.req[(4 : LoadIx)].level = true ∧ ((pinned .setup true).cfg 0).source = .soft
      ∧ { Settings.default with bitRate := 3 }.firstBad = some 0 ∧ (node .active .idle).member.participation ≠ .setup := by
  decide +kernel

theorem test_witness_DetachAndRejoin :
    (∀ p ∈ [Participation.setup, .seeking, .joining, .active, .leaving, .detached],
      (node p .idle).power.running = true ∧ (node p .idle).member.participation = p) := by decide +kernel

theorem test_witness_LoadCommandRefusals :
    (node .active .idle).power.running = true ∧ (node .active .idle).member.participation ≠ .setup
      ∧ (node .setup .off).member.participation = .setup ∧ loadNumber 8 = none ∧ loadNumber 255 = none ∧ loadNumber 7 = some 7
      ∧ loadNumber 4 = some 4 ∧ ((pinned .active false).cfg 4).source = .pin ∧ (2 : Word16) ≠ 0 ∧ (2 : Word16) ≠ 1
      ∧ ((loaded .active .on .full).load 4).state ≠ .fault := by decide +kernel

theorem test_witness_RequestQueuesLoad :
    let fresh := withLoad (node .active .idle) 4 load4 .reset
    fresh.power.running = true ∧ fresh.member.participation ≠ .setup ∧ loadNumber 4 = some 4 ∧ (fresh.cfg 4).source = .soft
      ∧ (fresh.load 4).state = .off ∧ (fresh.load 4).inhibited = false ∧ (fresh.load 4).wanted = false
      ∧ ((loaded .active .keep .keep).load 4).state = .keep ∧ ((loaded .active .keep .keep).load 4).wish = .keep
      ∧ ((loaded .active .keep .keep).load 4).wanted = true ∧ ((loaded .active .keep .keep).cfg 4).source = .soft := by
  decide +kernel

theorem test_witness_WithdrawAndInhibitTurnOff :
    ((loaded .active .on .full).cfg 4).source = .soft ∧ ((loaded .active .on .full).load 4).wanted = true
      ∧ ((loaded .active .on .full).load 4).inhibited = false ∧ (loaded .active .on .full).member.participation ≠ .setup
      ∧ ((node .active .idle).load 7).wanted = false ∧ ((node .active .idle).cfg 7).source = .soft
      ∧ (node .active .idle).settle = node .active .idle
      ∧ ((withLoad (node .active .idle) 4 load4 { record .off .full with inhibited := true }).load 4).inhibited = true := by
  decide +kernel

theorem test_witness_PermitAndClearFaultRequeue :
    let barred := withLoad (node .active .idle) 4 load4 { record .off .full with inhibited := true }
    let faulted := withLoad (node .active .idle) 4 load4 { record .fault .full with cause := .ramp }
    barred.power.running = true ∧ barred.member.participation ≠ .setup ∧ loadNumber 4 = some 4
      ∧ (barred.load 4).inhibited = true ∧ (barred.load 4).state = .off ∧ (barred.load 4).wanted = true
      ∧ (faulted.load 4).state = .fault ∧ (faulted.load 4).inhibited = false ∧ faulted.settle = faulted := by decide +kernel

theorem test_witness_SetLevelMovesLoad :
    { (node .active .idle).port with commandArg := 1 }.commandArg = 1 ∧ (node .active .idle).port.commandArg = 0
      ∧ ((loaded .active .on .full).load 4).wish = .full ∧ ((loaded .active .on .full).load 4).state = .on
      ∧ ((loaded .active .ramping .full).load 4).state = .ramping ∧ 0 < ((loaded .active .on .full).cfg 4).keep.toNat
      ∧ ((loaded .active .keep .keep).load 4).wish = .keep ∧ ((loaded .active .keep .keep).load 4).state = .keep
      ∧ ((loaded .active .raiseWait .full).load 4).state = .raiseWait := by
  decide +kernel

/-- For SetLevelMovesLoad: a raising claim latched, contended with, and neither. -/
theorem test_witness_raising_claims :
    let flying := claiming .raiseClaim .full 8
    let idle := { flying with
      bus := { flying.bus with line := .idle }
      demand := { flying.demand with slot := some ⟨4, 2, 8, false, false⟩ } }
    let contends := idle.setLine (.contending .claim)
    (flying.load 4).state = .raiseClaim ∧ (flying.load 4).wish = .full ∧ flying.demand.slot = some ⟨4, 2, 8, true, false⟩
      ∧ contends.demand.slot = some ⟨4, 2, 8, false, false⟩ ∧ contends.bus.contends .claim = true ∧ contends.bus.has .claim = true
      ∧ idle.bus.contends .claim = false ∧ idle.bus.latched .claim = false ∧ idle.demand.queue.Nodup := by decide +kernel

theorem test_witness_SendGroupPlacesCode :
    (coded .active 3 false).bus.codes.length < 4 ∧ 4 ≤ (coded .active 4 false).bus.codes.length
      ∧ (coded .active 4 false).member.participation ≠ .setup ∧ (coded .active 4 false).member.participation ≠ .detached
      ∧ (coded .active 3 true).bus.codes.length = 3 ∧ ((coded .active 3 true).settings.triggers[(1 : Fin 2)]).enabled = true
      ∧ (coded .active 4 false).power.running = true ∧ (coded .active 3 true).due = [] := by decide +kernel

theorem test_witness_SetCapAndFreezeSetRequests :
    (node .joining .idle).member.participation ≠ .active ∧ (node .active .idle).member.participation = .active
      ∧ (sending .active (.cap 5)).bus.capBusy = true ∧ (node .active (.contending .cap)).bus.capBusy = true
      ∧ (node .active .idle).bus.capBusy = false ∧ (node .active .idle).port.commandArg ≠ (node .active .idle).table.cap
      ∧ { (node .active .idle).port with commandArg := 60 }.commandArg = (node .active .idle).table.cap
      ∧ 128 ≤ (0x80 : Byte).toNat ∧ (0x7F : Byte).toNat < 128 := by decide +kernel

theorem test_witness_EventQueueIsBoundedFifo :
    let p := { Port.reset 0 .por with events := List.replicate 15 ⟨.phase, 0, 0⟩ }
    p.events.length < 16 ∧ 16 ≤ (p.offer ⟨.phase, 0, 0⟩).events.length
      ∧ State.reset.port.events = ⟨.phase, 0, 0⟩ :: [] ∧ (Port.reset 0 .por).events = [] := by decide +kernel

theorem test_witness_EventEnablesGatePosting :
    (Port.reset 0 .por).enables.getLsbD (EventCode.founded.number - 1) = false
      ∧ State.reset.port.enables.getLsbD (EventCode.founded.number - 1) = true ∧ State.reset.power.running = true
      ∧ State.reset.power.rstnLow = false := by decide +kernel

theorem test_witness_PortReadsAndWrites :
    (0x0020 : Word16).getLsbD 5 = true ∧ (0xFFDF : Word16).getLsbD 5 = false ∧ (0x00FF : Word16).extractLsb' 8 8 = 0
      ∧ (0x12 : BitVec 7) ∉ [0x01#7, 0x02, 0x03, 0x07, 0x08, 0x09, 0x0E, 0x10, 0x11]
      ∧ unassignedCode 0x0E = true ∧ unassignedCode 0xFF = true
      ∧ (0x071F : Word16) = BitVec.ofNat 16 ((31 : Station).val + 256 * 7) ∧ (0x0107 : Word16) = BitVec.ofNat 16 ((7 : LoadIx).val + 256)
      ∧ settingKey 0x29 = some (.trigger 1) ∧ settingKey 0x2A = none ∧ (0x12 : Nat) < (0x7F : BitVec 7).toNat
      ∧ (natBits 8 0x7F).length = 8 ∧ (natBits 8 0x7F).head? = some false ∧ heldPart.power.running = false := by decide +kernel

theorem test_witness_SettingsWrittenInSetupReadBack :
    (selecting 0x29).member.participation = .setup ∧ settingKey (selecting 0x29).port.settingIndex = some (.trigger 1)
      ∧ settingKey (selecting 0x00).port.settingIndex = some .bitRate ∧ settingKey (selecting 0x1F).port.settingIndex = some (.loadUnits 7)
      ∧ settingKey (selecting 0x2A).port.settingIndex = none ∧ settingKey (selecting 0x05).port.settingIndex = none
      ∧ (node .active .idle).member.participation ≠ .setup ∧ SettingKey.lease ≠ .bitRate := by decide +kernel

theorem test_witness_ContentionAndLostArbitration :
    (sends (node .active .idle) [.claim, .alive]).eligible .alive = true
      ∧ (∀ j ∈ FrameKind.all, (sends (node .active .idle) [.claim, .alive]).eligible j = true → FrameKind.alive.code ≤ j.code)
      ∧ (∀ j ∈ FrameKind.all, (node .active .idle).eligible j = false)
      ∧ (sends (node .active (.contending .alive)) [.alive]).bus.line = .contending .alive
      ∧ (sends (node .active (.contending .alive)) [.alive]).bus.withdrawHeld = false
      ∧ (sends (node .active (.contending .alive)) [.alive]).cap.held = none
      ∧ (sends (node .active (.contending .alive)) [.alive]).bus.has .alive = true := by decide +kernel

/-- Every kind stands in the list of kinds, so what holds of that list holds of every kind. -/
theorem test_every_kind_is_listed : ∀ k : FrameKind, k ∈ FrameKind.all := by intro k; cases k <;> decide

theorem test_witness_LatchFixesBody :
    let s := node .active (.contending .cap)
    let m := { node .active (.contending .evict) with lease := { s.lease with marks := s.lease.marks.set 12 true } }
    let c := { node .active (.contending .claim) with demand := { s.demand with slot := some ⟨4, 2, 255, false, false⟩ } }
    { s with cap := { s.cap with request := some 25 } }.latchBody .cap = some (.change base48 (.cap 25))
      ∧ m.lease.marks[(12 : Station)] = true ∧ (∀ p : Station, p < 12 → m.lease.marks[p] = false)
      ∧ (∀ k : ClassIx, s.demand.openUnits[k] ≤ 2047) ∧ c.demand.slot = some ⟨4, 2, 255, false, false⟩
      ∧ { s.freeze with request := some 0x4B }.request = some 0x4B ∧ (coded .active 1 false).bus.codes = [0x41] := by
  decide +kernel

theorem test_witness_TransmitFailureCounts :
    (sending .active (.release #v[0, 0, 5, 0])).member.participation.onLine = true
      ∧ (sending .active (.release #v[0, 0, 5, 0])).bus.line = .sending (.change base48 (.release #v[0, 0, 5, 0]))
      ∧ (sending .active (.release #v[0, 0, 5, 0])).bus.failures + 1 < 16
      ∧ (sending .active .thaw).demand.slot = none ∧ (sending .active .thaw).cap.held = none
      ∧ { (sending .active .thaw).bus with failures := 15 }.failures + 1 = 16
      ∧ (sends (node .active (.contending .alive)) [.alive]).bus.line = .contending .alive
      ∧ { (sends (node .active (.contending .alive)) [.alive]).bus with withdrawHeld := true }.withdrawHeld = true
      ∧ (node .active .gap).bus.line = .gap ∧ (node .active (.following .nothing)).bus.line = .following .nothing
      ∧ changeFrame (node .active .idle).address base48 .leave silent = .leaveFrame 3 base48 silent := by decide +kernel

/-- A node whose own CAP of 5 is in flight, with a held setting. -/
def holdingCap (held : Option Word16) : State :=
  let s := sending .active (.cap 5)
  { s with cap := { s.cap with held := held } }

/-- For TransmitFailureCounts: the claim latched, orphaned or not, and a held setting that asks for the cap in force or another. -/
theorem test_witness_latches_undone :
    (claiming .claiming .full 12).bus.line = .sending (.change base48 (.claim 2 12 4))
      ∧ (claiming .claiming .full 12).demand.slot = some ⟨4, 2, 12, true, false⟩
      ∧ ((claiming .off .full 12).setSlot (some ⟨4, 2, 12, true, true⟩)).demand.slot = some ⟨4, 2, 12, true, true⟩
      ∧ (holdingCap (some 60)).cap.held = some 60 ∧ (holdingCap (some 61)).cap.held = some 61 ∧ (holdingCap (some 60)).table.cap = 60
      ∧ (holdingCap (some 60)).bus.has .cap = true ∧ (holdingCap (some 60)).member.participation.inStep = true
      ∧ (holdingCap (some 60)).bus.line = .sending (.change base48 (.cap 5)) := by decide +kernel

theorem test_witness_SlotsDiscardsAndLineErrors :
    (node .active .gap).bus.line = .gap ∧ (node .active .integrating).bus.line = .integrating
      ∧ (node .active (.following .ack)).bus.line = .following .ack ∧ (node .active .idle).member.collection = none
      ∧ ((collecting 3 collected []).setLine (.following .nothing)).member.collection.isSome = true
      ∧ ((collecting 3 collected []).setLine (.following .nothing)).member.participation = .seeking
      ∧ (8 : Station) ≠ (node .active .idle).address ∧ (node .active .idle).member.participation.inStep = true
      ∧ base48.commit = (node .active .idle).table.commit ∧ base48.check = (node .active .idle).table.check
      ∧ { base48 with check := 0 }.check ≠ (node .active .idle).table.check
      ∧ { base48 with commit := 0 }.commit ≠ (node .active .idle).table.commit
      ∧ (node .seeking .idle).member.participation.inStep = false ∧ (node .active (.following .undecided)).bus.line ≠ .idle := by
  decide +kernel

/-- For ClaimGrantedOrDenied (25 BU fit below the cap of 60, 26 do not) and ShedPlanSharesExcess. -/
theorem test_witness_tables :
    table48.grants 8 2 25 = true ∧ table48.grants 8 2 26 = false ∧ table48.grants 8 2 0 = false ∧ table48.grants 5 2 1 = false
      ∧ table48.total < (table48.apply 8 (.claim 2 25 0)).total ∧ table48.entries[(8 : Station)].member = true
      ∧ (tableOf 24 503 [(6, holds 0 4 0 0), (20, holds 0 0 16 10)]).overCap = true
      ∧ 0 < (tableOf 24 503 [(6, holds 0 4 0 0), (20, holds 0 0 16 10)]).obligation 20 3 := by decide +kernel

theorem test_witness_ReceiverAppliesAcknowledgedFrame :
    (∀ p ∈ [Participation.joining, .active, .leaving],
      (node p (.following .ack)).member.participation.inStep = true ∧ (node p (.following .ack)).bus.line = .following .ack
        ∧ (node p (.following .undecided)).bus.line = .following .undecided ∧ base48 = (node p .idle).table.base)
      ∧ (8 : Station) ≠ (node .active .idle).address ∧ Change.thaw ≠ .cap 0
      ∧ (∀ c ∈ [Change.leave, .join, .thaw, .evict 12], c ≠ .evict (node .leaving .idle).address)
      ∧ { table48 with frozen := true }.frozen = true ∧ table48.frozen = false ∧ table48.total ≤ (0x0023 : Word16).toNat
      ∧ ¬table48.total ≤ (0x0022 : Word16).toNat ∧ (node .leaving .idle).member.participation = .leaving
      ∧ { table48 with entries := table48.entries.set 3 .absent }.entries[(3 : Station)].member = false
      ∧ Change.evict 3 = .evict (node .active .idle).address ∧ (node .active .idle).table.entries[(3 : Station)].member = true := by
  decide +kernel

/-- For ReceiverAppliesAcknowledgedFrame: timers and marks, the slot that a FREEZE empties, and the blocked flag. -/
theorem test_witness_receiver_hand_offs :
    let slotted := (claiming .claiming .full 12).setSlot (some ⟨4, 2, 12, false, false⟩)
    let blocked := slotted.setBlocked (some 4)
    table48.removes 8 .leave = some 8 ∧ table48.removes 8 (.evict 12) = some 12 ∧ table48.removes 8 (.evict 8) = none
      ∧ table48.entries[(5 : Station)].member = false ∧ ((node .active .idle).lease.silence[(8 : Station)]).isSome = true
      ∧ ((node .active .idle).lease.silence[(5 : Station)]).isSome = false ∧ slotted.table.frozen = false
      ∧ slotted.demand.slot = some ⟨4, 2, 12, false, false⟩ ∧ (slotted.load 4).state = .claiming
      ∧ table48.free < (table48.apply 8 .leave).free ∧ (table48.apply 8 .join).free ≤ table48.free
      ∧ blocked.demand.blocked = some 4 ∧ blocked.demand.queue.head? = some 4 := by decide +kernel

theorem test_witness_ObjectionOverruledLeavesStep :
    (node .active (.following .obj)).bus.line = .following .obj ∧ (node .active (.following .obj)).member.participation.inStep = true
      ∧ (node .active (.following .obj)).member.participation ≠ .leaving ∧ acked.ack = true ∧ silent.ack = false
      ∧ (node .leaving (.following .obj)).member.participation = .leaving
      ∧ (node .leaving (.following .obj)).member.participation.inStep = true
      ∧ (node .active (.following .obj)).settle = node .active (.following .obj) := by decide +kernel

theorem test_witness_SeekerRecordsFrame :
    (recording []).member.participation = .seeking ∧ (recording []).bus.line = .following .nothing
      ∧ (recording []).member.recording = true ∧ objected.obj = true ∧ objected.ack = false ∧ silent.obj = false
      ∧ (∀ r ∈ (recording (sixteen.take 15)).member.changes, r.base ≠ base48)
      ∧ (recording (sixteen.take 15)).member.changes.length < 16
      ∧ (∃ r ∈ (recording sixteen).member.changes, r.base = { commit := 15, check := 0 })
      ∧ (∀ r ∈ (recording sixteen).member.changes, r.base ≠ base48) ∧ 16 ≤ (recording sixteen).member.changes.length := by
  decide +kernel

theorem test_witness_SenderAppliesAcceptedFrame :
    (sending .active .thaw).bus.line = .sending (.change base48 .thaw) ∧ acked.ack = true
      ∧ (sending .leaving .leave).bus.line = .sending (.change base48 .leave)
      ∧ (sending .leaving .leave).member.participation = .leaving ∧ silent.obj = false
      ∧ { table48 with entries := .replicate 32 .absent }.hasOther 3 = false := by decide +kernel

/-- For SenderAppliesAcceptedFrame: an accepted item posted again or not, and what each kind's clause asks. -/
theorem test_witness_accepted_items :
    let freeze := sending .active (.freeze 5)
    let again := { freeze with bus := freeze.bus.modify .freeze fun i => { i with postedAgain := true } }
    again.bus.item? .freeze = some { kind := .freeze, attempts := 0, postedAgain := true }
      ∧ freeze.bus.item? .freeze = some { kind := .freeze, attempts := 0, postedAgain := false }
      ∧ freeze.bus.line = .sending (.change base48 (.freeze 5)) ∧ freeze.member.participation.allows .freeze = true
      ∧ (sending .active (.evict 12)).bus.item? .evict = some { kind := .evict, attempts := 0, postedAgain := false }
      ∧ (claiming .claiming .full 12).bus.item? .claim = some { kind := .claim, attempts := 0, postedAgain := false }
      ∧ { (sending .active .thaw).table with frozen := true }.frozen = true ∧ (sending .active .thaw).table.frozen = false
      ∧ (holdingCap none).cap.held = none ∧ (holdingCap (some 5)).cap.held = some 5 ∧ (holdingCap (some 6)).cap.held = some 6
      ∧ (holdingCap none).member.participation.inStep = true
      ∧ (sending .joining .join).bus.line = .sending (.change base48 .join)
      ∧ (sending .joining .join).member.participation = .joining := by decide +kernel

theorem test_witness_SenderRefusedOrDroppedSeeks :
    (sending .joining .join).bus.line = .sending (.change base48 .join)
      ∧ (sending .joining .join).member.participation = .joining ∧ objected.ack = false ∧ objected.obj = true
      ∧ (sending .active .thaw).member.participation = .active
      ∧ (lastTry .active .thaw).table.hasOther (lastTry .active .thaw).address = true
      ∧ (lastTry .leaving .leave).member.participation = .leaving ∧ (lastTry .leaving .leave).bus.attempts .leave = 3
      ∧ (lastTry .leaving .leave).table.hasOther (lastTry .leaving .leave).address = true
      ∧ (lastTry .leaving .leave).bus.line = .sending (.change base48 .leave)
      ∧ (lastTry .active .thaw).bus.attempts .thaw = 3 ∧ silent.obj = false ∧ silent.ack = false := by decide +kernel

theorem test_witness_SenderUnheardRetries :
    let s := (sending .active .thaw).keepItem .thaw 2
    let claim := claiming .claiming .full 12
    let raise := claiming .raiseClaim .full 8
    let release := sending .leaving (.release #v[0, 0, 5, 0])
    let cap := { sending .active (.cap 5) with cap := { CapUnit.reset with request := some 5 } }
    s.bus.line = .sending (.change base48 .thaw) ∧ Change.thaw.kind ∈ [FrameKind.evict, .leave, .freeze, .thaw, .join]
      ∧ s.table.hasOther s.address = true ∧ s.bus.has .thaw = true ∧ s.bus.attempts .thaw < 3
      ∧ claim.bus.line = .sending (.change base48 (.claim 2 12 4)) ∧ claim.bus.has .claim = true ∧ claim.bus.attempts .claim < 3
      ∧ claim.demand.slot = some ⟨4, 2, 12, true, false⟩ ∧ (claim.load 4).state = .claiming ∧ (raise.load 4).state = .raiseClaim
      ∧ (sending .active (.release #v[0, 0, 5, 0])).bus.has .release = true ∧ release.member.participation ≠ .active
      ∧ release.bus.line = .sending (.change base48 (.release #v[0, 0, 5, 0]))
      ∧ cap.bus.has .cap = true ∧ cap.bus.attempts .cap < 3 ∧ cap.cap.held = none ∧ (60 : Word16) = cap.table.cap := by decide +kernel

theorem test_witness_OwnClaimGrantedRamps :
    (claiming .claiming .full 12).member.participation = .active
      ∧ (claiming .claiming .full 12).bus.line = .sending (.change base48 (.claim 2 12 4))
      ∧ (claiming .claiming .full 12).demand.slot = some ⟨4, 2, 12, true, false⟩
      ∧ ((claiming .claiming .full 12).load 4).state = .claiming ∧ ((claiming .claiming .full 12).load 4).wish = .full
      ∧ (claiming .claiming .full 12).table.grants 3 2 12 = true
      ∧ ((claiming .claiming .keep 12).load 4).wish = .keep ∧ 0 < ((claiming .claiming .keep 12).cfg 4).keep.toNat
      ∧ ((claiming .raiseClaim .full 26).load 4).state = .raiseClaim ∧ (claiming .raiseClaim .full 26).table.grants 3 2 26 = false
      ∧ (claiming .raiseClaim .full 26).demand.queue.head? = some 4
      ∧ (∀ p ∈ [Participation.active, .leaving],
          let s := { (claiming .off .full 12).setSlot (some ⟨4, 2, 12, true, true⟩) with member := .cleared p }
          s.member.participation.inStep = true ∧ s.demand.slot = some ⟨4, 2, 12, true, true⟩ ∧ acked.ack = true) := by decide +kernel

theorem test_witness_LeaseRenewalAndMarks :
    (node .active .idle).bus.line = .idle ∧ ((node .active .idle).lease.silence[(8 : Station)]).isSome = true
      ∧ (node .active .idle).lease.latchedMark ≠ some 8 ∧ (8 : Station) ≠ (node .active .idle).address
      ∧ (node .active (.sending .alive)).bus.line = .sending .alive ∧ (node .active .idle).member.participation.inStep = true
      ∧ (node .active .idle).lease.quiet = some 0 ∧ (node .active .idle).member.participation.onLine = true
      ∧ 0 < durationMs (node .active .idle).lease.code ∧ 0 < max 1 (renewMs (node .active .idle).lease.code)
      ∧ .quietTimerExpiry ∈ (queued (node .active .idle) .quietTimerExpiry).due ∧ (node .active .idle).due = [] := by decide +kernel

theorem test_witness_SeekAsksForImage :
    (node .active .idle).member.train = none ∧ (node .active .idle).member.participation.inStep = true
      ∧ (node .seeking .idle).member.participation = .seeking
      ∧ (node .seeking (.sending .seek)).bus.line = .sending .seek ∧ (node .seeking (.sending .seek)).member.seekCount < 4 := by
  decide +kernel

theorem test_witness_CollectorFollowsTrain :
    let waits := { (node .seeking .idle).member with seekWait := some 40, latestSeek := true }
    let early := collecting 3 { collected with next := 1 } []
    let seventh := collecting 3 { collected with next := 7 } []
    waits.seekWait.isSome = true ∧ waits.collection = none ∧ waits.latestSeek = true ∧ waits.segmentSeen = false
      ∧ early.bus.line = .idle ∧ early.member.participation = .seeking ∧ (8 : Station) ≠ early.address
      ∧ early.member.collection = some { collected with next := 1 } ∧ (0 : Fin 8).val + 1 = { collected with next := 1 }.next
      ∧ seventh.member.collection = some { collected with next := 7 } ∧ (6 : Fin 8).val + 1 = { collected with next := 7 }.next
      ∧ (1 : Fin 8).val + 1 ≠ { collected with next := 1 }.next := by decide +kernel

theorem test_witness_InstallationTakesReplayedTable :
    let none4 : Vector WireEntry 4 := .replicate 4 ⟨false, .replicate 4 0⟩
    let full : Table := { collected.table with entries := storeRows collected.entries 7 none4 }
    (collecting 3 collected []).member.collection = some collected ∧ collected.source = 8 ∧ collected.next = 8
      ∧ full.check = collected.header.check ∧ (replay [] full).isSome = true
      ∧ full.entries[(3 : Station)].member = true ∧ full.entries[(5 : Station)].member = false
      ∧ (∀ x : LoadIx, (collecting 3 collected []).load x = .reset) ∧ (collecting 3 collected []).demand.queue = []
      ∧ full.check ≠ { collected.header with check := 0 }.check
      ∧ replay [{ source := 8, base := { commit := 731, check := 0 }, change := .thaw }] full = none
      ∧ ((731 : Word16) - full.commit).toNat = 1 ∧ ((745 : Word16) - full.commit).toNat = 15
      ∧ ((746 : Word16) - full.commit).toNat = 16 ∧ ((729 : Word16) - full.commit).toNat = 65535 := by decide +kernel

theorem test_witness_TrainSendsBuffer :
    let header : ImageHeader := (node .active .idle).capture.header
    let none4 : Vector WireEntry 4 := .replicate 4 ⟨false, .replicate 4 0⟩
    (node .active (.contending .image)).bus.line = .contending .image ∧ (node .active (.contending .image)).member.train = none
      ∧ (node .active (.sending (.image (.header header)))).bus.line = .sending (.image (.header header))
      ∧ (node .active (.sending (.image (.entries 0 none4)))).bus.line = .sending (.image (.entries 0 none4))
      ∧ (6 : Fin 8).val < 7
      ∧ { (node .active (.contending .image)).member with train := some 7, buffer := some (node .active .idle).capture }.train = some 7
      ∧ (node .active (.sending (.image (.entries 7 none4)))).bus.line = .sending (.image (.entries 7 none4)) := by decide +kernel

theorem test_witness_TimeCodesAndLeastCode : (32000 : Nat) ≤ 32000 ∧ (32000 : Nat) ≤ durationMs 0x7F := by decide +kernel

theorem test_witness_GroupFrameActsOnLoads :
    (8 : Station) ≠ (node .active .idle).address ∧ (node .active .idle).member.participation.onLine = true
      ∧ (node .active .idle).bus.line = .idle ∧ (node .active (.sending (.group 0x41))).bus.line = .sending (.group 0x41)
      ∧ (∀ x : LoadIx, ((node .active .idle).cfg x).keep.toNat ≤ ((node .active .idle).cfg x).full.toNat) := by
  decide +kernel

/-- For GroupFrameActsOnLoads: a load in each state that an action moves, with each action resolved for it. -/
theorem test_witness_group_actions :
    (∀ a ∈ Action.precedence, ∀ l ∈ [LoadState.off, .ramping, .on, .raiseWait, .raiseClaim, .fault],
      let s := loaded .active l .full
      let w : GroupWindow := { base := 0x41, mask := 0xFF, loads := 0x10, action := a, enabled := true }
      let t := { s with settings := { s.settings with windows := s.settings.windows.set 3 w } }
      t.resolve 0x41 4 = some a ∧ (t.load 4).state = l ∧ (t.load 4).wish = .full ∧ t.resolve 0x41 3 = none ∧ t.resolve 0x40 4 = none)
      ∧ ((loaded .active .keep .keep).load 4).state = .keep ∧ ((loaded .active .keep .keep).load 4).wish = .keep
      ∧ ((node .active .idle).load 0).state = .off ∧ ((node .active .idle).load 0).wanted = false := by decide +kernel

theorem test_witness_FairGapRampAndImageGapEnd :
    ((loaded .active .ramping .full).load 4).state = .ramping ∧ ((loaded .active .ramping .full).cfg 4).readyUsed = true
      ∧ (loaded .active .ramping .full).loads.rdy[(4 : LoadIx)].level = false
      ∧ (readied .ramping).loads.rdy[(4 : LoadIx)].level = true ∧ (collecting 3 collected []).member.imageGap.isSome = true
      ∧ (collecting 3 collected []).member.collection.isSome = true
      ∧ (collecting 3 collected []).member.participation = .seeking
      ∧ (collecting 3 collected []).due = [] ∧ (collecting 3 collected []).member.imageGap ≠ some 0
      ∧ .imageGapExpiry ∈ (queued (collecting 3 collected []) .imageGapExpiry).due ∧ (readied .ramping).due = []
      ∧ .rampTimerExpiry 4 ∈ (queued (readied .ramping) (.rampTimerExpiry 4)).due ∧ ((readied .ramping).load 4).ramp ≠ some 0
      ∧ .fairGapExpiry ∈ (queued (readied .ramping) .fairGapExpiry).due ∧ (readied .ramping).bus.fairGap ≠ some 0 := by decide +kernel

theorem test_witness_SeekWaitEndsInSeekOrFounding :
    let m := { (node .seeking .idle).member with seekWait := some 0 }
    m.participation = .seeking ∧ m.seekWait.isSome = true ∧ m.segmentSeen = false ∧ m.collection = none
      ∧ { m with collection := some collected }.collection.isSome = true ∧ { m with segmentSeen := true }.segmentSeen = true
      ∧ { m with seekCount := 3 }.seekCount < 4 ∧ { m with seekCount := 4 }.seekCount = 4
      ∧ { node .seeking .idle with member := { m with seekCount := 4 } }.foundedTable.overCap = false := by decide +kernel

theorem test_witness_FreezeTimerAndThawMark :
    { FreezeUnit.reset with timer := some 0 }.timer.isSome = true ∧ (node .active .idle).member.participation.inStep = true
      ∧ (node .seeking .idle).member.participation.inStep = false ∧ (node .active .gap).bus.line = .gap
      ∧ .freezeTimerExpiry ∈ (queued (node .active .gap) .freezeTimerExpiry).due ∧ (node .active .gap).freeze.timer ≠ some 0 := by
  decide +kernel

theorem test_witness_RequestAndReadyInputs :
    (pinned .active false).loads.req[(4 : LoadIx)].level = false ∧ ((pinned .active false).cfg 4).source = .pin
      ∧ (pinned .active true).loads.req[(4 : LoadIx)].level = true ∧ (pinned .active true).member.participation ≠ .setup
      ∧ (pinned .active true).power.running = true ∧ ((node .active .idle).cfg 4).source = .soft
      ∧ (readied .on).loads.rdy[(4 : LoadIx)].level = true ∧ ((readied .on).cfg 4).readyUsed = true
      ∧ ((readied .on).load 4).state.checked = true ∧ (node .active .idle).loads.rdy[(4 : LoadIx)].level = false
      ∧ ((readied .ramping).load 4).state.checked = false ∧ ((node .active .idle).cfg 4).readyUsed = false
      ∧ (pinned .active true).due = [] ∧ (readied .on).due = []
      ∧ .reqDebouncedChange 4 true ∈ (queued (pinned .active true) (.reqDebouncedChange 4 true)).due
      ∧ (pinned .active true).loads.req[(4 : LoadIx)].count < ((pinned .active true).cfg 4).debounce.ms
      ∧ .rdyDebouncedChange 4 false ∈ (queued (readied .on) (.rdyDebouncedChange 4 false)).due
      ∧ (readied .on).loads.rdy[(4 : LoadIx)].count = 0 := by decide +kernel

theorem test_witness_LimitAndTriggerInputs :
    (node .active .idle).cap.limit.level ≠ true ∧ (node .setup .off).member.participation = .setup
      ∧ (node .seeking .idle).member.participation = .seeking ∧ (node .detached .off).member.participation = .detached
      ∧ (node .active .idle).bus.capBusy = false ∧ (node .active .idle).settings.limitCap ≠ (node .active .idle).table.cap
      ∧ ((coded .active 3 true).settings.triggers[(1 : Fin 2)]).enabled = true ∧ (coded .active 3 true).bus.codes.length < 4
      ∧ 4 ≤ (coded .active 4 true).bus.codes.length ∧ (coded .active 4 true).member.participation.onLine = true
      ∧ ((coded .active 3 false).settings.triggers[(1 : Fin 2)]).enabled = false
      ∧ (coded .setup 0 true).member.participation.onLine = false ∧ (coded .active 3 true).due = []
      ∧ (sending .active (.cap 5)).bus.capBusy = true ∧ (node .joining .idle).member.participation.inStep = true
      ∧ (60 : Word16) = (node .active .idle).table.cap ∧ (node .active .idle).cap.limit.count < 32
      ∧ .limitDebouncedChange true ∈ (queued (node .active .idle) (.limitDebouncedChange true)).due
      ∧ .trgDebouncedAssertion 1 ∈ (queued (node .active .idle) (.trgDebouncedAssertion 1)).due := by decide +kernel

/-- For QueuesStayBounded, TablesStaySound and SeekingAndParkedStaySound: the reset state has their premises, and it steps. -/
theorem test_witness_step_invariants : step State.reset = .next State.reset.tick ∧ Bus.stopped.codes.length ≤ 4 := ⟨rfl, by decide⟩

theorem test_witness_reset_table :
    ∀ q : Station, State.reset.table.entries[q] = .absent ∧ ∀ k : ClassIx, Entry.absent.held[k] = 0 := by decide +kernel

theorem test_witness_reset_member :
    State.reset.member = .cleared .setup ∧ (Membership.cleared .setup).changes = [] ∧ State.reset.port.events.length ≤ 16
      ∧ ∀ x : LoadIx, State.reset.load x = .reset := by decide +kernel

/-- Station 3 of the network of 4.8 with the 5 BU of its own entry in the open account. -/
def balanced : State :=
  let s := node .active .idle
  { s with demand := { s.demand with openUnits := #v[5, 0, 0, 0] } }

/-- For HoldingBalanceStays: the state of the next theorem has the other premises too. -/
theorem test_witness_balance_premises :
    balanced.tablesSound ∧ balanced.recordsSound ∧ balanced.listsSound ∧ balanced.parkedSound := by
  have none_collected : balanced.member.collection = none := by decide +kernel
  refine ⟨⟨?_, by simp [none_collected]⟩, ?_, ?_, fun h => absurd h (by decide +kernel)⟩
  · simp only [entriesSound, Entry.sound]; decide +kernel
  · simp only [State.recordsSound, LoadRecord.sound]; decide +kernel
  · simp only [State.listsSound]; decide +kernel

/-- For HoldingBalanceStays: the balance holds in a running part in ACTIVE with a holding of its own. -/
theorem test_witness_HoldingBalanceStays : balanced.balanceSound ∧ balanced.member.participation.inStep = true := by
  have line : balanced.bus.line = .idle := by decide +kernel
  have slot : balanced.demand.slot = none := by decide +kernel
  refine ⟨fun _ => ⟨by decide +kernel, by decide +kernel, by decide +kernel, ?_, ⟨by simp [slot], by decide +kernel, by simp [line],
    by decide +kernel, by decide +kernel, fun h => absurd h (by decide +kernel)⟩, ⟨by simp [line], fun _ => by decide +kernel⟩, by decide +kernel⟩,
    by decide +kernel⟩
  intro k _ h
  simp [Bus.contends, Bus.latched, line] at h

/-- For LoadsAndListsStaySound, LocalShedMeetsTarget and UnitsFreedAreAccounted: node 6 of 7.7 has their premises. -/
theorem test_witness_load_invariants :
    node6.demand.queue.Nodup ∧ node6.loads.grants.Nodup
      ∧ (∀ x : LoadIx, (x ∈ node6.demand.queue ↔ (node6.load x).state.queued = true)
          ∧ (x ∈ node6.loads.grants ↔ (node6.load x).state.energized = true))
      ∧ (∀ x : LoadIx, (node6.load x).inhibited = false ∧ (node6.load x).state ≠ .keep ∧ (node6.load x).state ≠ .raiseWait
          ∧ (node6.load x).state ≠ .raiseClaim ∧ (node6.load x).ramp = none ∧ (node6.load x).cause = .none)
      ∧ (∀ x : LoadIx, (node6.cfg x).keep.toNat ≤ (node6.cfg x).full.toNat)
      ∧ (after (.capFrame 1 node6.table.base 25 acked) node6).table.overCap = true
      ∧ 0 < { node6.table with cap := 25 }.obligation node6.address 3
      ∧ node6.demand.queue.Pairwise (fun x y => (node6.cfg x).cls ≤ (node6.cfg y).cls) ∧ node6.member.participation ≠ .setup := by
  decide +kernel

theorem test_witness_QueueOrderAndComposition :
    let fits := { loaded .active .waiting .full with demand := { Demand.reset with queue := [4] } }
    let blocks := { fits with table := { table48 with cap := 46 } }
    let raises := { loaded .active .raiseWait .full with demand := { Demand.reset with queue := [4] } }
    fits.member.participation = .active ∧ fits.table.frozen = false ∧ fits.demand.blocked = none ∧ fits.demand.slot = none
      ∧ fits.demand.queue = 4 :: [] ∧ (fits.load 4).state = .waiting ∧ (fits.cfg 4).full.toNat ≤ fits.table.free
      ∧ blocks.table.free < (blocks.cfg 4).full.toNat ∧ (raises.load 4).state = .raiseWait
      ∧ (raises.cfg 4).full.toNat - (raises.cfg 4).keep.toNat ≤ raises.table.free
      ∧ { table48 with cap := 42 }.free < (raises.cfg 4).full.toNat - (raises.cfg 4).keep.toNat
      ∧ ([1, 0, 2] : List LoadIx).Pairwise (fun a b => (fun y : LoadIx => (Fin.ofNat 4 (y.val / 2) : ClassIx)) a ≤ Fin.ofNat 4 (b.val / 2)) := by
  decide +kernel

end Sys2Proof.Tests
end

section
/-! SUPPORT. Time codes (R1) and the least code of a time remaining (R55): what one unit offers, what the choice among the offers keeps, and
the code that comes of it. -/

namespace Sys2Proof.Machine

/-! ## The units -/

/-- The units that `leastCode` tries, in its order: the number in bits 6:5 and the ms. -/
def timeUnits : List (Nat × Nat) := [(0, 1), (1, 16), (2, 128), (3, 1000)]

/-- What the units offer for `r` ms remaining, in their order. -/
def timeCandidates (r : Nat) : List (Nat × Nat) := timeUnits.filterMap (unitCandidate r)

theorem leastCode_of_fold {r : Nat} {b : Nat × Nat} (h : (timeCandidates r).foldl shorter none = some b) :
    leastCode r = BitVec.ofNat 7 b.1 := by
  rw [timeCandidates, timeUnits] at h
  rw [leastCode, h]

theorem unitMs_eq_ite (c : TimeCode) :
    unitMs c = if c.toNat / 32 = 0 then 1 else if c.toNat / 32 = 1 then 16 else if c.toNat / 32 = 2 then 128 else 1000 := by
  unfold unitMs
  split <;> simp_all

theorem unit_mem_timeUnits (c : TimeCode) : (c.toNat / 32, unitMs c) ∈ timeUnits := by
  have hc : c.toNat / 32 < 4 := by omega
  rw [unitMs_eq_ite]
  interval_cases c.toNat / 32 <;> simp [timeUnits]

theorem timeUnits_bounds {u : Nat × Nat} (hu : u ∈ timeUnits) : u.1 < 4 ∧ 0 < u.2 := by
  revert u; decide

theorem unitMs_of_mem_timeUnits {u : Nat × Nat} (hu : u ∈ timeUnits) {c : TimeCode} (hc : c.toNat / 32 = u.1) : unitMs c = u.2 := by
  rw [unitMs_eq_ite, hc]
  clear hc
  revert u; decide

/-- The code with unit number `u.1` and count `k` lasts `k + 1` units. -/
theorem durationMs_ofNat {u : Nat × Nat} (hu : u ∈ timeUnits) {k : Nat} (hk : k < 32) :
    durationMs (BitVec.ofNat 7 (u.1 * 32 + k)) = (k + 1) * u.2 := by
  have number_lt := (timeUnits_bounds hu).1
  have code : (BitVec.ofNat 7 (u.1 * 32 + k)).toNat = u.1 * 32 + k := by rw [BitVec.toNat_ofNat]; omega
  have unit : (BitVec.ofNat 7 (u.1 * 32 + k)).toNat / 32 = u.1 := by omega
  have count : (BitVec.ofNat 7 (u.1 * 32 + k)).toNat % 32 = k := by omega
  rw [durationMs, count, unitMs_of_mem_timeUnits hu unit]

/-! ## The candidate of one unit -/

/-- What a unit offers is a count of its own that is not shorter than the time remaining. -/
theorem unitCandidate_spec {r : Nat} {u b : Nat × Nat} (hu : 0 < u.2) (h : unitCandidate r u = some b) :
    ∃ k < 32, b = (u.1 * 32 + k, (k + 1) * u.2) ∧ r ≤ b.2 := by
  simp only [unitCandidate, ← Nat.ceilDiv_eq_add_pred_div] at h
  split at h
  next le_32 =>
    obtain rfl := Option.some.inj h
    have one_le : 1 ≤ max 1 (r ⌈/⌉ u.2) := le_max_left _ _
    refine ⟨max 1 (r ⌈/⌉ u.2) - 1, by omega, by rw [Nat.sub_add_cancel one_le], ?_⟩
    calc r ≤ u.2 * (r ⌈/⌉ u.2) := le_smul_ceilDiv hu
      _ ≤ u.2 * max 1 (r ⌈/⌉ u.2) := Nat.mul_le_mul_left _ (le_max_right _ _)
      _ = max 1 (r ⌈/⌉ u.2) * u.2 := Nat.mul_comm _ _
  next => cases h

/-- A unit with a count that is not shorter than the time remaining offers one that is no longer than it. -/
theorem unitCandidate_least {r k : Nat} {u : Nat × Nat} (hu : 0 < u.2) (hk : k < 32) (hr : r ≤ (k + 1) * u.2) :
    ∃ b, unitCandidate r u = some b ∧ b.2 ≤ (k + 1) * u.2 := by
  have ceil_le : r ⌈/⌉ u.2 ≤ k + 1 := (ceilDiv_le_iff_le_mul hu).mpr (by rwa [Nat.mul_comm])
  have count_le : max 1 (r ⌈/⌉ u.2) ≤ k + 1 := max_le (Nat.succ_pos k) ceil_le
  simp only [unitCandidate, ← Nat.ceilDiv_eq_add_pred_div]
  exact ⟨_, if_pos (count_le.trans hk), Nat.mul_le_mul_right _ count_le⟩

theorem timeCandidates_spec {r : Nat} {b : Nat × Nat} (h : b ∈ timeCandidates r) :
    (BitVec.ofNat 7 b.1).toNat = b.1 ∧ durationMs (BitVec.ofNat 7 b.1) = b.2 ∧ r ≤ b.2 := by
  obtain ⟨u, hu, hb⟩ := List.mem_filterMap.mp h
  obtain ⟨number_lt, ms_pos⟩ := timeUnits_bounds hu
  obtain ⟨k, hk, rfl, hr⟩ := unitCandidate_spec ms_pos hb
  exact ⟨by rw [BitVec.toNat_ofNat]; omega, durationMs_ofNat hu hk, hr⟩

/-- For every code that is not shorter than the time remaining, its own unit offers a code that is no longer than it. -/
theorem timeCandidates_covers {r : Nat} {c : TimeCode} (h : r ≤ durationMs c) :
    ∃ b ∈ timeCandidates r, b.1 / 32 = c.toNat / 32 ∧ b.2 ≤ durationMs c := by
  have hu := unit_mem_timeUnits c
  have ms_pos := (timeUnits_bounds hu).2
  obtain ⟨b, hb, b_le⟩ := unitCandidate_least ms_pos (Nat.mod_lt c.toNat (by decide)) h
  obtain ⟨k, hk, rfl, -⟩ := unitCandidate_spec ms_pos hb
  exact ⟨_, List.mem_filterMap.mpr ⟨_, hu, hb⟩, by dsimp only; omega, b_le⟩

/-- The candidates come in the order of their codes. -/
theorem timeCandidates_sorted (r : Nat) : (timeCandidates r).Pairwise (fun b c => b.1 < c.1) := by
  have units_sorted : timeUnits.Pairwise (fun u v => 0 < u.2 ∧ 0 < v.2 ∧ u.1 < v.1) := by decide
  refine units_sorted.filterMap _ ?_
  rintro u v ⟨hu, hv, huv⟩ b hb c hc
  obtain ⟨i, hi, rfl, -⟩ := unitCandidate_spec hu hb
  obtain ⟨j, hj, rfl, -⟩ := unitCandidate_spec hv hc
  dsimp only
  omega

/-! ## The choice among the candidates -/

/-- The order in which `shorter` prefers: the smaller duration, and of equal ones the smaller code. -/
def preferred (b c : Nat × Nat) : Prop := b.2 < c.2 ∨ b.2 = c.2 ∧ b.1 ≤ c.1

theorem preferred_refl (b : Nat × Nat) : preferred b b := .inr ⟨rfl, le_rfl⟩

theorem preferred_trans {a b c : Nat × Nat} (hab : preferred a b) (hbc : preferred b c) : preferred a c := by
  unfold preferred at *; omega

/-- Of two candidates in the order of their codes, `shorter` keeps one, and the one it keeps is preferred to both. -/
theorem shorter_spec {a c : Nat × Nat} (h : a.1 < c.1) :
    ∃ b, shorter (some a) c = some b ∧ (b = a ∨ b = c) ∧ preferred b a ∧ preferred b c := by
  unfold shorter preferred
  dsimp only
  split
  next c_shorter => exact ⟨c, rfl, .inr rfl, .inl c_shorter, .inr ⟨rfl, le_rfl⟩⟩
  next a_stays => exact ⟨a, rfl, .inl rfl, .inr ⟨rfl, le_rfl⟩, by omega⟩

theorem foldl_shorter_some (l : List (Nat × Nat)) (a : Nat × Nat) (h : (a :: l).Pairwise (fun b c => b.1 < c.1)) :
    ∃ b ∈ a :: l, l.foldl shorter (some a) = some b ∧ ∀ c ∈ a :: l, preferred b c := by
  induction l generalizing a with
  | nil => exact ⟨a, by simp, rfl, by simp [preferred_refl]⟩
  | cons c l ih =>
    rw [List.pairwise_cons, List.pairwise_cons] at h
    obtain ⟨a_lt, c_lt, sorted⟩ := h
    obtain ⟨d, keeps, which, d_a, d_c⟩ := shorter_spec (a_lt c (by simp))
    have d_sorted : (d :: l).Pairwise (fun b c => b.1 < c.1) := by
      refine List.pairwise_cons.mpr ⟨fun x hx => ?_, sorted⟩
      rcases which with rfl | rfl
      · exact a_lt x (by simp [hx])
      · exact c_lt x hx
    obtain ⟨b, mem, fold, least⟩ := ih d d_sorted
    have b_d := least d (by simp)
    refine ⟨b, ?_, by rw [List.foldl_cons, keeps, fold], ?_⟩
    · rcases List.mem_cons.mp mem with rfl | mem
      · rcases which with rfl | rfl <;> simp
      · simp [mem]
    · intro x hx
      rcases List.mem_cons.mp hx with rfl | hx
      · exact preferred_trans b_d d_a
      rcases List.mem_cons.mp hx with rfl | hx
      · exact preferred_trans b_d d_c
      · exact least x (by simp [hx])

theorem foldl_shorter_spec {l : List (Nat × Nat)} (hl : l ≠ []) (h : l.Pairwise (fun b c => b.1 < c.1)) :
    ∃ b ∈ l, l.foldl shorter none = some b ∧ ∀ c ∈ l, preferred b c := by
  cases l with
  | nil => exact absurd rfl hl
  | cons a l => exact foldl_shorter_some l a h

/-! ## The least code -/

/-- Up to 32 s the least code is a candidate, and preferred to every other. -/
theorem leastCode_spec {r : Nat} (h : r ≤ 32000) :
    ∃ b ∈ timeCandidates r, leastCode r = BitVec.ofNat 7 b.1 ∧ ∀ c ∈ timeCandidates r, preferred b c := by
  have longest : r ≤ durationMs 0x7F := h
  obtain ⟨c, hc, -⟩ := timeCandidates_covers longest
  obtain ⟨b, mem, fold, least⟩ := foldl_shorter_spec (List.ne_nil_of_mem hc) (timeCandidates_sorted r)
  exact ⟨b, mem, leastCode_of_fold fold, least⟩

theorem le_durationMs_leastCode {r : Nat} (h : r ≤ 32000) : r ≤ durationMs (leastCode r) := by
  obtain ⟨b, mem, code, -⟩ := leastCode_spec h
  obtain ⟨-, duration, r_le⟩ := timeCandidates_spec mem
  rwa [code, duration]

theorem leastCode_least {r : Nat} (h : r ≤ 32000) {c : TimeCode} (hc : r ≤ durationMs c) :
    durationMs (leastCode r) ≤ durationMs c
      ∧ (durationMs c = durationMs (leastCode r) → (leastCode r).toNat / 32 ≤ c.toNat / 32) := by
  obtain ⟨b, mem, code, least⟩ := leastCode_spec h
  obtain ⟨number, duration, -⟩ := timeCandidates_spec mem
  obtain ⟨d, d_mem, d_unit, d_le⟩ := timeCandidates_covers hc
  have b_d : b.2 < d.2 ∨ b.2 = d.2 ∧ b.1 ≤ d.1 := least d d_mem
  rw [code, number, duration]
  exact ⟨by omega, fun _ => by omega⟩

/-- Settles O42: the duration unit by unit; the least code as the preferred one of the candidates, of which every code that is not shorter
has one of its own unit that is no longer. -/
theorem timeCodesAndLeastCode : Obligations.TimeCodesAndLeastCode := by
  unfold Obligations.TimeCodesAndLeastCode
  exact ⟨fun c => by rw [durationMs, unitMs_eq_ite],
    fun r h => ⟨le_durationMs_leastCode h, fun c hc => leastCode_least h hc⟩⟩

end Sys2Proof.Machine
end

section
/-! SUPPORT. The application of an accepted frame to a table (R11 to R19): the field of each kind, what can become of an entry, and the total. -/

namespace Sys2Proof.Machine

/-! ## Commit, cap and frozen -/

@[simp] theorem Table.apply_commit (t : Table) (q : Station) (c : Change) : (t.apply q c).commit = t.commit + 1 := rfl

theorem Table.apply_cap_kind (t : Table) (q : Station) (v : Word16) :
    t.apply q (.cap v) = { t with cap := v, commit := t.commit + 1 } := rfl

theorem Table.apply_freeze (t : Table) (q : Station) (d : TimeCode) :
    t.apply q (.freeze d) = { t with frozen := true, commit := t.commit + 1 } := rfl

theorem Table.apply_thaw (t : Table) (q : Station) :
    t.apply q .thaw = { t with frozen := false, commit := t.commit + 1 } := rfl

theorem Table.apply_entries (t : Table) (q : Station) (c : Change) : (t.apply q c).entries = (t.change q c).entries := rfl

theorem Table.setEntry_frame (t : Table) (q : Station) (e : Entry) :
    (t.setEntry q e).cap = t.cap ∧ (t.setEntry q e).frozen = t.frozen ∧ (t.setEntry q e).commit = t.commit := ⟨rfl, rfl, rfl⟩

theorem Table.apply_cap (t : Table) (q : Station) (c : Change) (h : ∀ v, c ≠ .cap v) : (t.apply q c).cap = t.cap := by
  change (t.change q c).cap = t.cap
  cases c with
  | cap v => exact absurd rfl (h v)
  | freeze | thaw => rfl
  | evict | leave | release | join | claim => unfold Table.change; dsimp only; split <;> rfl

theorem Table.apply_frozen (t : Table) (q : Station) (c : Change) (hf : ∀ d, c ≠ .freeze d) (ht : c ≠ .thaw) :
    (t.apply q c).frozen = t.frozen := by
  change (t.change q c).frozen = t.frozen
  cases c with
  | freeze d => exact absurd rfl (hf d)
  | thaw => exact absurd rfl ht
  | cap => rfl
  | evict | leave | release | join | claim => unfold Table.change; dsimp only; split <;> rfl

/-- Settles O26: the commit is the application's own; each kind's field is written by its kind alone. -/
theorem applicationAdvancesCommit : Obligations.ApplicationAdvancesCommit := by
  unfold Obligations.ApplicationAdvancesCommit
  intro t q c
  refine ⟨rfl, ?_, t.apply_cap q c, ?_, ?_, t.apply_frozen q c⟩
  · rintro v rfl; exact ⟨rfl, rfl, rfl⟩
  · rintro d rfl; exact ⟨rfl, rfl⟩
  · rintro rfl; exact ⟨rfl, rfl⟩

/-! ## Entries, kind by kind -/

/-- The station that an EVICT or a LEAVE makes ABSENT. -/
theorem Table.removes_eq_some {t : Table} {q r : Station} {c : Change} :
    t.removes q c = some r ↔
      t.entries[r].member = true ∧ ((c = .evict r ∧ r ≠ q) ∨ (c = .leave ∧ r = q)) := by
  cases c with
  | evict target => rw [Table.removes]; grind
  | leave => rw [Table.removes]; grind
  | cap | release | freeze | thaw | join | claim => simp [Table.removes]

/-- A removal replaces the entry removed, and no other. -/
theorem Table.apply_entry_of_removes {t : Table} {q r : Station} {c : Change} (h : t.removes q c = some r) (p : Station) :
    (t.apply q c).entries[p] = if p = r then .absent else t.entries[p] := by
  have change_eq : t.change q c = t.setEntry r .absent := by
    obtain ⟨-, ⟨rfl, -⟩ | ⟨rfl, -⟩⟩ := Table.removes_eq_some.mp h <;> rw [Table.change, h]
  rw [Table.apply_entries, change_eq, Table.setEntry_entries]
  exact if_congr eq_comm rfl rfl

/-- An EVICT or a LEAVE that removes nothing leaves every entry. -/
theorem Table.apply_entries_of_removes_none {t : Table} {q : Station} {c : Change} (h : t.removes q c = none)
    (hc : c = .leave ∨ ∃ target, c = .evict target) : (t.apply q c).entries = t.entries := by
  obtain rfl | ⟨target, rfl⟩ := hc <;> rw [Table.apply_entries, Table.change, h]

theorem Table.apply_evict_entry (t : Table) (q target p : Station) :
    (t.apply q (.evict target)).entries[p] =
      if p = target ∧ t.entries[target].member = true ∧ target ≠ q then .absent else t.entries[p] := by
  by_cases h : t.entries[target].member = true ∧ target ≠ q
  · have removes : t.removes q (.evict target) = some target := Table.removes_eq_some.mpr ⟨h.1, .inl ⟨rfl, h.2⟩⟩
    simp only [Table.apply_entry_of_removes removes, h, and_true, ne_eq, not_false_eq_true]
  · have removes : t.removes q (.evict target) = none := by rw [Table.removes]; grind
    rw [Table.apply_entries_of_removes_none removes (.inr ⟨_, rfl⟩), if_neg fun hp => h hp.2]

theorem Table.apply_leave_entry (t : Table) (q p : Station) :
    (t.apply q .leave).entries[p] = if p = q ∧ t.entries[q].member = true then .absent else t.entries[p] := by
  by_cases h : t.entries[q].member = true
  · have removes : t.removes q .leave = some q := Table.removes_eq_some.mpr ⟨h, .inr ⟨rfl, rfl⟩⟩
    simp only [Table.apply_entry_of_removes removes, h, and_true]
  · have removes : t.removes q .leave = none := by rw [Table.removes]; grind
    rw [Table.apply_entries_of_removes_none removes (.inl rfl), if_neg fun hp => h hp.2]

theorem Table.apply_join_entry (t : Table) (q p : Station) :
    (t.apply q .join).entries[p] = if p = q ∧ t.entries[q].member = false then .joined else t.entries[p] := by
  rw [Table.apply_entries, Table.change]
  cases hm : t.entries[q].member with
  | true => rw [if_pos rfl]; grind
  | false => rw [if_neg (by simp), Table.setEntry_entries]; grind

theorem Table.apply_release_entry (t : Table) (q p : Station) (a : Vector (BitVec 11) 4) :
    (t.apply q (.release a)).entries[p] =
      if p = q ∧ t.entries[q].member = true then t.entries[p].lower a else t.entries[p] := by
  rw [Table.apply_entries, Table.change]
  cases hm : t.entries[q].member with
  | true => rw [if_pos rfl, Table.setEntry_entries]; grind
  | false => rw [if_neg (by simp)]; grind

theorem Table.apply_claim_entry (t : Table) (q p : Station) (k : ClassIx) (u : Byte) (tag : LoadIx) :
    (t.apply q (.claim k u tag)).entries[p] =
      if p = q ∧ t.grants q k u.toNat = true then t.entries[p].add k u.toNat else t.entries[p] := by
  rw [Table.apply_entries, Table.change]
  cases hg : t.grants q k u.toNat with
  | true => rw [if_pos rfl, Table.setEntry_entries]; grind
  | false => rw [if_neg (by simp)]; grind

theorem Entry.lower_held (e : Entry) (a : Vector (BitVec 11) 4) (k : ClassIx) : (e.lower a).held[k] = e.held[k] - (a[k]).toNat := by
  fin_cases k <;> rfl

theorem Entry.add_held (e : Entry) (k j : ClassIx) (u : Nat) : (e.add k u).held[j] = e.held[j] + if k = j then u else 0 :=
  addAt_get e.held k j u

/-- Settles O27: one equation for each kind that changes members or holdings. -/
theorem membershipAndReleaseEntries : Obligations.MembershipAndReleaseEntries := by
  unfold Obligations.MembershipAndReleaseEntries
  intro t q p
  refine ⟨t.apply_join_entry q p, t.apply_leave_entry q p, fun target => t.apply_evict_entry q target p, fun a => ?_⟩
  rw [t.apply_release_entry q p a]
  split
  next => exact ⟨rfl, fun k => by rw [Entry.lower_held]; omega⟩
  next => exact ⟨rfl, fun _ => rfl⟩

/-! ## What can become of an entry -/

/-- Every entry after an application is the entry before, removed, joined, lowered by a RELEASE, or raised by a granted CLAIM. -/
theorem Table.apply_entry_cases (t : Table) (q p : Station) (c : Change) :
    (t.apply q c).entries[p] = t.entries[p]
    ∨ (t.apply q c).entries[p] = .absent
    ∨ (t.apply q c).entries[p] = .joined
    ∨ (∃ a, (t.apply q c).entries[p] = t.entries[p].lower a)
    ∨ ∃ k u tag, c = .claim k u tag ∧ p = q ∧ t.grants q k u.toNat = true
        ∧ (t.apply q c).entries[p] = t.entries[p].add k u.toNat := by
  cases c with
  | cap | freeze | thaw => exact .inl rfl
  | evict target => rw [Table.apply_evict_entry]; grind
  | leave => rw [Table.apply_leave_entry]; grind
  | join => rw [Table.apply_join_entry]; grind
  | release a => rw [Table.apply_release_entry]; grind
  | claim k u tag => rw [Table.apply_claim_entry]; grind

/-! ## The conditions of a grant and the total (R5, R19) -/

/-- Table 1.4. -/
theorem Table.grants_iff (t : Table) (q : Station) (k : ClassIx) (u : Nat) :
    t.grants q k u = true ↔
      t.frozen = false ∧ t.entries[q].member = true ∧ t.total + u ≤ t.cap.toNat
        ∧ t.entries[q].held[k] + u ≤ Config.maxHolding ∧ 1 ≤ u := by
  simp only [Table.grants, Bool.and_eq_true, Bool.not_eq_true', decide_eq_true_eq, and_assoc]

theorem Table.apply_claim_denied {t : Table} {q : Station} {k : ClassIx} {u : Byte} (h : t.grants q k u.toNat = false) (tag : LoadIx) :
    t.apply q (.claim k u tag) = { t with commit := t.commit + 1 } := by
  rw [Table.apply, Table.change, h, if_neg (by simp)]

theorem Entry.total_eq (e : Entry) : e.total = if e.member = true then e.held[0] + e.held[1] + e.held[2] + e.held[3] else 0 := by
  unfold Entry.total
  congr 1
  rcases e with ⟨m, ⟨⟨l⟩, hl⟩⟩
  match l, hl with
  | [a, b, c, d], _ => simp [Nat.add_assoc]

theorem Entry.total_lower_le (e : Entry) (a : Vector (BitVec 11) 4) : (e.lower a).total ≤ e.total := by
  have member : (e.lower a).member = e.member := rfl
  have held (k : ClassIx) : (e.lower a).held[k] ≤ e.held[k] := by rw [Entry.lower_held]; omega
  have h0 := held 0; have h1 := held 1; have h2 := held 2; have h3 := held 3
  rw [Entry.total_eq, Entry.total_eq, member]
  simp only [Fin.getElem_fin] at h0 h1 h2 h3
  split
  next => exact Nat.add_le_add (Nat.add_le_add (Nat.add_le_add h0 h1) h2) h3
  next => exact le_rfl

theorem Entry.total_add_le (e : Entry) (k : ClassIx) (u : Nat) : (e.add k u).total ≤ e.total + u := by
  have held := Entry.add_held e k
  have member : (e.add k u).member = e.member := rfl
  have h0 := held 0 u; have h1 := held 1 u; have h2 := held 2 u; have h3 := held 3 u
  rw [Entry.total_eq, Entry.total_eq, member]
  split
  next => fin_cases k <;> simp at h0 h1 h2 h3 ⊢ <;> omega
  next => omega

/-- An entry's share of the total rises with a granted CLAIM of its station alone. -/
theorem Table.apply_entry_total_le (t : Table) (q p : Station) (c : Change) :
    (t.apply q c).entries[p].total ≤ t.entries[p].total
    ∨ ∃ k u tag, c = .claim k u tag ∧ t.grants q k u.toNat = true := by
  rcases t.apply_entry_cases q p c with h | h | h | ⟨a, h⟩ | ⟨k, u, tag, hc, -, hg, -⟩
  · exact .inl (by rw [h])
  · exact .inl (by rw [h]; exact Nat.zero_le _)
  · exact .inl (by rw [h]; exact Nat.zero_le _)
  · exact .inl (by rw [h]; exact Entry.total_lower_le _ a)
  · exact .inr ⟨k, u, tag, hc, hg⟩

theorem Table.total_eq_sum (t : Table) : t.total = ∑ p : Station, t.entries[p].total := by
  rw [Table.total, Fin.sum_univ_def]

theorem Table.exists_entry_of_total_lt {t t' : Table} :
    t.total < t'.total → ∃ p : Station, t.entries[p].total < t'.entries[p].total := by
  rw [Table.total_eq_sum, Table.total_eq_sum]
  intro h
  obtain ⟨p, -, hp⟩ := Finset.exists_lt_of_sum_lt h
  exact ⟨p, hp⟩

/-- A CLAIM raises the total by no more than its units. -/
theorem Table.total_apply_claim_le (t : Table) (q : Station) (k : ClassIx) (u : Byte) (tag : LoadIx) :
    (t.apply q (.claim k u tag)).total ≤ t.total + u.toNat := by
  have share (p : Station) :
      (t.apply q (.claim k u tag)).entries[p].total ≤ t.entries[p].total + if p = q then u.toNat else 0 := by
    rw [Table.apply_claim_entry]
    split
    next h => rw [if_pos h.1]; exact Entry.total_add_le _ k _
    next => exact Nat.le_add_right _ _
  calc (t.apply q (.claim k u tag)).total = ∑ p : Station, (t.apply q (.claim k u tag)).entries[p].total := Table.total_eq_sum _
    _ ≤ ∑ p : Station, (t.entries[p].total + if p = q then u.toNat else 0) := Finset.sum_le_sum fun p _ => share p
    _ = t.total + u.toNat := by
      rw [Finset.sum_add_distrib, Finset.sum_ite_eq', if_pos (Finset.mem_univ q), ← Table.total_eq_sum]

/-- Nothing but a granted CLAIM raises the total. -/
theorem Table.granted_of_total_lt {t : Table} {q : Station} {c : Change} (h : t.total < (t.apply q c).total) :
    ∃ k u tag, c = .claim k u tag ∧ t.grants q k u.toNat = true := by
  obtain ⟨p, rises⟩ := Table.exists_entry_of_total_lt h
  exact (t.apply_entry_total_le q p c).resolve_left (Nat.not_le.mpr rises)

/-- Settles O28: the conditions of Table 1.4, the one entry that a grant changes, and the entries' shares of the total. -/
theorem claimGrantedOrDenied : Obligations.ClaimGrantedOrDenied := by
  unfold Obligations.ClaimGrantedOrDenied
  refine ⟨fun t q k u tag => ⟨t.grants_iff q k u.toNat, fun granted => ⟨?_, fun p hp => ?_⟩,
    fun denied => Table.apply_claim_denied denied tag⟩, fun t q c rises => ?_, fun t => ⟨?_, ?_⟩⟩
  · rw [Table.apply_claim_entry, if_pos ⟨rfl, granted⟩]; rfl
  · rw [Table.apply_claim_entry, if_neg (fun h => hp h.1)]
  · obtain ⟨k, u, tag, rfl, granted⟩ := Table.granted_of_total_lt rises
    obtain ⟨-, -, below_cap, -, -⟩ := (t.grants_iff q k u.toNat).mp granted
    exact ⟨(t.total_apply_claim_le q k u tag).trans below_cap, k, u, tag, rfl, granted⟩
  · unfold Table.free; split <;> omega
  · simp only [Table.overCap, decide_eq_true_eq]

end Sys2Proof.Machine
end

section
/-! SUPPORT. Rows that leave the Budget Table and the Membership Controller as they are, and shared shapes of the rows' meanings. -/

namespace Sys2Proof.Machine

/-! ## Shapes that the rows' meanings share -/

/-- A property that a state has, and the state that a running part makes of it, `whenRunning` keeps. -/
theorem State.whenRunning_keeps {P : State → Prop} {s : State} {f : State → State} (h : P s)
    (hf : s.power.running = true → P (f s)) : P (s.whenRunning f) := by
  unfold State.whenRunning
  split
  next running => exact hf running
  next => exact h

theorem State.takeRow_keeps {P : State → Prop} {s : State} {row : Instr} {stands : Bool} {f : State → State} (h : P (s.taken row))
    (hf : P (f (s.taken row))) : P (s.takeRow row stands f) := by
  unfold State.takeRow
  split
  · exact h
  · exact hf

theorem State.loadCommand_keeps {P : State → Prop} {s : State} {arg : Byte} {f : LoadIx → State → State}
    (h : ∀ r, P (s.setResult r)) (hf : ∀ x, s.member.participation ≠ .setup → P (f x s)) : P (s.loadCommand arg f) := by
  unfold State.loadCommand
  split
  · exact h _
  next started =>
    split
    · exact h _
    · exact hf _ started

/-- The end of a frame: nothing, the node's own, a duplicate, or another node's. -/
theorem State.frameEnd_keeps {P : State → Prop} {s : State} {k : FrameKind} {q : Station} {own : FrameBody → State → State}
    {other : State → State} (h : P s) (hown : ∀ body, s.bus.line = .sending body → P (own body s).settle)
    (hdup : s.bus.line ≠ .off → P (s.duplicate k)) (hother : s.bus.line ≠ .off → q ≠ s.address → P (other s).settle) :
    P (s.frameEnd k q own other) := by
  unfold State.frameEnd
  split
  next body line =>
    split
    · exact hown body line
    · exact h
  case h_5 | h_6 | h_7 => exact h
  all_goals
    next line =>
      split
      · exact hdup (by simp [line])
      next hq => exact hother (by simp [line]) hq

/-! ## Register writes that are other rows -/

/-- A COMMAND write does what the row of its command does. -/
theorem issue_of_command {w : Word16} {c : Instr} (h : commandOf w = some c) (s : State) : issue w s = exec c s := by
  unfold issue
  rw [h]
  unfold commandOf at h
  dsimp only at h
  split at h <;> cases h <;> rfl

theorem issue_of_code_zero {w : Word16} (h : commandOf w = none) (s : State) :
    issue w s = .next (s.whenRunning fun s => { s with port := s.port.store 0x02 w }) := by
  unfold issue
  rw [h]

theorem commandOf_ne_registerWrite {w : Word16} {c : Instr} (h : commandOf w = some c) (a : BitVec 7) (v : Word16) :
    c ≠ .registerWrite a v := by
  rintro rfl
  unfold commandOf at h
  dsimp only at h
  split at h <;> cases h

/-- REGISTER_WRITE does what another row does, or stores a value for later accesses. -/
theorem exec_registerWrite_cases (a : BitVec 7) (v : Word16) (s : State) :
    (∃ c, (∀ a v, c ≠ .registerWrite a v) ∧ exec (.registerWrite a v) s = exec c s)
    ∨ exec (.registerWrite a v) s = .next (s.whenRunning fun s => { s with port := s.port.store a v }) := by
  change (∃ c, _ ∧ execRegisterWrite a v s = _) ∨ execRegisterWrite a v s = _
  unfold execRegisterWrite
  split
  · exact .inl ⟨.statusWrite v, by simp, rfl⟩
  split
  · exact .inl ⟨.settingDataWrite v, by simp, rfl⟩
  split
  next ha =>
    cases hc : commandOf v with
    | some c => exact .inl ⟨c, commandOf_ne_registerWrite hc, issue_of_command hc s⟩
    | none => exact .inr (by rw [ha, issue_of_code_zero hc])
  · exact .inr rfl

/-- A property that every row but REGISTER_WRITE keeps, and that a store in the port keeps, every row keeps. -/
theorem exec_keeps_of_rows {P : State → Prop} {s : State}
    (hrow : ∀ c t, (∀ a v, c ≠ .registerWrite a v) → exec c s = .next t → P t)
    (hport : ∀ p : Port, P { s with port := p }) (c : Instr) (t : State) (he : exec c s = .next t) : P t := by
  cases c with
  | registerWrite a v =>
    rcases exec_registerWrite_cases a v s with ⟨c, hc, heq⟩ | heq
    · exact hrow c t hc (heq ▸ he)
    · obtain rfl := Host.Outcome.next.inj (heq.symm.trans he)
      exact State.whenRunning_keeps (hport s.port) fun _ => hport _
  | _ => exact hrow _ t (by simp) he

/-! ## Rows that leave table and membership -/

/-- Rows of which no meaning writes the Budget Table or the Membership Controller. -/
def leavesMembership : Instr → Bool
  | .request _ | .withdraw _ | .setLevel _ | .inhibit _ | .permit _ | .clearFault _ | .sendGroup _ | .setCap _ | .freeze _
  | .unassignedCommand _ _ | .eventARead _ | .statusWrite _ | .settingDataWrite _ | .contention | .arbitrationLost | .lineError
  | .integrationComplete | .fairGapExpiry | .silenceTimerExpiry _ | .quietTimerExpiry | .rampTimerExpiry _ | .freezeTimerExpiry
  | .reqDebouncedChange _ _ | .rdyDebouncedChange _ _ | .limitDebouncedChange _ | .trgDebouncedAssertion _
  | .ackObjSlotDrive _ _ | .powerOnResetBegin | .rstnAsserted => true
  | _ => false

/-- Table and Membership Controller are those of another state. -/
def State.sameMembership (s t : State) : Prop := t.table = s.table ∧ t.member = s.member

theorem State.sameMembership_refl (s : State) : s.sameMembership s := ⟨rfl, rfl⟩

theorem State.sameMembership_trans {s t u : State} (h : s.sameMembership t) (h' : t.sameMembership u) : s.sameMembership u :=
  ⟨h'.1.trans h.1, h'.2.trans h.2⟩

theorem State.sameMembership_command {s t : State} {code arg : Byte} {f : State → State}
    (hf : ∀ u : State, u.sameMembership (f u)) (he : s.command code arg f = .next t) : s.sameMembership t := by
  obtain rfl := Host.Outcome.next.inj he
  exact State.whenRunning_keeps s.sameMembership_refl fun _ =>
    State.sameMembership_trans (t := s.storeCommand code arg) ⟨rfl, rfl⟩ (hf _)

theorem State.sameMembership_loadCommand {s : State} {arg : Byte} {f : LoadIx → State → State}
    (hf : ∀ x, s.sameMembership (f x s)) : s.sameMembership (s.loadCommand arg f) :=
  State.loadCommand_keeps (fun _ => ⟨rfl, rfl⟩) fun x _ => hf x

theorem State.sameMembership_takeRow {s : State} {row : Instr} {stands : Bool} {f : State → State}
    (hf : ∀ u : State, u.sameMembership (f u)) : s.sameMembership (s.whenRunning fun s => s.takeRow row stands f) :=
  State.whenRunning_keeps s.sameMembership_refl fun _ =>
    State.takeRow_keeps ⟨rfl, rfl⟩ (State.sameMembership_trans (t := s.taken row) ⟨rfl, rfl⟩ (hf _))

theorem State.writeSetting_frame (s : State) (v : Word16) : s.sameMembership (s.writeSetting v) := by
  have recheck (u : State) (x : LoadIx) : u.sameMembership (u.recheckReq x) := by
    unfold State.recheckReq; dsimp only; split <;> exact ⟨rfl, rfl⟩
  unfold State.writeSetting
  split
  · split
    · exact ⟨foldl_keeps _ State.table (fun u x => (recheck u x).1) _ _, foldl_keeps _ State.member (fun u x => (recheck u x).2) _ _⟩
    · exact s.sameMembership_refl
  · exact s.sameMembership_refl

theorem exec_sameMembership {c : Instr} {s t : State} (hc : leavesMembership c = true) (he : exec c s = .next t) :
    s.sameMembership t := by
  cases c with
  | request arg | withdraw arg =>
    refine State.sameMembership_command (fun u => State.sameMembership_loadCommand fun x => ?_) he
    unfold State.softOnly
    split <;> simp [State.sameMembership]
  | setLevel arg =>
    refine State.sameMembership_command (fun u => State.sameMembership_loadCommand fun x => ?_) he
    split <;> simp [State.sameMembership]
  | clearFault arg =>
    refine State.sameMembership_command (fun u => State.sameMembership_loadCommand fun x => ?_) he
    split <;> simp [State.sameMembership]
  | inhibit arg | permit arg =>
    exact State.sameMembership_command (fun u => State.sameMembership_loadCommand fun x => by simp [State.sameMembership]) he
  | sendGroup arg | setCap arg | unassignedCommand code arg =>
    simp only [exec, execSendGroup, execSetCap, execUnassignedCommand] at he
    refine State.sameMembership_command (fun u => ?_) he
    (repeat' split) <;> simp [State.sameMembership]
  | freeze arg =>
    simp only [exec, execFreeze] at he
    refine State.sameMembership_command (fun u => ?_) he
    unfold State.takeFreeze
    (repeat' split) <;> simp [State.sameMembership]
  | eventARead e =>
    obtain rfl := Host.Outcome.next.inj he
    exact State.whenRunning_keeps s.sameMembership_refl fun _ => by (repeat' split) <;> exact ⟨rfl, rfl⟩
  | statusWrite v =>
    obtain rfl := Host.Outcome.next.inj he
    exact State.whenRunning_keeps s.sameMembership_refl fun _ => by unfold State.writeStatus; split <;> exact ⟨rfl, rfl⟩
  | settingDataWrite v =>
    obtain rfl := Host.Outcome.next.inj he
    exact State.whenRunning_keeps s.sameMembership_refl fun _ => s.writeSetting_frame v
  | contention | lineError | integrationComplete | ackObjSlotDrive =>
    obtain rfl := Host.Outcome.next.inj he
    exact State.whenRunning_keeps s.sameMembership_refl fun _ => by (repeat' split) <;> exact ⟨rfl, rfl⟩
  | arbitrationLost =>
    obtain rfl := Host.Outcome.next.inj he
    exact State.whenRunning_keeps s.sameMembership_refl fun _ => by split <;> simp [State.sameMembership]
  | fairGapExpiry =>
    obtain rfl := Host.Outcome.next.inj he
    exact State.sameMembership_takeRow fun u => ⟨rfl, rfl⟩
  | silenceTimerExpiry | quietTimerExpiry | rampTimerExpiry | freezeTimerExpiry =>
    obtain rfl := Host.Outcome.next.inj he
    exact State.sameMembership_takeRow fun u => by split <;> simp [State.sameMembership]
  | reqDebouncedChange x b =>
    obtain rfl := Host.Outcome.next.inj he
    exact State.sameMembership_takeRow fun u => by
      unfold State.reqChanged
      (repeat' split) <;> simp [State.sameMembership]
  | rdyDebouncedChange x b =>
    obtain rfl := Host.Outcome.next.inj he
    exact State.sameMembership_takeRow fun u => by
      unfold State.rdyDropped
      (repeat' split) <;> simp [State.sameMembership]
  | limitDebouncedChange b =>
    obtain rfl := Host.Outcome.next.inj he
    exact State.sameMembership_takeRow fun u => by
      unfold State.limitChanged
      (repeat' split) <;> simp [State.sameMembership]
  | trgDebouncedAssertion i =>
    obtain rfl := Host.Outcome.next.inj he
    exact State.sameMembership_takeRow fun u => by
      unfold State.triggered
      (repeat' split) <;> simp [State.sameMembership]
  | powerOnResetBegin =>
    obtain rfl := Host.Outcome.next.inj he
    exact ⟨rfl, rfl⟩
  | rstnAsserted =>
    obtain rfl := Host.Outcome.next.inj he
    split <;> exact ⟨rfl, rfl⟩
  | _ => cases hc

end Sys2Proof.Machine
end

section
/-! SUPPORT. Holdings in 0..2047 and ABSENT entries that hold nothing (R2), operation by operation: application, replay, founding, the
segments of an image; then what each handling leaves in the table and in a collected copy. -/

namespace Sys2Proof.Machine

/-! ## Entries -/

theorem Entry.lower_sound {e : Entry} (h : e.sound) (a : Vector (BitVec 11) 4) : (e.lower a).sound := by
  intro k
  obtain ⟨bounded, absent⟩ := h k
  rw [Entry.lower_held]
  exact ⟨(Nat.sub_le _ _).trans bounded, fun hm => by rw [absent hm, Nat.zero_sub]⟩

theorem Entry.add_sound {e : Entry} {k : ClassIx} {u : Nat} (h : e.sound) (hm : e.member = true)
    (hu : e.held[k] + u ≤ Config.maxHolding) : (e.add k u).sound := by
  intro j
  rw [Entry.add_held]
  refine ⟨?_, fun hn => absurd (hm.symm.trans hn) (by decide)⟩
  split
  next hk => rwa [← hk]
  next => exact (h j).1

/-- An accepted frame keeps every entry sound: the one way up, a granted CLAIM, is bounded by Table 1.4. -/
theorem Table.apply_sound {t : Table} (h : entriesSound t.entries) (q : Station) (c : Change) : entriesSound (t.apply q c).entries := by
  intro p
  rcases t.apply_entry_cases q p c with he | he | he | ⟨a, he⟩ | ⟨k, u, tag, -, rfl, granted, he⟩ <;> rw [he]
  · exact h p
  · exact Entry.absent_sound
  · exact Entry.joined_sound
  · exact Entry.lower_sound (h p) a
  · obtain ⟨-, member, -, holding, -⟩ := (t.grants_iff p k u.toNat).mp granted
    exact Entry.add_sound (h p) member holding

theorem entriesSound_replicate_absent : entriesSound (Vector.replicate 32 Entry.absent) := by
  intro q
  rw [Fin.getElem_fin, Vector.getElem_replicate]
  exact Entry.absent_sound

theorem entriesSound_set {es : Vector Entry 32} {q : Station} {e : Entry} (h : entriesSound es) (he : e.sound) :
    entriesSound (es.set q e) := by
  intro p
  have := Table.setEntry_entries { Table.empty with entries := es } q p e
  change (es.set q e)[p] = _ at this
  rw [this]
  split
  · exact he
  · exact h p

/-! ## Images -/

/-- An entry as a segment carries it is sound: a holding has 11 bits, and an ABSENT entry is stored as holding nothing. -/
theorem entryOfWire_sound (w : WireEntry) : (entryOfWire w).sound := by
  unfold entryOfWire
  split
  · intro k
    refine ⟨?_, fun hm => nomatch hm⟩
    have held : (#v[w.held[0].toNat, w.held[1].toNat, w.held[2].toNat, w.held[3].toNat] : Vector Nat 4)[k] = (w.held[k]).toNat := by
      fin_cases k <;> rfl
    rw [held]
    exact Nat.le_of_lt_succ (w.held[k]).isLt
  · exact Entry.absent_sound

theorem storeRows_sound {es : Vector Entry 32} (h : entriesSound es) (index : Fin 8) (rows : Vector WireEntry 4) :
    entriesSound (storeRows es index rows) := by
  unfold storeRows
  induction allClasses generalizing es with
  | nil => exact h
  | cons j js ih => exact ih (entriesSound_set h (entryOfWire_sound _))

theorem replay_sound {rs : List ChangeRecord} {t t' : Table} {ps : List Replayed} (h : entriesSound t.entries)
    (hr : replay rs t = some (t', ps)) : entriesSound t'.entries := by
  induction rs generalizing t ps with
  | nil =>
    obtain ⟨rfl, -⟩ := Prod.mk.inj (Option.some.inj hr)
    exact h
  | cons r rs ih =>
    unfold replay at hr
    dsimp only at hr
    split at hr
    · split at hr
      · obtain ⟨⟨t'', ps'⟩, tail, heq⟩ := Option.map_eq_some_iff.mp hr
        obtain ⟨rfl, -⟩ := Prod.mk.inj heq
        exact ih (Table.apply_sound h _ _) tail
      · cases hr
    · split at hr
      · cases hr
      · exact ih h hr

/-! ## Founding -/

theorem LoadState.units_le (l : LoadState) (c : LoadSettings) : l.units c ≤ 255 := by
  cases l with
  | ramping | on => exact Nat.le_of_lt_succ c.full.isLt
  | keep | raiseWait | raiseClaim => exact Nat.le_of_lt_succ c.keep.isLt
  | off | waiting | claiming | fault => exact Nat.zero_le _

/-- Eight loads of at most 255 units. -/
theorem State.occupiedIn_le (s : State) (k : ClassIx) : s.occupiedIn k ≤ Config.maxHolding := by
  have each (n : Nat) (hn : n ∈ allLoads.map fun x => if (s.cfg x).cls = k then s.occupied x else 0) : n ≤ 255 := by
    obtain ⟨x, -, rfl⟩ := List.mem_map.mp hn
    split
    · exact LoadState.units_le _ _
    · exact Nat.zero_le _
  have total := List.sum_le_card_nsmul _ 255 each
  rw [List.length_map, List.length_finRange] at total
  exact total.trans (by decide)

theorem State.foundedTable_sound (s : State) : entriesSound s.foundedTable.entries := by
  refine entriesSound_set entriesSound_replicate_absent fun k => ⟨?_, fun hm => nomatch hm⟩
  have held : (#v[s.occupiedIn 0, s.occupiedIn 1, s.occupiedIn 2, s.occupiedIn 3] : Vector Nat 4)[k] = s.occupiedIn k := by
    fin_cases k <;> rfl
  exact held ▸ s.occupiedIn_le k

/-! ## What the operations leave in the Membership Controller -/

@[simp] theorem State.sendSeek_member (s : State) : s.sendSeek.member = { s.member with latestSeek := false } := by
  simp [State.sendSeek]

@[simp] theorem State.enterSeeking_member (s : State) (cause : StepCause) :
    (s.enterSeeking cause).member =
      { Membership.cleared .seeking with wasMember := s.member.wasMember || s.member.participation == .active } := by
  simp [State.enterSeeking, Membership.cleared]

@[simp] theorem State.enterDetached_member (s : State) : s.enterDetached.member = .cleared .detached := by
  simp [State.enterDetached]

@[simp] theorem State.enterDetached_table (s : State) : s.enterDetached.table = .empty := by
  simp [State.enterDetached]

@[simp] theorem State.enterDetached_bus (s : State) : s.enterDetached.bus = .stopped := by
  simp [State.enterDetached]

@[simp] theorem State.selfEvict_member (s : State) : s.selfEvict.member = { s.member with participation := .joining } := by
  simp [State.selfEvict]

@[simp] theorem State.joined_member (s : State) : s.joined.member = { s.member with participation := .active } := by
  simp [State.joined]

@[simp] theorem State.found_member (s : State) : s.found.member = { Membership.cleared .active with wasMember := s.member.wasMember } := by
  simp [State.found, Membership.foundOrInstalled, Membership.cleared]

@[simp] theorem State.found_table (s : State) : s.found.table = s.foundedTable := by
  simp [State.found]

/-- Reconciliation ends in ACTIVE with the own entry MEMBER, in JOINING else. -/
theorem State.reconcile_member (s : State) :
    s.reconcile.member = { s.member with
      participation := if s.table.entries[s.address].member = true then .active else .joining } := by
  unfold State.reconcile
  split
  · have classes : (allClasses.foldl State.reconcileClass s).member = s.member := foldl_keeps _ State.member (fun u k => by simp) _ _
    simp [State.reconcileMember, classes]
  · unfold State.reconcileAbsent
    dsimp only
    split <;> simp

theorem State.install_table (s : State) (h : ImageHeader) (t : Table) (rs : List Replayed) : (s.install h t rs).table = t := by
  simp [State.install]

/-- Installation leaves nothing of the seeking period (R63). -/
theorem State.install_member (s : State) (h : ImageHeader) (t : Table) (rs : List Replayed) :
    (s.install h t rs).member = { Membership.cleared (if t.entries[s.address].member = true then .active else .joining) with
      wasMember := s.member.wasMember } := by
  simp [State.install, State.reconcile_member, Membership.foundOrInstalled, Membership.cleared]

end Sys2Proof.Machine
end

section
/-! SUPPORT. What a handling can do to the table and to what the Membership Controller holds of seeking, said once for each operation. -/

namespace Sys2Proof.Machine

/-! ## Every load off (R69) -/

@[simp] theorem State.ungrant_load (s : State) (x y : LoadIx) : (s.ungrant x).load y = s.load y := rfl

@[simp] theorem State.enqueue_load (s : State) (x y : LoadIx) : (s.enqueue x).load y = s.load y := rfl

theorem State.setLoadState_load (s : State) (x y : LoadIx) (l : LoadState) :
    (s.setLoadState x l).load y = { s.load y with state := if x = y then l else (s.load y).state } := by
  rw [State.setLoadState, State.load_setLoad]
  split
  next h => rw [h]
  next => rfl

/-- Queue entry moves a load from OFF to WAITING, or nothing. -/
theorem State.enterQueue_load (s : State) (x y : LoadIx) :
    (s.enterQueue x).load y = s.load y ∨ (s.enterQueue x).load y = { s.load y with state := .waiting } := by
  unfold State.enterQueue
  split
  · rw [State.enqueue_load, State.setLoadState_load]
    split
    · exact .inr rfl
    · exact .inl rfl
  · exact .inl rfl

theorem State.enterQueue_load_of_ne (s : State) {x y : LoadIx} (h : x ≠ y) : (s.enterQueue x).load y = s.load y := by
  unfold State.enterQueue
  split
  · rw [State.enqueue_load, State.setLoadState_load, if_neg h]
  · rfl

theorem State.disconnectLoad_load_of_ne (s : State) {x y : LoadIx} (h : x ≠ y) : (s.disconnectLoad x).load y = s.load y := by
  unfold State.disconnectLoad
  split
  all_goals simp [State.enterQueue_load_of_ne, State.load_setLoad_of_ne, State.setLoadState_load, h]

/-- A load disconnected is off or waits, and its request stands. -/
theorem State.disconnectLoad_load_self (s : State) (x : LoadIx) :
    ((s.disconnectLoad x).load x).state.energized = false ∧ ((s.disconnectLoad x).load x).wanted = (s.load x).wanted := by
  unfold State.disconnectLoad
  split
  case h_1 h | h_2 h | h_3 h =>
    rcases State.enterQueue_load ((s.setLoad x { s.load x with state := .off, ramp := none }).ungrant x) x x with he | he <;>
      rw [he] <;> simp [LoadState.energized]
  case h_4 h | h_5 h | h_6 h => simp [State.setLoadState_load, LoadState.energized]
  case h_7 h | h_8 h | h_9 h => simp [h, LoadState.energized]

/-- A fold over loads that leaves every other load alone, and of its own load makes what stays so, makes it of every load listed. -/
theorem foldl_load {f : State → LoadIx → State} {Q : LoadRecord → LoadRecord → Prop}
    (hself : ∀ s x, Q (s.load x) ((f s x).load x)) (hne : ∀ s x y, x ≠ y → (f s x).load y = s.load y) :
    ∀ (l : List LoadIx) (s : State) (y : LoadIx), l.Nodup →
      if y ∈ l then Q (s.load y) ((l.foldl f s).load y) else (l.foldl f s).load y = s.load y
  | [], _, _, _ => by simp
  | x :: l, s, y, hl => by
    obtain ⟨hx, hl⟩ := List.nodup_cons.mp hl
    have ih := foldl_load hself hne l (f s x) y hl
    rw [List.foldl_cons]
    by_cases hxy : x = y
    · subst hxy
      rw [if_neg hx] at ih
      rw [if_pos (by simp), ih]
      exact hself s x
    · rw [hne s x y hxy] at ih
      simpa [Ne.symm hxy] using ih

theorem State.disconnectAll_load (s : State) (x : LoadIx) :
    (s.disconnectAll.load x).state.energized = false ∧ (s.disconnectAll.load x).wanted = (s.load x).wanted := by
  have all := foldl_load (Q := fun r r' => r'.state.energized = false ∧ r'.wanted = r.wanted) State.disconnectLoad_load_self
    (fun s x y => s.disconnectLoad_load_of_ne) allLoads s x (List.nodup_finRange 8)
  rwa [if_pos (List.mem_finRange x)] at all

/-! ## Leaving step, DETACHED, and moves between the in-step states -/

/-- What belongs to seeking is as before, and the founding count is no higher. -/
def Membership.sameSeeking (m m' : Membership) : Prop :=
  m'.participation = m.participation ∧ m'.changes = m.changes ∧ m'.recording = m.recording ∧ m'.seekWait = m.seekWait
    ∧ m'.collection = m.collection ∧ m'.seekCount ≤ m.seekCount

theorem Membership.sameSeeking.refl (m : Membership) : m.sameSeeking m := ⟨rfl, rfl, rfl, rfl, rfl, le_rfl⟩

theorem Membership.sameSeeking.trans {m m' m'' : Membership} (h : m.sameSeeking m') (h' : m'.sameSeeking m'') : m.sameSeeking m'' := by
  obtain ⟨p, c, r, w, o, n⟩ := h
  obtain ⟨p', c', r', w', o', n'⟩ := h'
  exact ⟨p'.trans p, c'.trans c, r'.trans r, w'.trans w, o'.trans o, n'.trans n⟩

theorem Membership.sameSeeking.withParticipation {m m' : Membership} (h : m.sameSeeking m') (p : Participation) :
    { m with participation := p }.sameSeeking { m' with participation := p } := by
  obtain ⟨-, c, r, w, o, n⟩ := h
  exact ⟨rfl, c, r, w, o, n⟩

/-- What R69 leaves of table, membership, Bus Controller and outputs. -/
def State.isDetached (u : State) : Prop :=
  u.table = .empty ∧ u.member = .cleared .detached ∧ u.bus = .stopped ∧ ∀ x, (u.load x).state.energized = false

theorem State.enterDetached_isDetached (s : State) : s.enterDetached.isDetached := by
  refine ⟨s.enterDetached_table, s.enterDetached_member, s.enterDetached_bus, fun x => ?_⟩
  have loads : s.enterDetached.loads = s.disconnectAll.loads := by simp [State.enterDetached]
  rw [State.load, loads]
  exact (s.disconnectAll_load x).1

/-- What the handling of a frame can do to the membership: the participation state as it was, or moved from one in-step state to
another; or out of step to SEEKING (R53); the table is then the one given. Or to DETACHED (R69). -/
inductive State.Handled (s : State) (after : Table) (u : State) : Prop
  | inPlace (table : u.table = after) (member : s.member.sameSeeking u.member)
  | moved (table : u.table = after) (p : Participation) (source : s.member.participation.inStep = true) (target : p.inStep = true)
      (member : { s.member with participation := p }.sameSeeking u.member)
  | outOfStep (table : u.table = after) (was : Bool) (member : u.member = { Membership.cleared .seeking with wasMember := was })
  | detached (parked : u.isDetached)

theorem State.Handled.of_same {s u : State} (h : s.sameMembership u) : s.Handled s.table u :=
  .inPlace h.1 (h.2 ▸ Membership.sameSeeking.refl _)

theorem Membership.sameSeeking.of_eq {m m' : Membership} (h : m' = m) : m.sameSeeking m' := h ▸ .refl m

/-- What comes before a handling and leaves what belongs to seeking does not show in it. -/
theorem State.Handled.preceded {s v u : State} {T : Table} (h : v.Handled T u) (hm : s.member.sameSeeking v.member) :
    s.Handled T u := by
  cases h with
  | inPlace ht hu => exact .inPlace ht (hm.trans hu)
  | moved ht p source target hu => exact .moved ht p (hm.1 ▸ source) target ((hm.withParticipation p).trans hu)
  | outOfStep ht was hu => exact .outOfStep ht was hu
  | detached parked => exact .detached parked

/-- What follows a handling, leaves table and membership, and does nothing in DETACHED, does not show in it. -/
theorem State.Handled.followed {s v u : State} {T : Table} (h : s.Handled T v) (hvu : v.sameMembership u)
    (hd : v.isDetached → u.isDetached) : s.Handled T u := by
  obtain ⟨table, member⟩ := hvu
  cases h with
  | inPlace ht hm => exact .inPlace (table.trans ht) (member ▸ hm)
  | moved ht p source target hm => exact .moved (table.trans ht) p source target (member ▸ hm)
  | outOfStep ht was hm => exact .outOfStep (table.trans ht) was (member.trans hm)
  | detached parked => exact .detached (hd parked)

/-- A detached node whose bus and load records stand stays as it is. -/
theorem State.isDetached_of_same {v u : State} (h : v.isDetached) (hvu : v.sameMembership u) (hb : u.bus = v.bus)
    (hl : u.loads.records = v.loads.records) : u.isDetached := by
  obtain ⟨table, member, bus, loads⟩ := h
  refine ⟨hvu.1.trans table, hvu.2.trans member, hb.trans bus, fun x => ?_⟩
  rw [State.load, hl]
  exact loads x

theorem State.outOfStep_handled (s : State) (cause : StepCause) : s.Handled s.table (s.outOfStep cause) := by
  unfold State.outOfStep
  split
  · exact .outOfStep (by simp) _ (s.enterSeeking_member cause)
  · exact .outOfStep (by simp) _ (s.enterSeeking_member cause)
  · exact .detached s.enterDetached_isDetached
  all_goals exact .of_same s.sameMembership_refl

/-! ## An accepted frame applied -/

theorem State.handRemoval_handled (s : State) (r : Station) (byEvict : Bool) : s.Handled s.table (s.handRemoval r byEvict) := by
  have removed : s.sameMembership (s.memberRemoved r) := by simp [State.sameMembership]
  unfold State.handRemoval
  dsimp only
  split
  · split
    next active =>
      exact (State.Handled.moved (by simp) .joining (by rw [active]; rfl) rfl (.of_eq (State.selfEvict_member _))).preceded (.of_eq removed.2)
    · exact .detached (State.enterDetached_isDetached _)
    · exact .of_same removed
  · exact .of_same removed

theorem State.handOff_handled (s : State) (before : Table) (q : Station) (c : Change) : s.Handled s.table (s.handOff before q c) := by
  cases c with
  | cap v => exact .of_same (by simp [State.handOff, State.sameMembership])
  | evict target =>
    unfold State.handOff
    dsimp only
    split
    · exact s.handRemoval_handled _ _
    · exact .of_same s.sameMembership_refl
  | release a => exact .of_same s.sameMembership_refl
  | leave =>
    unfold State.handOff
    dsimp only
    split <;> split
    · exact .detached (State.enterDetached_isDetached _)
    · exact s.handRemoval_handled _ _
    · exact .detached (State.enterDetached_isDetached _)
    · exact .of_same s.sameMembership_refl
  | join =>
    have started : s.sameMembership (if !before.entries[q].member && decide (q ≠ s.address) then s.startSilence q else s) := by
      split <;> simp [State.sameMembership]
    unfold State.handOff
    dsimp only
    generalize (if !before.entries[q].member && decide (q ≠ s.address) then s.startSilence q else s) = v at started
    split
    next h => exact (State.Handled.moved (by simp [started.1]) .active (by rw [h.2]; rfl) rfl (.of_eq v.joined_member)).preceded (.of_eq started.2)
    next => exact .of_same started
  | freeze d => exact .of_same (by unfold State.handOff; dsimp only; split <;> simp [State.sameMembership])
  | thaw => exact .of_same (by unfold State.handOff; dsimp only; split <;> simp [State.sameMembership])
  | claim k u tag => exact .of_same (by unfold State.handOff; dsimp only; (repeat' split) <;> simp [State.sameMembership])

/-- An accepted frame is applied whole, but where its hand-offs take the node to DETACHED. -/
theorem State.applyFrame_handled (s : State) (q : Station) (c : Change) : s.Handled (s.table.apply q c) (s.applyFrame q c) := by
  unfold State.applyFrame
  dsimp only
  have handed := State.Handled.preceded (s := s)
    (State.handOff_handled ({ s with table := s.table.apply q c }.postTableEvents s.table q c) s.table q c) (.of_eq (by simp))
  rw [(State.postTableEvents_frame _ _ _ _).2.2.2.2.2.2.1] at handed
  split
  · exact handed.followed (by simp [State.sameMembership]) fun parked =>
      State.isDetached_of_same parked (by simp [State.sameMembership]) (by simp) (by simp)
  · exact handed

/-! ## The node's own frame and the failures counted -/

/-- In DETACHED the held cap setting has no item to move. -/
theorem State.takeHeldCap_isDetached {v : State} (h : v.isDetached) : v.takeHeldCap.isDetached := by
  have ⟨_, member, bus, _⟩ := h
  have bus_stays : v.takeHeldCap.bus = v.bus := by
    unfold State.takeHeldCap State.takeCap
    split
    · simp [bus, member, Bus.capBusy, Bus.contends, Bus.latched, Bus.stopped, Membership.cleared, Participation.inStep]
    · rfl
  exact State.isDetached_of_same h (by simp [State.sameMembership]) bus_stays (by simp)

theorem State.Handled.afterCap {s v : State} {T : Table} (h : s.Handled T v) (c : Change) : s.Handled T (v.afterCap c) := by
  refine h.followed (by simp [State.sameMembership]) fun parked => ?_
  unfold State.afterCap
  split
  · exact State.takeHeldCap_isDetached parked
  · exact parked

/-- The end of the node's own frame: applied where it is accepted, and the table kept where it is not. -/
theorem State.ownChange_handled (s : State) (c : Change) (slots : Slots) :
    s.Handled (s.table.apply s.address c) (s.ownChange c slots) ∨ s.Handled s.table (s.ownChange c slots) := by
  unfold State.ownChange
  dsimp only
  split
  · have applied := State.applyFrame_handled (((s.completeOwn c.kind).retire c.kind).toldAccepted c) s.address c
    exact .inl (by simpa using (applied.preceded (.of_eq (by simp))).afterCap c)
  · have left := State.outOfStep_handled (((s.completeOwn c.kind).retire c.kind).toldLost c) .objected
    exact .inr (by simpa using (left.preceded (.of_eq (by simp))).afterCap c)
  · split
    · exact .inr (.of_same (by simp [State.sameMembership]))
    · have left := State.outOfStep_handled (((s.completeOwn c.kind).retire c.kind).toldLost c) .unacknowledged
      exact .inr (by simpa using (left.preceded (.of_eq (by simp))).afterCap c)

theorem State.countFailure_handled (s : State) (k : FrameKind) : s.Handled s.table (s.countFailure k) := by
  unfold State.countFailure
  dsimp only
  split
  · exact .of_same ⟨rfl, rfl⟩
  · exact .detached (State.enterDetached_isDetached _)

theorem State.duplicate_handled (s : State) (k : FrameKind) : s.Handled s.table (s.duplicate k) :=
  (State.countFailure_handled (s.setLine .gap) k).preceded (.of_eq rfl)

/-! ## The end of a handling -/

/-- Where composition is not for the state, the end of a handling leaves bus and load records. -/
theorem State.settle_of_not_inStep {s : State} (h : s.member.participation.inStep = false) :
    s.settle.bus = s.bus ∧ s.settle.loads = s.loads := by
  have not_active : s.member.participation ≠ .active := fun active => by rw [active] at h; cases h
  have composed : s.compose.bus = s.bus ∧ s.compose.loads = s.loads := by
    unfold State.compose
    dsimp only
    split
    · simp
    · simp [State.mayCompose, not_active]
  simp [State.settle, State.standEvict, State.standThaw, State.standImage, h, composed]

theorem State.Handled.settled {s v : State} {T : Table} (h : s.Handled T v) : s.Handled T v.settle := by
  refine h.followed (by simp [State.sameMembership]) fun parked => ?_
  have ⟨bus, loads⟩ := State.settle_of_not_inStep (s := v) (by rw [parked.2.1]; rfl)
  exact State.isDetached_of_same parked (by simp [State.sameMembership]) bus (by rw [loads])

theorem State.undoLatch_sameSeeking (s : State) (body : FrameBody) : s.member.sameSeeking (s.undoLatch body).member := by
  unfold State.undoLatch
  split
  · refine .of_eq ?_
    split
    · split <;> simp
    · rfl
  · exact .of_eq (by simp)
  · exact .of_eq (by simp)
  · exact ⟨rfl, rfl, rfl, rfl, rfl, le_rfl⟩
  all_goals exact .refl _

theorem State.failTransmit_handled (s : State) : s.Handled s.table s.failTransmit := by
  unfold State.failTransmit
  split
  next k line =>
    have failed := State.countFailure_handled ((s.setLine .integrating).contentionOver k) k
    rw [show ((s.setLine .integrating).contentionOver k).table = s.table by simp] at failed
    exact (failed.preceded (.of_eq (by simp))).settled
  next body line =>
    let v := (s.setLine .integrating).keepItem body.kind ((s.setLine .integrating).bus.attempts body.kind)
    have failed := State.countFailure_handled (v.undoLatch body) body.kind
    rw [show (v.undoLatch body).table = s.table by simp [v]] at failed
    exact (failed.preceded (show s.member.sameSeeking _ from v.undoLatch_sameSeeking body)).settled
  all_goals exact .of_same s.sameMembership_refl

/-! ## Another node's frame -/

theorem State.received_sameSeeking (s : State) (k : FrameKind) (q : Station) : s.member.sameSeeking (s.received k q).member := by
  unfold State.received State.countFrame
  split
  · exact ⟨by simp, by simp, by simp, by simp, by simp, Nat.zero_le _⟩
  · exact .of_eq (by simp)

theorem State.received_handled (s : State) (k : FrameKind) (q : Station) : s.Handled s.table (s.received k q) :=
  .inPlace (by simp) (s.received_sameSeeking k q)

/-- The end of another node's state-changing frame at a node that does not seek. -/
theorem State.otherChange_handled (s : State) (q : Station) (b : Base) (c : Change) (slots : Slots)
    (h : s.member.participation ≠ .seeking) :
    s.Handled (s.table.apply q c) (s.otherChange q b c slots) ∨ s.Handled s.table (s.otherChange q b c slots) := by
  have heard := s.received_sameSeeking c.kind q
  have table : (s.received c.kind q).table = s.table := by simp
  unfold State.otherChange
  dsimp only
  split
  · split
    · have applied := State.applyFrame_handled (s.received c.kind q) q c
      exact .inl ((table ▸ applied).preceded heard)
    · split
      · have left := State.outOfStep_handled (s.received c.kind q) .objected
        exact .inr ((table ▸ left).preceded heard)
      · exact .inr (s.received_handled _ _)
  · rw [if_neg (heard.1 ▸ h)]
    exact .inr (s.received_handled _ _)

/-! ## Segments, SEEK and the latch -/

theorem State.advanceTrain_sameSeeking (s : State) (seg : Segment) : s.member.sameSeeking (s.advanceTrain seg).member := by
  unfold State.advanceTrain
  split
  · exact ⟨by simp, by simp, by simp, by simp, by simp, by simp⟩
  · split
    · exact ⟨by simp, by simp, by simp, by simp, by simp, by simp⟩
    · exact ⟨rfl, rfl, rfl, rfl, rfl, le_rfl⟩

theorem State.ownSegment_handled (s : State) (body : FrameBody) : s.Handled s.table (s.ownSegment body) := by
  unfold State.ownSegment
  dsimp only
  split
  next seg =>
    split
    · exact .inPlace (by simp) (by simpa using ((s.completeOwn .image).retire .image).advanceTrain_sameSeeking seg)
    · exact .of_same (by simp [State.sameMembership])
  · exact .of_same (by simp [State.sameMembership])

theorem State.noteSegmentZero_sameSeeking (s : State) : s.member.sameSeeking s.noteSegmentZero.member := by
  unfold State.noteSegmentZero
  dsimp only
  split
  · exact ⟨by simp, by simp, by simp, by simp, by simp, by simp⟩
  · exact ⟨rfl, rfl, rfl, rfl, rfl, le_rfl⟩

/-- Another node's segment at a node that does not seek. -/
theorem State.otherSegment_handled (s : State) (q : Station) (seg : Segment) (h : s.member.participation ≠ .seeking) :
    s.Handled s.table (s.otherSegment q seg) := by
  have heard := s.received_sameSeeking .image q
  unfold State.otherSegment
  dsimp only
  rw [if_neg (heard.1 ▸ h)]
  split
  · split
    · exact .inPlace (by simp) (heard.trans (State.noteSegmentZero_sameSeeking _))
    · exact s.received_handled _ _
  · exact s.received_handled _ _

theorem State.ownGroup_sameMembership (s : State) (body : FrameBody) : s.sameMembership (s.ownGroup body) := by
  unfold State.ownGroup
  dsimp only
  split <;> simp [State.sameMembership]

theorem State.latch_sameSeeking (s : State) (k : FrameKind) : s.member.sameSeeking (s.latch k).member := by
  unfold State.latch
  split
  · unfold State.toldLatched
    dsimp only
    split <;> exact ⟨by simp, by simp, by simp, by simp, by simp, by simp⟩
  · exact .refl _

end Sys2Proof.Machine
end

section
/-! SUPPORT. The tables stay sound (R2, R59): each operation that writes the table or a collected copy, then every row. -/

namespace Sys2Proof.Machine

/-! ## Operations -/

theorem State.tablesSound_of_same {s u : State} (h : s.tablesSound) (ht : u.table = s.table)
    (hc : u.member.collection = s.member.collection) : u.tablesSound := by
  unfold State.tablesSound
  rw [ht, hc]
  exact h

theorem State.tablesSound_of_no_copy {u : State} (h : entriesSound u.table.entries) (hc : u.member.collection = none) :
    u.tablesSound := ⟨h, fun c hu => by rw [hc] at hu; cases hu⟩

theorem State.sameMembership.tablesSound {s u : State} (hu : s.sameMembership u) (h : s.tablesSound) : u.tablesSound :=
  State.tablesSound_of_same h hu.1 (by rw [hu.2])

theorem State.settle_tablesSound {s : State} (h : s.tablesSound) : s.settle.tablesSound :=
  State.tablesSound_of_same h (by simp) (by simp)

/-- A handling leaves the table given and the copy as it was, or no copy. -/
theorem State.Handled.tablesSound {s u : State} {T : Table} (hu : s.Handled T u) (h : s.tablesSound) (hT : entriesSound T.entries) :
    u.tablesSound := by
  cases hu with
  | inPlace table member =>
    obtain ⟨-, -, -, -, collection, -⟩ := member
    exact ⟨table ▸ hT, collection ▸ h.2⟩
  | moved table p source target member =>
    obtain ⟨-, -, -, -, collection, -⟩ := member
    exact ⟨table ▸ hT, collection ▸ h.2⟩
  | outOfStep table was member => exact State.tablesSound_of_no_copy (table ▸ hT) (by rw [member]; rfl)
  | detached parked =>
    obtain ⟨table, member, -, -⟩ := parked
    exact State.tablesSound_of_no_copy (by rw [table]; exact entriesSound_replicate_absent) (by rw [member]; rfl)

theorem State.abandon_tablesSound {s : State} (h : s.tablesSound) (cause : AbandonCause) : (s.abandon cause).tablesSound :=
  State.tablesSound_of_no_copy (by simpa using h.1) (by rw [State.abandon_member])

theorem State.reportDiscard_tablesSound {s : State} (h : s.tablesSound) : s.reportDiscard.tablesSound := by
  unfold State.reportDiscard
  split
  · exact State.abandon_tablesSound h _
  · exact h

theorem State.record_tablesSound {s : State} (h : s.tablesSound) (r : ChangeRecord) : (s.record r).tablesSound := by
  unfold State.record
  (repeat' split)
  · exact h
  · exact h
  · exact h
  · exact State.abandon_tablesSound h _

theorem State.finishCollection_tablesSound {s : State} (h : s.tablesSound) {c : Collection} (hc : entriesSound c.entries) :
    (s.finishCollection c).tablesSound := by
  unfold State.finishCollection
  split
  · split
    next t rs replayed =>
      refine State.tablesSound_of_no_copy ?_ (by rw [State.install_member]; rfl)
      rw [State.install_table]
      exact replay_sound (t := c.table) hc replayed
    · exact State.abandon_tablesSound h _
  · exact State.abandon_tablesSound h _

theorem State.storeSegment_tablesSound {s : State} (h : s.tablesSound) {c : Collection} (hc : entriesSound c.entries) (i : Fin 8)
    (rows : Vector WireEntry 4) : (s.storeSegment c i rows).tablesSound := by
  have stored := storeRows_sound hc i rows
  unfold State.storeSegment
  dsimp only
  split
  · split
    · exact State.finishCollection_tablesSound h stored
    · exact ⟨h.1, fun c' hc' => Option.some.inj hc' ▸ stored⟩
  · exact State.abandon_tablesSound h _

theorem State.collect_tablesSound {s : State} (h : s.tablesSound) (q : Station) (seg : Segment) : (s.collect q seg).tablesSound := by
  unfold State.collect
  split
  next c collecting =>
    split
    · split
      · exact State.abandon_tablesSound h _
      · exact State.storeSegment_tablesSound h (h.2 c collecting) _ _
    · exact h
  · split
    · unfold State.startCollection
      split
      · exact ⟨h.1, fun c' hc' => Option.some.inj hc' ▸ entriesSound_replicate_absent⟩
      · exact h
    · exact h

theorem State.endSeekWait_tablesSound {s : State} (h : s.tablesSound) : s.endSeekWait.tablesSound := by
  unfold State.endSeekWait
  dsimp only
  (repeat' split)
  · exact h
  · exact State.tablesSound_of_same h (by simp) (by simp)
  · refine State.settle_tablesSound (State.tablesSound_of_no_copy ?_ (by simp [Membership.cleared]))
    rw [State.found_table]
    exact State.foundedTable_sound _

/-! ## Ends of frames -/

theorem State.changeEnd_tablesSound {s : State} (h : s.tablesSound) (q : Station) (b : Base) (c : Change) (slots : Slots) :
    (s.changeEnd q b c slots).tablesSound := by
  have heard := State.received_sameSeeking s c.kind q
  refine State.frameEnd_keeps h (fun body _ => State.settle_tablesSound ?_)
    (fun _ => (s.duplicate_handled c.kind).tablesSound h h.1) (fun _ _ => State.settle_tablesSound ?_)
  · split
    next latched _ =>
      rcases s.ownChange_handled latched slots with applied | kept
      · exact applied.tablesSound h (Table.apply_sound h.1 _ _)
      · exact kept.tablesSound h h.1
    · exact h
  · by_cases seeking : s.member.participation = .seeking
    · unfold State.otherChange
      dsimp only
      rw [heard.1, seeking, if_neg (by simp [Participation.inStep]), if_pos rfl]
      have received := (s.received_handled c.kind q).tablesSound h h.1
      split
      · exact received
      · exact State.record_tablesSound received _
    · rcases s.otherChange_handled q b c slots seeking with applied | kept
      · exact applied.tablesSound h (Table.apply_sound h.1 _ _)
      · exact kept.tablesSound h h.1

theorem State.otherSegment_tablesSound {s : State} (h : s.tablesSound) (q : Station) (seg : Segment) :
    (s.otherSegment q seg).tablesSound := by
  by_cases seeking : s.member.participation = .seeking
  · have received := (s.received_handled .image q).tablesSound h h.1
    unfold State.otherSegment
    dsimp only
    split
    · exact State.collect_tablesSound received q seg
    next not_seeking => exact absurd ((s.received_sameSeeking .image q).1.trans seeking) not_seeking
  · exact (s.otherSegment_handled q seg seeking).tablesSound h h.1

theorem State.ownSeek_tablesSound {s : State} (h : s.tablesSound) : s.ownSeek.tablesSound := by
  unfold State.ownSeek
  dsimp only
  split <;> exact State.tablesSound_of_same h (by simp) (by simp)

/-! ## Rows and steps -/

/-- A reset empties the table and ends a collection (R160, R161). -/
theorem State.resetBlocks_tablesSound (s : State) (enables : BitVec 18) (cause : ResetCause) :
    (s.resetBlocks enables cause).tablesSound :=
  State.tablesSound_of_no_copy (by simp [State.resetBlocks, Table.empty, entriesSound_replicate_absent])
    (by simp [State.resetBlocks, Membership.cleared])

theorem State.detachCommand_tablesSound {s : State} (h : s.tablesSound) : s.detachCommand.tablesSound := by
  have detached (u : State) : u.enterDetached.tablesSound :=
    State.tablesSound_of_no_copy (by simp [Table.empty, entriesSound_replicate_absent]) (by simp [Membership.cleared])
  unfold State.detachCommand
  split
  · exact h
  · exact h
  · exact detached _
  · exact detached _
  · refine State.settle_tablesSound ?_
    unfold State.enterLeaving
    dsimp only
    split <;> exact State.tablesSound_of_same h (by simp) (by simp)
  · exact h

/-- START and REJOIN keep the table and begin with no collection (R48, R70). -/
theorem State.startNode_tablesSound {s : State} (h : s.tablesSound) : s.startNode.tablesSound := by
  have want (u : State) (x : LoadIx) : u.sameMembership (u.wantAsserted x) := by
    unfold State.wantAsserted; split <;> simp [State.sameMembership]
  have table := foldl_keeps State.wantAsserted State.table (fun u x => (want u x).1) allLoads
  have member := foldl_keeps State.wantAsserted State.member (fun u x => (want u x).2) allLoads
  refine State.tablesSound_of_no_copy ?_ ?_
  · simpa [State.startNode, table] using h.1
  · simp [State.startNode, member, Membership.cleared]

theorem exec_tablesSound {s : State} (h : s.tablesSound) (c : Instr) (t : State) (he : exec c s = .next t) : t.tablesSound := by
  refine exec_keeps_of_rows (fun c t hc he => ?_) (fun p => h) c t he
  cases c with
  | powerOnReset straps =>
    obtain rfl := Host.Outcome.next.inj he
    dsimp only
    split
    · exact h
    · exact State.resetBlocks_tablesSound _ _ _
  | rstnReleased =>
    obtain rfl := Host.Outcome.next.inj he
    (repeat' split)
    · exact State.resetBlocks_tablesSound _ _ _
    · exact State.resetBlocks_tablesSound _ _ _
    · exact h
    · exact h
  | start arg =>
    obtain rfl := Host.Outcome.next.inj he
    refine State.whenRunning_keeps h fun _ => ?_
    unfold State.startCommand
    (repeat' split)
    · exact h
    · exact State.startNode_tablesSound h
    · exact h
  | detach arg =>
    obtain rfl := Host.Outcome.next.inj he
    exact State.whenRunning_keeps h fun _ => State.detachCommand_tablesSound h
  | rejoin arg =>
    obtain rfl := Host.Outcome.next.inj he
    refine State.whenRunning_keeps h fun _ => ?_
    unfold State.rejoinCommand
    split
    · exact State.tablesSound_of_no_copy (by simpa using h.1) (by simp [Membership.cleared])
    · exact h
  | resetStation arg =>
    obtain rfl := Host.Outcome.next.inj he
    exact State.whenRunning_keeps h fun _ => State.resetBlocks_tablesSound _ _ _
  | itemLatch =>
    obtain rfl := Host.Outcome.next.inj he
    refine State.whenRunning_keeps h fun _ => ?_
    split
    next k _ =>
      obtain ⟨-, -, -, -, collection, -⟩ := s.latch_sameSeeking k
      exact State.tablesSound_of_same h (by simp) collection
    all_goals exact h
  | transmitFailure =>
    obtain rfl := Host.Outcome.next.inj he
    exact State.whenRunning_keeps h fun _ => s.failTransmit_handled.tablesSound h h.1
  | frameDiscarded why =>
    obtain rfl := Host.Outcome.next.inj he
    refine State.whenRunning_keeps h fun _ => ?_
    split
    · exact State.reportDiscard_tablesSound (s := s.setLine (lineAfterDiscard why)) h
    · exact h
  | capFrame q b v slots | evictFrame q b v slots | releaseFrame q b v slots | leaveFrame q b slots | freezeFrame q b v slots
  | thawFrame q b slots | joinFrame q b slots | claimFrame q b k u tag slots =>
    obtain rfl := Host.Outcome.next.inj he
    exact State.whenRunning_keeps h fun _ => State.changeEnd_tablesSound h _ _ _ _
  | aliveFrame q =>
    obtain rfl := Host.Outcome.next.inj he
    exact State.whenRunning_keeps h fun _ => State.frameEnd_keeps h
      (fun _ _ => State.settle_tablesSound (State.tablesSound_of_same h (by simp) (by simp)))
      (fun _ => (s.duplicate_handled .alive).tablesSound h h.1)
      (fun _ _ => State.settle_tablesSound ((s.received_handled .alive q).tablesSound h h.1))
  | seekFrame q =>
    obtain rfl := Host.Outcome.next.inj he
    have received := (s.received_handled .seek q).tablesSound h h.1
    refine State.whenRunning_keeps h fun _ => State.frameEnd_keeps h
      (fun _ _ => State.settle_tablesSound (State.ownSeek_tablesSound h))
      (fun _ => (s.duplicate_handled .seek).tablesSound h h.1) (fun _ _ => State.settle_tablesSound ?_)
    dsimp only
    split
    · exact State.tablesSound_of_same received rfl rfl
    · exact received
  | imageFrame q seg =>
    obtain rfl := Host.Outcome.next.inj he
    exact State.whenRunning_keeps h fun _ => State.frameEnd_keeps h
      (fun body _ => State.settle_tablesSound ((s.ownSegment_handled body).tablesSound h h.1))
      (fun _ => (s.duplicate_handled .image).tablesSound h h.1)
      (fun _ _ => State.settle_tablesSound (State.otherSegment_tablesSound h q seg))
  | groupFrame q code =>
    obtain rfl := Host.Outcome.next.inj he
    exact State.whenRunning_keeps h fun _ => State.frameEnd_keeps h
      (fun body _ => State.settle_tablesSound ((s.ownGroup_sameMembership body).tablesSound h))
      (fun _ => (s.duplicate_handled .group).tablesSound h h.1)
      (fun _ _ => State.settle_tablesSound
        (State.tablesSound_of_same ((s.received_handled .group q).tablesSound h h.1) (by simp) (by simp)))
  | seekWaitExpiry =>
    obtain rfl := Host.Outcome.next.inj he
    refine State.whenRunning_keeps h fun _ => State.takeRow_keeps h ?_
    split
    · exact State.endSeekWait_tablesSound (s := s.taken .seekWaitExpiry) h
    · exact h
  | imageGapExpiry =>
    obtain rfl := Host.Outcome.next.inj he
    refine State.whenRunning_keeps h fun _ => State.takeRow_keeps h ?_
    split
    · exact State.abandon_tablesSound (s := s.taken .imageGapExpiry) h _
    · exact h
  | registerWrite a v => exact absurd rfl (hc a v)
  | _ => exact (exec_sameMembership rfl he).tablesSound h

/-- Settles O57: a millisecond passes over the tables, and every row keeps them. -/
theorem tablesStaySound : Obligations.TablesStaySound := by
  unfold Obligations.TablesStaySound
  intro s t h step_eq
  unfold step at step_eq
  split at step_eq
  · obtain rfl := Host.Outcome.next.inj step_eq
    exact State.whenRunning_keeps h fun _ => h
  next c rest _ => exact exec_tablesSound (s := { s with pending := rest }) h c t step_eq

end Sys2Proof.Machine
end

section
/-! SUPPORT. A parked node, in SETUP or DETACHED (R8, R23, R69): what the rows that it takes leave of table, send list, line and outputs. -/

namespace Sys2Proof.Machine

/-! ## Parked -/

/-- Off the line with everything empty and every output off. -/
def State.parked (u : State) : Prop :=
  u.member.participation.onLine = false ∧ u.table = .empty ∧ u.bus.items = [] ∧ u.bus.codes = [] ∧ u.bus.line = .off
    ∧ ∀ x : LoadIx, (u.load x).state.energized = false

theorem State.parked_of_parkedSound {s : State} (h : s.parkedSound) (off_line : s.member.participation.onLine = false) : s.parked :=
  ⟨off_line, h off_line⟩

theorem State.parked.parkedSound {s : State} (h : s.parked) : s.parkedSound := fun _ => h.2

theorem State.parkedSound_of_onLine {s : State} (h : s.member.participation.onLine = true) : s.parkedSound :=
  fun off_line => absurd (h.symm.trans off_line) (by decide)

theorem State.parked_of_same {s u : State} (h : s.parked) (hu : s.sameMembership u) (hb : u.bus = s.bus)
    (hl : u.loads.records = s.loads.records) : u.parked := by
  obtain ⟨off_line, table, items, codes, line, outputs⟩ := h
  refine ⟨hu.2 ▸ off_line, hu.1.trans table, hb ▸ items, hb ▸ codes, hb ▸ line, fun x => ?_⟩
  rw [State.load, hl]
  exact outputs x

theorem Participation.not_allows_of_off_line {p : Participation} (h : p.onLine = false) (k : FrameKind) : p.allows k = false := by
  cases p with
  | setup | detached => rfl
  | seeking | joining | active | leaving => cases h

theorem Participation.not_inStep_of_off_line {p : Participation} (h : p.onLine = false) : p.inStep = false := by
  cases p with
  | setup | detached => rfl
  | seeking | joining | active | leaving => cases h

theorem Participation.ne_active_of_off_line {p : Participation} (h : p.onLine = false) : p ≠ .active := by
  rintro rfl
  cases h

/-! ## Operations on a parked node -/

theorem State.parked.send {s : State} (h : s.parked) (k : FrameKind) : (s.send k).parked := by
  rw [s.send_of_not_allowed k (Participation.not_allows_of_off_line h.1 k)]
  exact h

theorem State.parked.withdrawItem {s : State} (h : s.parked) (k : FrameKind) : (s.withdrawItem k).parked := by
  obtain ⟨off_line, table, items, codes, line, outputs⟩ := h
  have bus_eq : (s.withdrawItem k).bus = s.bus := by
    simp only [State.withdrawItem, Bus.contends, Bus.latched, line, Bool.false_eq_true, if_false, State.dropItem_bus, Bus.drop, items,
      List.filter_nil]
    rw [← items, ← line]
  exact State.parked_of_same ⟨off_line, table, items, codes, line, outputs⟩ (by simp [State.sameMembership]) bus_eq (by simp)

theorem State.parked.settle {s : State} (h : s.parked) : s.settle.parked := by
  have ⟨bus, loads⟩ := State.settle_of_not_inStep (Participation.not_inStep_of_off_line h.1)
  exact State.parked_of_same h (by simp [State.sameMembership]) bus (by rw [loads])

/-- A load record whose state is not energized may be put in place of any. -/
theorem State.parked.setLoad {s : State} (h : s.parked) (x : LoadIx) {r : LoadRecord} (hr : r.state.energized = false) :
    (s.setLoad x r).parked := by
  obtain ⟨off_line, table, items, codes, line, outputs⟩ := h
  refine ⟨off_line, table, items, codes, line, fun y => ?_⟩
  rw [State.load_setLoad]
  split
  · exact hr
  · exact outputs y

theorem State.parked.state_cases {s : State} (h : s.parked) (x : LoadIx) :
    (s.load x).state = .off ∨ (s.load x).state = .waiting ∨ (s.load x).state = .claiming ∨ (s.load x).state = .fault := by
  have ⟨_, _, _, _, _, outputs⟩ := h
  have output := outputs x
  cases hx : (s.load x).state with
  | off | waiting | claiming | fault => simp
  | ramping | on | keep | raiseWait | raiseClaim => rw [hx] at output; cases output

theorem State.parked.occupied_eq_zero {s : State} (h : s.parked) (x : LoadIx) : s.occupied x = 0 := by
  unfold State.occupied
  rcases h.state_cases x with hx | hx | hx | hx <;> rw [hx] <;> rfl

theorem State.parked.enqueue {s : State} (h : s.parked) (x : LoadIx) : (s.enqueue x).parked :=
  State.parked_of_same h ⟨rfl, rfl⟩ rfl rfl

theorem State.parked.enterQueue {s : State} (h : s.parked) (x : LoadIx) : (s.enterQueue x).parked := by
  unfold State.enterQueue
  split
  · exact (h.setLoad x (r := { s.load x with state := .waiting }) rfl).enqueue x
  · exact h

theorem State.parked.endClaim {s : State} (h : s.parked) (x : LoadIx) : (s.endClaim x).parked := by
  have slot (u : State) (hu : u.parked) (c : Option ClaimSlot) : (u.setSlot c).parked := State.parked_of_same hu ⟨rfl, rfl⟩ rfl rfl
  unfold State.endClaim
  (repeat' split)
  · exact slot _ h _
  · exact h.withdrawItem _
  · exact slot _ (h.withdrawItem _) _
  · exact h
  · exact h

theorem State.parked.dropLoad {s : State} (h : s.parked) (x : LoadIx) {target : LoadState} (ht : target.energized = false) :
    (s.dropLoad x target).parked := by
  have left : (((s.setLoad x { s.load x with state := target, ramp := none }).ungrant x).dequeue x).parked :=
    State.parked_of_same (h.setLoad x (r := { s.load x with state := target, ramp := none }) ht) ⟨rfl, rfl⟩ rfl rfl
  unfold State.dropLoad
  dsimp only
  rw [h.occupied_eq_zero, State.freeUnits, if_pos rfl]
  split
  · exact left.endClaim x
  · exact left

theorem State.parked.turnOff {s : State} (h : s.parked) (x : LoadIx) : (s.turnOff x).parked := by
  unfold State.turnOff
  split
  · exact h
  · exact h
  · exact h.dropLoad x rfl

theorem State.parked.wishKeep {s : State} (h : s.parked) (x : LoadIx) : (s.wishKeep x).parked := by
  have wished : (s.setLoad x { s.load x with wish := .keep }).parked := h.setLoad x (h.2.2.2.2.2 x)
  unfold State.wishKeep
  split
  · exact h
  · dsimp only
    rw [State.load_setLoad_self]
    rcases h.state_cases x with hx | hx | hx | hx <;> simp only [hx] <;> exact hx ▸ wished

theorem State.parked.wishFull {s : State} (h : s.parked) (x : LoadIx) : (s.wishFull x).parked := by
  have wished : (s.setLoad x { s.load x with wish := .full }).parked := h.setLoad x (h.2.2.2.2.2 x)
  unfold State.wishFull
  split
  · exact h
  · unfold State.raiseFromKeep
    split
    next keep => rcases wished.state_cases x with hx | hx | hx | hx <;> rw [hx] at keep <;> cases keep
    · exact wished

theorem State.parked.wantLoad {s : State} (h : s.parked) (x : LoadIx) : (s.wantLoad x).parked := by
  have full := h.wishFull x
  unfold State.wantLoad
  dsimp only
  split
  · exact full
  · exact (full.setLoad x (r := { (s.wishFull x).load x with wanted := true }) (full.2.2.2.2.2 x)).enterQueue x

theorem State.parked.unwantLoad {s : State} (h : s.parked) (x : LoadIx) : (s.unwantLoad x).parked := by
  unfold State.unwantLoad
  split
  · exact (h.setLoad x (r := { s.load x with wanted := false }) (h.2.2.2.2.2 x)).turnOff x
  · exact h

theorem State.parked.inhibitLoad {s : State} (h : s.parked) (x : LoadIx) : (s.inhibitLoad x).parked := by
  unfold State.inhibitLoad
  split
  · exact h
  · exact (h.setLoad x (r := { s.load x with inhibited := true }) (h.2.2.2.2.2 x)).turnOff x

theorem State.parked.permitLoad {s : State} (h : s.parked) (x : LoadIx) : (s.permitLoad x).parked := by
  unfold State.permitLoad
  split
  · exact (h.setLoad x (r := { s.load x with inhibited := false }) (h.2.2.2.2.2 x)).enterQueue x
  · exact h

theorem State.parked.clearFaultLoad {s : State} (h : s.parked) (x : LoadIx) : (s.clearFaultLoad x).parked :=
  (h.setLoad x (r := { s.load x with state := .off, cause := .none }) rfl).enterQueue x

theorem State.parked.wishLevel {s : State} (h : s.parked) (x : LoadIx) (l : Level) : (s.wishLevel x l).parked := by
  cases l with
  | full => exact h.wishFull x
  | keep => exact h.wishKeep x

theorem State.parked.takeCap {s : State} (h : s.parked) (v : Word16) : (s.takeCap v).parked := by
  unfold State.takeCap
  rw [Participation.not_inStep_of_off_line h.1]
  split
  · exact State.parked_of_same h ⟨rfl, rfl⟩ rfl rfl
  · exact State.parked_of_same h ⟨rfl, rfl⟩ rfl rfl

theorem State.parked.standEvict {s : State} (h : s.parked) : s.standEvict.parked := by
  rw [State.standEvict, Participation.not_inStep_of_off_line h.1]
  exact h

theorem State.parked.standThaw {s : State} (h : s.parked) : s.standThaw.parked := by
  rw [State.standThaw, Participation.not_inStep_of_off_line h.1]
  exact h

/-- No state with its output on is the state of a load. -/
theorem State.parked.not_energized {s : State} (h : s.parked) (x : LoadIx) {l : LoadState} (hl : l.energized = true) :
    (s.load x).state ≠ l := by
  rintro rfl
  exact absurd (hl.symm.trans (h.2.2.2.2.2 x)) (by decide)

/-- A dropout is acted on in states with the output on alone (R99). -/
theorem State.parked.rdyDropped {s : State} (h : s.parked) (x : LoadIx) : (s.rdyDropped x).parked := by
  unfold State.rdyDropped
  split
  next checked =>
    have not_checked := checked.2
    rcases h.state_cases x with hx | hx | hx | hx <;> rw [hx] at not_checked <;> cases not_checked
  · exact h

/-! ## Rows at a parked node -/

theorem State.parked.port {s : State} (h : s.parked) (p : Port) : { s with port := p }.parked :=
  State.parked_of_same h ⟨rfl, rfl⟩ rfl rfl

theorem State.parked.taken {s : State} (h : s.parked) (row : Instr) : (s.taken row).parked :=
  State.parked_of_same h ⟨rfl, rfl⟩ rfl rfl

theorem State.parked.loadCommand {s : State} (h : s.parked) (code arg : Byte) {f : LoadIx → State → State}
    (hf : ∀ (u : State) (x : LoadIx), u.parked → (f x u).parked) :
    (s.whenRunning fun s => (s.storeCommand code arg).loadCommand arg f).parked :=
  State.whenRunning_keeps h fun _ => State.loadCommand_keeps (fun _ => h.port _) fun x _ => hf _ x (h.port _)

theorem State.parked.softOnly {s : State} (h : s.parked) (x : LoadIx) {f : State → State} (hf : (f s).parked) :
    (s.softOnly x f).parked := by
  unfold State.softOnly
  split
  · exact h.port _
  · exact hf

theorem State.parked.writeSetting {s : State} (h : s.parked) (v : Word16) : (s.writeSetting v).parked := by
  have recheck (u : State) (x : LoadIx) : (u.recheckReq x).bus = u.bus ∧ (u.recheckReq x).loads.records = u.loads.records := by
    unfold State.recheckReq; dsimp only; split <;> exact ⟨rfl, rfl⟩
  have bus := foldl_keeps State.recheckReq State.bus (fun u x => (recheck u x).1) allLoads
  have records := foldl_keeps State.recheckReq (fun u => u.loads.records) (fun u x => (recheck u x).2) allLoads
  refine State.parked_of_same h (s.writeSetting_frame v) ?_ ?_
  · unfold State.writeSetting; (repeat' split) <;> simp [bus]
  · unfold State.writeSetting; (repeat' split) <;> simp [records]

theorem exec_parked {c : Instr} {s t : State} (hc : leavesMembership c = true) (h : s.parked) (he : exec c s = .next t) :
    t.parked := by
  have ⟨off_line, _, _, _, line, _⟩ := h
  have not_inStep := Participation.not_inStep_of_off_line off_line
  cases c with
  | powerOnResetBegin =>
    obtain rfl := Host.Outcome.next.inj he
    exact ⟨h.1, h.2.1, rfl, rfl, rfl, h.2.2.2.2.2⟩
  | rstnAsserted =>
    obtain rfl := Host.Outcome.next.inj he
    split
    · exact h
    · exact ⟨h.1, h.2.1, rfl, rfl, rfl, h.2.2.2.2.2⟩
  | request arg =>
    obtain rfl := Host.Outcome.next.inj he
    exact h.loadCommand _ _ fun u x hu => hu.softOnly x ((hu.port _).wantLoad x).settle
  | withdraw arg =>
    obtain rfl := Host.Outcome.next.inj he
    exact h.loadCommand _ _ fun u x hu => hu.softOnly x ((hu.port _).unwantLoad x).settle
  | setLevel arg =>
    obtain rfl := Host.Outcome.next.inj he
    refine h.loadCommand _ _ fun u x hu => ?_
    split
    · exact ((hu.port _).wishLevel x _).settle
    · exact hu.port _
  | inhibit arg =>
    obtain rfl := Host.Outcome.next.inj he
    exact h.loadCommand _ _ fun u x hu => ((hu.port _).inhibitLoad x).settle
  | permit arg =>
    obtain rfl := Host.Outcome.next.inj he
    exact h.loadCommand _ _ fun u x hu => ((hu.port _).permitLoad x).settle
  | clearFault arg =>
    obtain rfl := Host.Outcome.next.inj he
    refine h.loadCommand _ _ fun u x hu => ?_
    split
    · exact ((hu.port _).clearFaultLoad x).settle
    · exact hu.port _
  | sendGroup arg =>
    obtain rfl := Host.Outcome.next.inj he
    refine State.whenRunning_keeps h fun _ => ?_
    dsimp only
    split
    next => exact h.port _
    next on_line => exact absurd off_line (by simpa using on_line)
  | setCap arg | freeze arg =>
    obtain rfl := Host.Outcome.next.inj he
    refine State.whenRunning_keeps h fun _ => ?_
    dsimp only
    split
    next active => exact absurd active (Participation.ne_active_of_off_line off_line)
    next => exact h.port _
  | unassignedCommand code arg =>
    obtain rfl := Host.Outcome.next.inj he
    exact State.whenRunning_keeps h fun _ => h.port _
  | statusWrite v =>
    obtain rfl := Host.Outcome.next.inj he
    refine State.whenRunning_keeps h fun _ => ?_
    unfold State.writeStatus
    split
    · exact h.port _
    · exact h
  | eventARead e =>
    obtain rfl := Host.Outcome.next.inj he
    refine State.whenRunning_keeps h fun _ => ?_
    (repeat' split)
    · exact h
    · exact h.port _
    · exact h
  | settingDataWrite v =>
    obtain rfl := Host.Outcome.next.inj he
    exact State.whenRunning_keeps h fun _ => h.writeSetting v
  | contention | arbitrationLost | ackObjSlotDrive | lineError | integrationComplete =>
    obtain rfl := Host.Outcome.next.inj he
    exact State.whenRunning_keeps h fun _ => by simpa [line, Line.free] using h
  | fairGapExpiry =>
    obtain rfl := Host.Outcome.next.inj he
    exact State.whenRunning_keeps h fun _ => State.takeRow_keeps (h.taken _) h
  | silenceTimerExpiry q =>
    obtain rfl := Host.Outcome.next.inj he
    refine State.whenRunning_keeps h fun _ => State.takeRow_keeps (h.taken _) ?_
    split
    · exact State.parked.standEvict (State.parked_of_same h ⟨rfl, rfl⟩ rfl rfl)
    · exact h.taken _
  | quietTimerExpiry =>
    obtain rfl := Host.Outcome.next.inj he
    refine State.whenRunning_keeps h fun _ => State.takeRow_keeps (h.taken _) ?_
    split
    · refine State.parked.send ?_ _
      exact State.parked_of_same h ⟨rfl, rfl⟩ rfl rfl
    · exact h.taken _
  | rampTimerExpiry x =>
    obtain rfl := Host.Outcome.next.inj he
    refine State.whenRunning_keeps h fun _ => State.takeRow_keeps (h.taken _) ?_
    rw [if_neg ((h.taken _).not_energized x rfl)]
    exact h.taken _
  | freezeTimerExpiry =>
    obtain rfl := Host.Outcome.next.inj he
    refine State.whenRunning_keeps h fun _ => State.takeRow_keeps (h.taken _) ?_
    split
    · exact State.parked.standThaw (State.parked_of_same h ⟨rfl, rfl⟩ rfl rfl)
    · exact h.taken _
  | reqDebouncedChange x b =>
    obtain rfl := Host.Outcome.next.inj he
    refine State.whenRunning_keeps h fun _ => State.takeRow_keeps (h.taken _) ?_
    have changed : ((s.taken (.reqDebouncedChange x b)).setReq x b).parked := State.parked_of_same h ⟨rfl, rfl⟩ rfl rfl
    unfold State.reqChanged
    (repeat' split)
    · exact h.taken _
    · exact (changed.wantLoad x).settle
    · exact (changed.unwantLoad x).settle
    · exact changed
  | rdyDebouncedChange x b =>
    obtain rfl := Host.Outcome.next.inj he
    refine State.whenRunning_keeps h fun _ => State.takeRow_keeps (h.taken _) ?_
    have changed : ((s.taken (.rdyDebouncedChange x b)).setRdy x b).parked := State.parked_of_same h ⟨rfl, rfl⟩ rfl rfl
    (repeat' split)
    · exact h.taken _
    · exact changed
    · exact changed.rdyDropped x
  | limitDebouncedChange b =>
    obtain rfl := Host.Outcome.next.inj he
    refine State.whenRunning_keeps h fun _ => State.takeRow_keeps (h.taken _) ?_
    have changed : ((s.taken (.limitDebouncedChange b)).setLimit b).parked := State.parked_of_same h ⟨rfl, rfl⟩ rfl rfl
    unfold State.limitChanged
    (repeat' split)
    · exact h.taken _
    · exact changed.takeCap _
    · exact changed.takeCap _
    · exact changed
  | trgDebouncedAssertion i =>
    obtain rfl := Host.Outcome.next.inj he
    refine State.whenRunning_keeps h fun _ => State.takeRow_keeps (h.taken _) ?_
    have changed : ((s.taken (.trgDebouncedAssertion i)).setTrg i true).parked := State.parked_of_same h ⟨rfl, rfl⟩ rfl rfl
    unfold State.triggered
    rw [if_neg fun on_line => absurd (on_line.2.symm.trans off_line) (by decide)]
    exact changed
  | _ => cases hc

end Sys2Proof.Machine
end

section
/-! SUPPORT. What belongs to seeking is found in SEEKING alone (R49, R51, R57, R58), and a node off the line stays parked. -/

namespace Sys2Proof.Machine

/-! ## The Membership Controller -/

theorem Membership.cleared_sound (p : Participation) (was : Bool) : { Membership.cleared p with wasMember := was }.sound :=
  ⟨Nat.zero_le _, Nat.zero_le _, fun _ => ⟨rfl, rfl, rfl, rfl⟩⟩

theorem Membership.sameSeeking.sound {m m' : Membership} (h : m.sameSeeking m') (hm : m.sound) : m'.sound := by
  obtain ⟨participation, changes, recording, wait, collection, count⟩ := h
  obtain ⟨changes_le, count_le, elsewhere⟩ := hm
  refine ⟨changes ▸ changes_le, count.trans count_le, fun not_seeking => ?_⟩
  rw [changes, recording, wait, collection]
  exact elsewhere (participation ▸ not_seeking)

/-- A node that does not seek has nothing of seeking to leave behind when its participation state changes. -/
theorem Membership.sound.withParticipation {m : Membership} (h : m.sound) (hm : m.participation ≠ .seeking) (p : Participation) :
    { m with participation := p }.sound := by
  obtain ⟨changes_le, count_le, elsewhere⟩ := h
  exact ⟨changes_le, count_le, fun _ => elsewhere hm⟩

theorem Participation.onLine_of_inStep {p : Participation} (h : p.inStep = true) : p.onLine = true ∧ p ≠ .seeking := by
  cases p with
  | joining | active | leaving => exact ⟨rfl, by decide⟩
  | setup | seeking | detached => cases h

/-- The two properties that O58 states together. -/
def State.placeSound (s : State) : Prop := s.member.sound ∧ s.parkedSound

theorem State.placeSound_of_onLine {s : State} (hs : s.member.sound) (on_line : s.member.participation.onLine = true) :
    s.placeSound := ⟨hs, State.parkedSound_of_onLine on_line⟩

theorem State.isDetached.placeSound {s : State} (h : s.isDetached) : s.placeSound := by
  obtain ⟨table, member, bus, outputs⟩ := h
  refine ⟨member ▸ Membership.cleared_sound .detached false, fun _ => ⟨table, ?_, ?_, ?_, outputs⟩⟩ <;> rw [bus] <;> rfl

/-- A handling of a node on the line leaves it on the line, or parked in DETACHED. -/
theorem State.Handled.placeSound {s u : State} {T : Table} (hu : s.Handled T u) (hs : s.member.sound)
    (on_line : s.member.participation.onLine = true) : u.placeSound := by
  cases hu with
  | inPlace table member => exact State.placeSound_of_onLine (member.sound hs) (member.1 ▸ on_line)
  | moved table p source target member =>
    have moved := hs.withParticipation (Participation.onLine_of_inStep source).2 p
    exact State.placeSound_of_onLine (member.sound moved) (member.1 ▸ (Participation.onLine_of_inStep target).1)
  | outOfStep table was member =>
    exact State.placeSound_of_onLine (member ▸ Membership.cleared_sound .seeking was) (by rw [member]; rfl)
  | detached parked => exact parked.placeSound

/-! ## Seeking -/

/-- A node that seeks has to keep the two bounds alone. -/
theorem State.placeSound_of_seeking {s : State} (h : s.member.participation = .seeking)
    (changes : s.member.changes.length ≤ Config.maxChanges) (count : s.member.seekCount ≤ Config.seekAttempts) : s.placeSound :=
  State.placeSound_of_onLine ⟨changes, count, fun not_seeking => absurd h not_seeking⟩ (by rw [h]; rfl)

theorem State.abandon_placeSound {s : State} (h : s.member.participation = .seeking) (hs : s.member.sound) (cause : AbandonCause) :
    (s.abandon cause).placeSound :=
  State.placeSound_of_seeking (by rw [State.abandon_member]; exact h) (by rw [State.abandon_member]; exact Nat.zero_le _)
    (by rw [State.abandon_member]; exact hs.2.1)

theorem State.record_placeSound {s : State} (h : s.member.participation = .seeking) (hs : s.member.sound) (r : ChangeRecord) :
    (s.record r).placeSound := by
  have ⟨changes, count, _⟩ := hs
  unfold State.record
  split
  · exact State.placeSound_of_seeking h changes count
  split
  · exact State.placeSound_of_seeking h (by simpa using changes) count
  split
  next room => exact State.placeSound_of_seeking h (by simpa using room) count
  · exact State.abandon_placeSound h hs _

theorem State.install_placeSound (s : State) (header : ImageHeader) (t : Table) (rs : List Replayed) :
    (s.install header t rs).placeSound := by
  have member := s.install_member header t rs
  refine State.placeSound_of_onLine (member ▸ Membership.cleared_sound _ _) ?_
  rw [member]
  change Participation.onLine (if t.entries[s.address].member = true then .active else .joining) = true
  split <;> rfl

theorem State.finishCollection_placeSound {s : State} (h : s.member.participation = .seeking) (hs : s.member.sound) (c : Collection) :
    (s.finishCollection c).placeSound := by
  unfold State.finishCollection
  split
  · split
    · exact s.install_placeSound _ _ _
    · exact State.abandon_placeSound h hs _
  · exact State.abandon_placeSound h hs _

theorem State.collect_placeSound {s : State} (h : s.member.participation = .seeking) (hs : s.member.sound) (q : Station)
    (seg : Segment) : (s.collect q seg).placeSound := by
  have ⟨changes, count, _⟩ := hs
  unfold State.collect State.storeSegment State.startCollection
  dsimp only
  (repeat' split)
  · exact State.abandon_placeSound h hs _
  · exact State.finishCollection_placeSound h hs _
  · exact State.placeSound_of_seeking h changes count
  · exact State.abandon_placeSound h hs _
  · exact State.placeSound_of_seeking h changes count
  · exact State.placeSound_of_seeking h changes count
  · exact State.placeSound_of_seeking h changes count
  · exact State.placeSound_of_seeking h changes count

theorem State.settle_placeSound {s : State} (h : s.placeSound) : s.settle.placeSound := by
  obtain ⟨hs, parked⟩ := h
  cases on_line : s.member.participation.onLine with
  | true => exact State.placeSound_of_onLine (by simpa using hs) (by simpa using on_line)
  | false => exact ⟨by simpa using hs, (State.parked_of_parkedSound parked on_line).settle.parkedSound⟩

theorem State.endSeekWait_placeSound {s : State} (hs : s.member.sound) (on_line : s.member.participation.onLine = true) :
    s.endSeekWait.placeSound := by
  have waited : { s.member with seekWait := none }.sound := by
    obtain ⟨changes, count, elsewhere⟩ := hs
    refine ⟨changes, count, fun not_seeking => ?_⟩
    obtain ⟨no_changes, not_recording, -, no_collection⟩ := elsewhere not_seeking
    exact ⟨no_changes, not_recording, rfl, no_collection⟩
  unfold State.endSeekWait
  dsimp only
  split
  · exact State.placeSound_of_onLine waited on_line
  split
  · exact State.placeSound_of_onLine (Membership.sameSeeking.sound (by simp [Membership.sameSeeking]) waited) (by simpa using on_line)
  · refine State.settle_placeSound (State.placeSound_of_onLine ?_ (by rw [State.found_member]; rfl))
    rw [State.found_member]
    exact Membership.cleared_sound _ _

theorem State.ownSeek_placeSound {s : State} (hs : s.member.sound) (on_line : s.member.participation.onLine = true) :
    s.ownSeek.placeSound := by
  unfold State.ownSeek
  dsimp only
  split
  next seeking => exact State.placeSound_of_seeking seeking (Nat.zero_le _) (Nat.min_le_right _ _)
  next => exact State.placeSound_of_onLine (by simpa using hs) (by simpa using on_line)

/-! ## Ends of frames -/

/-- A frame ends at a node on the line alone. -/
theorem State.frameEnd_placeSound {s : State} (h : s.placeSound) (k : FrameKind) (q : Station) {own : FrameBody → State → State}
    {other : State → State} (hown : s.member.participation.onLine = true → ∀ body, (own body s).placeSound)
    (hother : s.member.participation.onLine = true → (other s).placeSound) : (s.frameEnd k q own other).placeSound := by
  have ⟨hs, parked⟩ := h
  have on_line (hl : s.bus.line ≠ .off) : s.member.participation.onLine = true := by
    cases hp : s.member.participation.onLine with
    | true => rfl
    | false => exact absurd (parked hp).2.2.2.1 hl
  exact State.frameEnd_keeps h
    (fun body line => State.settle_placeSound (hown (on_line (by rw [line]; exact nofun)) body))
    (fun hl => (s.duplicate_handled k).placeSound hs (on_line hl))
    (fun hl _ => State.settle_placeSound (hother (on_line hl)))

theorem State.changeEnd_placeSound {s : State} (h : s.placeSound) (q : Station) (b : Base) (c : Change) (slots : Slots) :
    (s.changeEnd q b c slots).placeSound := by
  refine State.frameEnd_placeSound h _ _ (fun on_line body => ?_) fun on_line => ?_
  · split
    next _ latched =>
      rcases s.ownChange_handled latched slots with applied | kept
      · exact applied.placeSound h.1 on_line
      · exact kept.placeSound h.1 on_line
    · exact h
  · by_cases seeking : s.member.participation = .seeking
    · have heard := s.received_sameSeeking c.kind q
      have received := (s.received_handled c.kind q).placeSound h.1 on_line
      unfold State.otherChange
      dsimp only
      rw [heard.1, seeking, if_neg (by simp [Participation.inStep]), if_pos rfl]
      split
      · exact received
      · exact State.record_placeSound (heard.1.trans seeking) received.1 _
    · rcases s.otherChange_handled q b c slots seeking with applied | kept
      · exact applied.placeSound h.1 on_line
      · exact kept.placeSound h.1 on_line

theorem State.otherSegment_placeSound {s : State} (hs : s.member.sound) (on_line : s.member.participation.onLine = true) (q : Station)
    (seg : Segment) : (s.otherSegment q seg).placeSound := by
  by_cases seeking : s.member.participation = .seeking
  · have heard := s.received_sameSeeking .image q
    unfold State.otherSegment
    dsimp only
    rw [if_pos (heard.1.trans seeking)]
    exact State.collect_placeSound (heard.1.trans seeking) (heard.sound hs) q seg
  · exact (s.otherSegment_handled q seg seeking).placeSound hs on_line

/-! ## Rows and steps -/

theorem State.sameMembership.placeSound {s u : State} (hu : s.sameMembership u) (hs : s.member.sound)
    (on_line : s.member.participation.onLine = true) : u.placeSound :=
  State.placeSound_of_onLine (hu.2 ▸ hs) (hu.2 ▸ on_line)

/-- A reset parks the part in SETUP (R160, R161). -/
theorem State.resetBlocks_placeSound (s : State) (enables : BitVec 18) (cause : ResetCause) :
    (s.resetBlocks enables cause).placeSound := by
  have member : (s.resetBlocks enables cause).member = .cleared .setup := by simp [State.resetBlocks]
  refine ⟨member ▸ Membership.cleared_sound .setup false, fun _ => ?_⟩
  refine ⟨by simp [State.resetBlocks], by simp [State.resetBlocks, Bus.stopped], by simp [State.resetBlocks, Bus.stopped],
    by simp [State.resetBlocks, Bus.stopped], fun x => ?_⟩
  have record : (s.resetBlocks enables cause).load x = .reset := by
    simp [State.load, State.resetBlocks, Loads.reset]
  rw [record]
  rfl

theorem State.startNode_placeSound (s : State) : s.startNode.placeSound := by
  have want (u : State) (x : LoadIx) : (u.wantAsserted x).member = u.member := by
    unfold State.wantAsserted; split <;> simp
  have member := foldl_keeps State.wantAsserted State.member want allLoads
  have member_eq : s.startNode.member = .cleared .seeking := by simp [State.startNode, member, Membership.cleared]
  exact State.placeSound_of_onLine (member_eq ▸ Membership.cleared_sound .seeking false) (by rw [member_eq]; rfl)

theorem State.detachCommand_placeSound {s : State} (h : s.placeSound) : s.detachCommand.placeSound := by
  unfold State.detachCommand
  split
  · exact h
  · exact h
  · exact (State.enterDetached_isDetached _).placeSound
  · exact (State.enterDetached_isDetached _).placeSound
  next active =>
    have member : (s.setResult .done).enterLeaving.member = { s.member with participation := .leaving } := by
      unfold State.enterLeaving
      dsimp only
      split <;> simp
    refine State.settle_placeSound (State.placeSound_of_onLine ?_ (by rw [member]; rfl))
    rw [member]
    exact h.1.withParticipation (by rw [active]; decide) .leaving
  · exact h

theorem State.rejoinCommand_placeSound {s : State} (h : s.placeSound) : s.rejoinCommand.placeSound := by
  unfold State.rejoinCommand
  split
  · exact State.placeSound_of_onLine (by simpa [Membership.cleared] using Membership.cleared_sound .seeking false)
      (by simp [Membership.cleared, Participation.onLine])
  · exact h

/-- A row that a node off the line does not take. -/
theorem State.placeSound_of_row {s u : State} (h : s.placeSound) (on : s.member.participation.onLine = true → u.placeSound)
    (off : s.parked → u = s) : u.placeSound := by
  cases on_line : s.member.participation.onLine with
  | true => exact on on_line
  | false => exact off (State.parked_of_parkedSound h.2 on_line) ▸ h

theorem exec_placeSound {s : State} (h : s.placeSound) (c : Instr) (t : State) (he : exec c s = .next t) : t.placeSound := by
  have ⟨hs, parked⟩ := h
  refine exec_keeps_of_rows (fun c t hc he => ?_) (fun p => ⟨hs, parked⟩) c t he
  cases c with
  | powerOnReset straps =>
    obtain rfl := Host.Outcome.next.inj he
    dsimp only
    split
    · exact ⟨hs, fun off_line => ⟨(parked off_line).1, rfl, rfl, rfl, (parked off_line).2.2.2.2⟩⟩
    · exact State.resetBlocks_placeSound _ _ _
  | rstnReleased =>
    obtain rfl := Host.Outcome.next.inj he
    (repeat' split)
    · exact State.resetBlocks_placeSound _ _ _
    · exact State.resetBlocks_placeSound _ _ _
    · exact h
    · exact h
  | start arg =>
    obtain rfl := Host.Outcome.next.inj he
    refine State.whenRunning_keeps h fun _ => ?_
    unfold State.startCommand
    (repeat' split)
    · exact h
    · exact State.startNode_placeSound _
    · exact h
  | detach arg =>
    obtain rfl := Host.Outcome.next.inj he
    exact State.whenRunning_keeps h fun _ => State.detachCommand_placeSound (s := s.storeCommand _ _) h
  | rejoin arg =>
    obtain rfl := Host.Outcome.next.inj he
    exact State.whenRunning_keeps h fun _ => State.rejoinCommand_placeSound (s := s.storeCommand _ _) h
  | resetStation arg =>
    obtain rfl := Host.Outcome.next.inj he
    exact State.whenRunning_keeps h fun _ => State.resetBlocks_placeSound _ _ _
  | itemLatch =>
    obtain rfl := Host.Outcome.next.inj he
    refine State.whenRunning_keeps h fun _ => State.placeSound_of_row h (fun on_line => ?_) fun ⟨_, _, _, _, line, _⟩ => by rw [line]
    split
    next k _ =>
      have latched := s.latch_sameSeeking k
      exact State.placeSound_of_onLine (latched.sound hs) (latched.1 ▸ on_line)
    all_goals exact h
  | transmitFailure =>
    obtain rfl := Host.Outcome.next.inj he
    exact State.whenRunning_keeps h fun _ => State.placeSound_of_row h (s.failTransmit_handled.placeSound hs)
      fun ⟨_, _, _, _, line, _⟩ => by rw [State.failTransmit, line]
  | frameDiscarded why =>
    obtain rfl := Host.Outcome.next.inj he
    refine State.whenRunning_keeps h fun _ => State.placeSound_of_row h (fun on_line => ?_)
      fun ⟨_, _, _, _, line, _⟩ => by rw [line]; rfl
    split
    · unfold State.reportDiscard
      split
      next collecting => exact State.abandon_placeSound collecting.1 hs _
      · exact State.placeSound_of_onLine hs on_line
    · exact h
  | capFrame q b v slots | evictFrame q b v slots | releaseFrame q b v slots | leaveFrame q b slots | freezeFrame q b v slots
  | thawFrame q b slots | joinFrame q b slots | claimFrame q b k u tag slots =>
    obtain rfl := Host.Outcome.next.inj he
    exact State.whenRunning_keeps h fun _ => State.changeEnd_placeSound h _ _ _ _
  | aliveFrame q =>
    obtain rfl := Host.Outcome.next.inj he
    exact State.whenRunning_keeps h fun _ => State.frameEnd_placeSound h _ _
      (fun on_line _ => State.sameMembership.placeSound (by simp [State.sameMembership]) hs on_line)
      fun on_line => (s.received_handled .alive q).placeSound hs on_line
  | seekFrame q =>
    obtain rfl := Host.Outcome.next.inj he
    refine State.whenRunning_keeps h fun _ => State.frameEnd_placeSound h _ _
      (fun on_line _ => State.ownSeek_placeSound hs on_line) fun on_line => ?_
    have heard := s.received_sameSeeking .seek q
    dsimp only
    split <;> exact State.placeSound_of_onLine (heard.sound hs) (heard.1 ▸ on_line)
  | imageFrame q seg =>
    obtain rfl := Host.Outcome.next.inj he
    exact State.whenRunning_keeps h fun _ => State.frameEnd_placeSound h _ _
      (fun on_line body => (s.ownSegment_handled body).placeSound hs on_line)
      fun on_line => State.otherSegment_placeSound hs on_line q seg
  | groupFrame q code =>
    obtain rfl := Host.Outcome.next.inj he
    have heard := s.received_sameSeeking .group q
    exact State.whenRunning_keeps h fun _ => State.frameEnd_placeSound h _ _
      (fun on_line body => (s.ownGroup_sameMembership body).placeSound hs on_line)
      fun on_line => State.sameMembership.placeSound (by simp [State.sameMembership]) (heard.sound hs) (heard.1 ▸ on_line)
  | seekWaitExpiry =>
    obtain rfl := Host.Outcome.next.inj he
    refine State.whenRunning_keeps h fun _ => State.takeRow_keeps h ?_
    split
    next waits =>
      refine State.endSeekWait_placeSound hs ?_
      cases on_line : s.member.participation.onLine with
      | true => exact on_line
      | false =>
        have not_waiting := (hs.2.2 fun seeking => by rw [seeking] at on_line; cases on_line).2.2.1
        exact absurd waits (by simp [not_waiting])
    next => exact h
  | imageGapExpiry =>
    obtain rfl := Host.Outcome.next.inj he
    refine State.whenRunning_keeps h fun _ => State.takeRow_keeps h ?_
    split
    next collecting =>
      have seeking : s.member.participation = .seeking := by
        by_contra not_seeking
        have := (hs.2.2 not_seeking).2.2.2
        simp [this] at collecting
      exact State.abandon_placeSound (s := s.taken .imageGapExpiry) seeking hs _
    next => exact h
  | registerWrite a v => exact absurd rfl (hc a v)
  | _ =>
    cases on_line : s.member.participation.onLine with
    | true => exact (exec_sameMembership rfl he).placeSound hs on_line
    | false =>
      have same := exec_sameMembership rfl he
      exact ⟨same.2 ▸ hs, (exec_parked rfl (State.parked_of_parkedSound parked on_line) he).parkedSound⟩

/-- One millisecond counts the timers, and at a node off the line moves nothing that stays parked. -/
theorem State.tick_placeSound {s : State} (h : s.placeSound) : s.tick.placeSound := by
  have ⟨hs, parked⟩ := h
  refine State.whenRunning_keeps h fun _ => ⟨?_, fun off_line => ?_⟩
  · obtain ⟨changes, count, elsewhere⟩ := hs
    refine ⟨changes, count, fun not_seeking => ?_⟩
    obtain ⟨no_changes, not_recording, no_wait, no_collection⟩ := elsewhere not_seeking
    exact ⟨no_changes, not_recording, by simp [no_wait, countDown], no_collection⟩
  · obtain ⟨table, items, codes, line, outputs⟩ := parked off_line
    refine ⟨table, items, codes, by simp [line, Line.afterGap], fun x => ?_⟩
    simpa [State.load, Loads.tick] using outputs x

/-- Settles O58: a millisecond, then row by row; a node on the line may only stay there or go to DETACHED, and a parked node stays parked
until START or REJOIN. -/
theorem seekingAndParkedStaySound : Obligations.SeekingAndParkedStaySound := by
  unfold Obligations.SeekingAndParkedStaySound
  intro s t hs parked step_eq
  unfold step at step_eq
  split at step_eq
  · obtain rfl := Host.Outcome.next.inj step_eq
    exact State.tick_placeSound ⟨hs, parked⟩
  next c rest _ => exact exec_placeSound (s := { s with pending := rest }) ⟨hs, parked⟩ c t step_eq

end Sys2Proof.Machine
end

section
/-! SUPPORT. The register port (10.1, 10.2): writes, what each address reads, and the transaction on SDI and SDO. -/

namespace Sys2Proof.Machine

/-! ## Writes -/

theorem State.whenRunning_of_running {s : State} (h : s.power.running = true) (f : State → State) : s.whenRunning f = f s := by
  rw [State.whenRunning, if_pos h]

theorem State.whenRunning_of_reset {s : State} (h : s.power.running = false) (f : State → State) : s.whenRunning f = s := by
  rw [State.whenRunning, h, if_neg (by decide)]

/-- A write of an address that is no row of its own stores in the port. -/
theorem exec_registerWrite_store {s : State} (h : s.power.running = true) {a : BitVec 7} (v : Word16)
    (ha : a ≠ 0x01 ∧ a ≠ 0x11 ∧ a ≠ 0x02) :
    exec (.registerWrite a v) s = .next { s with port := s.port.store a v } := by
  obtain ⟨not_status, not_setting, not_command⟩ := ha
  change execRegisterWrite a v s = _
  rw [execRegisterWrite, if_neg not_status, if_neg not_setting, if_neg not_command, State.whenRunning_of_running h]

theorem commandOf_of_code_zero {v : Word16} (h : v.extractLsb' 8 8 = 0) : commandOf v = none := by
  unfold commandOf
  dsimp only
  rw [h]
  rfl

theorem exec_registerWrite_code_zero {s : State} (h : s.power.running = true) {v : Word16} (hv : v.extractLsb' 8 8 = 0) :
    exec (.registerWrite 0x02 v) s = .next { s with port := { s.port with command := v } } := by
  change execRegisterWrite 0x02 v s = _
  rw [execRegisterWrite, if_neg (by decide), if_neg (by decide), if_pos rfl, issue_of_code_zero (commandOf_of_code_zero hv),
    State.whenRunning_of_running h]
  rfl

/-- A write to a read-only or unassigned address is ignored (R151). -/
theorem Port.store_of_read_only (p : Port) (v : Word16) {a : BitVec 7} (ha : a ∉ [0x02#7, 0x03, 0x07, 0x08, 0x09, 0x0E, 0x10]) :
    p.store a v = p := by
  unfold Port.store
  split
  case h_8 => rfl
  all_goals
    next address => simp [← BitVec.toNat_inj, address] at ha

theorem exec_statusWrite {s : State} (h : s.power.running = true) (v : Word16) :
    exec (.statusWrite v) s = .next (if v.getLsbD 5 then { s with port := { s.port with overflow := false } } else s) := by
  change execStatusWrite v s = _
  rw [execStatusWrite, State.whenRunning_of_running h]
  rfl

/-! ## Reads (Tables 10.1 and 10.2) -/

/-- The address part and the field part of a table selection (R22). -/
theorem tableIndex_parts (q : Station) {f : Nat} (hf : f < 8) :
    ((BitVec.ofNat 16 (q.val + 256 * f)).extractLsb' 0 5).toNat = q.val ∧ ((BitVec.ofNat 16 (q.val + 256 * f)).extractLsb' 8 3).toNat = f := by
  have hq := q.isLt
  simp only [BitVec.extractLsb'_toNat, BitVec.toNat_ofNat, Nat.shiftRight_eq_div_pow]
  omega

theorem State.tableData_of_index {s : State} {q : Station} {f : Nat} (hf : f < 8)
    (hi : s.port.tableIndex = BitVec.ofNat 16 (q.val + 256 * f)) :
    s.tableData = if f = 0 then BitVec.ofNat 16 (bit (s.table.entries[q]).member)
      else if h : f - 1 < 4 then BitVec.ofNat 16 (s.table.entries[q]).held[f - 1] else 0 := by
  obtain ⟨station, field⟩ := tableIndex_parts q hf
  have selected : Fin.ofNat 32 q.val = q := Fin.ext (Nat.mod_eq_of_lt q.isLt)
  unfold State.tableData
  simp only [hi, station, field, selected]
  interval_cases f <;> rfl

/-- The load part and the field part of a load selection (R106). -/
theorem loadIndex_parts (x : LoadIx) :
    Fin.ofNat 8 ((BitVec.ofNat 16 x.val).extractLsb' 0 3).toNat = x ∧ (BitVec.ofNat 16 x.val).getLsbD 8 = false
      ∧ Fin.ofNat 8 ((BitVec.ofNat 16 (x.val + 256)).extractLsb' 0 3).toNat = x ∧ (BitVec.ofNat 16 (x.val + 256)).getLsbD 8 = true := by
  revert x
  decide

theorem State.loadStateWord_of_record {s : State} {x : LoadIx} (hi : s.port.loadIndex = BitVec.ofNat 16 x.val) :
    s.loadStateWord = BitVec.ofNat 16 ((s.load x).state.number + 16 * bit (s.load x).wanted
      + 32 * bit (decide ((s.load x).wish = .keep)) + 64 * bit (s.load x).inhibited + 128 * (s.load x).cause.number
      + 512 * bit (s.loads.req[x]).level + 1024 * bit (s.loads.rdy[x]).level) := by
  obtain ⟨load, field, -, -⟩ := loadIndex_parts x
  simp only [State.loadStateWord, hi, load, field]
  rfl

theorem State.loadStateWord_of_units {s : State} {x : LoadIx} (hi : s.port.loadIndex = BitVec.ofNat 16 (x.val + 256)) :
    s.loadStateWord = BitVec.ofNat 16 (s.occupied x) := by
  obtain ⟨-, -, load, field⟩ := loadIndex_parts x
  simp only [State.loadStateWord, hi, load, field]
  rfl

theorem State.readRegister_of_unassigned (s : State) {a : BitVec 7} (ha : 0x12 < a.toNat) : s.readRegister a = 0 := by
  unfold State.readRegister
  split
  case h_20 => rfl
  all_goals
    next address => omega

/-- R6, written out. -/
theorem Table.check_eq (t : Table) :
    t.check = BitVec.ofNat 16 (t.cap.toNat + (if t.frozen then 1 else 0)
      + (allStations.map fun q =>
          let e := t.entries[q]
          if e.member then 512 * (q.val + 1) + e.held[0] + 2 * e.held[1] + 3 * e.held[2] + 4 * e.held[3] else 0).sum) := rfl

/-! ## The transaction (R151) -/

theorem spiInstr_of_reset {s : State} (h : s.power.running = false) (sdi : List Bool) : spiInstr s sdi = none := by
  simp [spiInstr, h]

theorem spiInstr_of_length {s : State} {sdi : List Bool} (h : sdi.length ≠ 24) : spiInstr s sdi = none := by
  simp [spiInstr, spiAccess, h]

theorem State.sdo_of_clock {s : State} (h : s.power.running = true) (v : Word16) {n : Nat} (hn : 9 ≤ n ∧ n ≤ 24) :
    s.sdo false (some v) n = .driven (v.getLsbD (24 - n)) := by
  simp [State.sdo, h, hn]

theorem State.sdo_high_impedance {s : State} {high : Bool} (h : high = true ∨ s.power.running = false) (v : Option Word16) (n : Nat) :
    s.sdo high v n = .highImpedance := by
  rcases h with h | h <;> simp [State.sdo, h]

theorem shiftedOut_getElem? (v : Word16) {clocks i : Nat} (hi : i < min 24 clocks - 8) :
    (shiftedOut v clocks)[i]? = some (v.getLsbD (15 - i)) := by
  rw [shiftedOut, List.getElem?_map, List.getElem?_range hi, Option.map_some]

theorem Table.empty_check : Table.empty.check = 0 := by decide +kernel

/-- Settles O20: each write by the store of its address, each read by its selection, and the transaction by its clocks. -/
theorem portReadsAndWrites : Obligations.PortReadsAndWrites := by
  unfold Obligations.PortReadsAndWrites
  refine ⟨fun s v running => ?writes, fun s code arg running _ => ?unassignedCode, fun s => ?reads,
    ⟨Table.empty_check, by decide, by decide, by decide, by decide, by decide⟩, fun s sdi => ?transaction, fun v clocks => ?shifted⟩
  case writes =>
    refine ⟨fun clears => ?_, fun keeps => ?_, exec_registerWrite_store running v (by decide),
      exec_registerWrite_store running v (by decide), exec_registerWrite_store running v (by decide),
      exec_registerWrite_store running v (by decide), exec_registerWrite_code_zero running, fun a ha => ?_⟩
    · rw [exec_statusWrite running, if_pos clears]
    · rw [exec_statusWrite running, keeps, if_neg (by decide)]
    · simp only [List.mem_cons, List.not_mem_nil, or_false, not_or] at ha
      rw [exec_registerWrite_store running v ⟨by tauto, by tauto, by tauto⟩, Port.store_of_read_only _ _ (by simp; tauto)]
  case unassignedCode =>
    change execUnassignedCommand code arg s = _
    rw [execUnassignedCommand, State.command, State.whenRunning_of_running running]
    rfl
  case reads =>
    refine ⟨rfl, rfl, ⟨rfl, rfl, rfl, rfl, rfl, rfl⟩, rfl, rfl, ⟨rfl, rfl⟩, fun q f hf hi => State.tableData_of_index hf hi, ⟨rfl, rfl⟩,
      rfl, s.table.check_eq, fun x => ⟨State.loadStateWord_of_record, State.loadStateWord_of_units⟩, fun k hk => ?_, fun hk => ?_, rfl,
      fun a => s.readRegister_of_unassigned⟩ <;>
    · change s.settingData = _
      rw [State.settingData, hk]
  case transaction =>
    exact ⟨fun reset => ⟨by simp [State.fixedValue, reset], spiInstr_of_reset reset sdi⟩, spiInstr_of_length,
      fun running clocks read => ⟨if_pos ⟨running, clocks, read⟩, fun v _ n h9 h24 => State.sdo_of_clock running v ⟨h9, h24⟩⟩,
      fun high v n off => State.sdo_high_impedance off v n⟩
  case shifted => exact ⟨by rw [shiftedOut, List.length_map, List.length_range], fun i => shiftedOut_getElem? v⟩

end Sys2Proof.Machine
end

section
/-! SUPPORT. The event queue and the send list stay within their bounds (R35, R39, R40, R145, R158): what each operation does to the two
bounds, then every row. -/

namespace Sys2Proof.Machine

/-- The bounds of the event queue and of the send list, each kept where it stood. -/
def State.keepsBounds (s u : State) : Prop := (s.port.sound → u.port.sound) ∧ (s.bus.sound → u.bus.sound)

namespace State.keepsBounds

variable {s u v : State}

theorem refl (s : State) : s.keepsBounds s := ⟨id, id⟩

theorem trans {v : State} (h : s.keepsBounds u) (h' : u.keepsBounds v) : s.keepsBounds v := ⟨h'.1 ∘ h.1, h'.2 ∘ h.2⟩

/-- An update of the send list alone. -/
theorem onBus (h : s.keepsBounds u) (port : v.port = u.port) (bus : u.bus.sound → v.bus.sound) : s.keepsBounds v :=
  ⟨fun hs => port ▸ h.1 hs, fun hs => bus (h.2 hs)⟩

/-- An update of the port alone. -/
theorem onPort (h : s.keepsBounds u) (port : u.port.sound → v.port.sound) (bus : v.bus = u.bus) : s.keepsBounds v :=
  ⟨fun hs => port (h.1 hs), fun hs => bus ▸ h.2 hs⟩

/-- An update of neither. -/
theorem elsewhere (h : s.keepsBounds u) (same : (v.port, v.bus) = (u.port, u.bus)) : s.keepsBounds v := by
  obtain ⟨port, bus⟩ := Prod.mk.inj same
  exact h.onBus port fun hu => bus ▸ hu

theorem foldl {α : Type} {f : State → α → State} (hf : ∀ (v : State) (a : α), v.keepsBounds (f v a)) :
    ∀ (l : List α) {u : State}, s.keepsBounds u → s.keepsBounds (l.foldl f u)
  | [], _, h => h
  | a :: l, u, h => foldl hf l (h.trans (hf u a))

/-! ## Events and the send list -/

theorem postAt (h : s.keepsBounds u) (w : Word16) (c : EventCode) (a : Byte) : s.keepsBounds (u.postAt w c a) :=
  h.onPort (u.postAt_port_sound w c a) (by simp)

theorem post (h : s.keepsBounds u) (c : EventCode) (a : Byte) : s.keepsBounds (u.post c a) := h.postAt _ _ _

theorem postPhase (h : s.keepsBounds u) : s.keepsBounds u.postPhase := h.post _ _

theorem send (h : s.keepsBounds u) (k : FrameKind) (hk : k ≠ .group) : s.keepsBounds (u.send k) :=
  h.onBus (by simp) (u.send_bus_sound k hk)

theorem dropItem (h : s.keepsBounds u) (k : FrameKind) : s.keepsBounds (u.dropItem k) := h.onBus rfl (u.bus.drop_sound k)

theorem withdrawItem (h : s.keepsBounds u) (k : FrameKind) : s.keepsBounds (u.withdrawItem k) :=
  h.onBus (by simp) (u.withdrawItem_bus_sound k)

theorem retire (h : s.keepsBounds u) (k : FrameKind) (hk : k ≠ .group) : s.keepsBounds (u.retire k) :=
  h.onBus (by simp) (u.retire_bus_sound k hk)

theorem keepItem (h : s.keepsBounds u) (k : FrameKind) {n : Nat} (hn : n < Config.maxAttempts) : s.keepsBounds (u.keepItem k n) :=
  h.onBus rfl (u.keepItem_bus_sound k n hn)

theorem setParticipation (h : s.keepsBounds u) (p : Participation) : s.keepsBounds (u.setParticipation p) :=
  h.onBus rfl (u.setParticipation_bus_sound p)

theorem placeCode (h : s.keepsBounds u) (c : Byte) (room : u.canPlaceCode = true) : s.keepsBounds (u.placeCode c) := by
  refine h.onBus rfl fun ⟨kinds, items, codes, failures⟩ => ⟨kinds, items, ?_, failures⟩
  simp only [State.canPlaceCode, Bool.and_eq_true, decide_eq_true_eq] at room
  simpa using room.1

theorem setLine (h : s.keepsBounds u) (l : Line) : s.keepsBounds (u.setLine l) := h.onBus rfl fun hu => hu

/-- The Bus Controller stopped, and the port as it was (R69). -/
theorem stopped (h : s.keepsBounds u) (port : v.port = u.port) (bus : v.bus = .stopped) : s.keepsBounds v :=
  h.onBus port fun _ => bus ▸ Bus.stopped_sound

/-! ## Demand and loads -/

theorem freeUnits (h : s.keepsBounds u) (k : ClassIx) (n : Nat) : s.keepsBounds (u.freeUnits k n) := by
  unfold State.freeUnits
  split
  · exact h
  · exact (h.elsewhere (by rfl)).send .release nofun

theorem endClaim (h : s.keepsBounds u) (x : LoadIx) : s.keepsBounds (u.endClaim x) := by
  unfold State.endClaim
  (repeat' split)
  · exact h.elsewhere (by rfl)
  · exact h.withdrawItem .claim
  · exact (h.withdrawItem .claim).elsewhere (by rfl)
  · exact h
  · exact h

theorem fillSlot (h : s.keepsBounds u) (x : LoadIx) : s.keepsBounds (u.fillSlot x) := by
  unfold State.fillSlot
  exact (h.elsewhere (by split <;> rfl)).send .claim nofun

theorem compose (h : s.keepsBounds u) : s.keepsBounds u.compose := by
  have fresh : s.keepsBounds u.clearStaleBlock := h.elsewhere (by simp)
  unfold State.compose
  dsimp only
  (repeat' split)
  · exact fresh
  · exact fresh.elsewhere (by rfl)
  · exact fresh.fillSlot _
  · exact fresh

theorem settle (h : s.keepsBounds u) : s.keepsBounds u.settle := by
  have stand {v : State} (hv : s.keepsBounds v) (b : Bool) (k : FrameKind) (hk : k ≠ .group) :
      s.keepsBounds (if b then v.send k else v) := by
    split
    · exact hv.send k hk
    · exact hv
  exact stand (stand (stand h.compose _ .evict (by decide)) _ .thaw (by decide)) _ .image (by decide)

theorem enterQueue (h : s.keepsBounds u) (x : LoadIx) : s.keepsBounds (u.enterQueue x) := h.elsewhere (by simp)

theorem dropLoad (h : s.keepsBounds u) (x : LoadIx) (l : LoadState) : s.keepsBounds (u.dropLoad x l) := by
  unfold State.dropLoad
  dsimp only
  refine freeUnits ?_ _ _
  split
  · exact (h.elsewhere (by rfl)).endClaim x
  · exact h.elsewhere (by rfl)

theorem turnOff (h : s.keepsBounds u) (x : LoadIx) : s.keepsBounds (u.turnOff x) := by
  unfold State.turnOff
  split
  · exact h
  · exact h
  · exact h.dropLoad x .off

theorem faultLoad (h : s.keepsBounds u) (x : LoadIx) (c : FaultCause) : s.keepsBounds (u.faultLoad x c) :=
  ((h.dropLoad x .fault).elsewhere (by rfl)).post _ _

theorem lowerToKeep (h : s.keepsBounds u) (x : LoadIx) : s.keepsBounds (u.lowerToKeep x) := by
  unfold State.lowerToKeep
  dsimp only
  split
  · exact (h.elsewhere (by rfl)).freeUnits _ _
  · exact h

theorem wishKeep (h : s.keepsBounds u) (x : LoadIx) : s.keepsBounds (u.wishKeep x) := by
  have wished : s.keepsBounds (u.setLoad x { u.load x with wish := .keep }) := h.elsewhere (by rfl)
  unfold State.wishKeep
  dsimp only
  (repeat' split)
  · exact h
  · exact wished.lowerToKeep x
  · exact wished.lowerToKeep x
  · exact wished.elsewhere (by rfl)
  · exact ((wished.elsewhere (by rfl))).endClaim x
  · exact wished

theorem wishFull (h : s.keepsBounds u) (x : LoadIx) : s.keepsBounds (u.wishFull x) := h.elsewhere (by simp)

theorem wantLoad (h : s.keepsBounds u) (x : LoadIx) : s.keepsBounds (u.wantLoad x) := h.elsewhere (by simp)

theorem unwantLoad (h : s.keepsBounds u) (x : LoadIx) : s.keepsBounds (u.unwantLoad x) := by
  unfold State.unwantLoad
  split
  · exact (h.elsewhere (by rfl)).turnOff x
  · exact h

theorem inhibitLoad (h : s.keepsBounds u) (x : LoadIx) : s.keepsBounds (u.inhibitLoad x) := by
  unfold State.inhibitLoad
  split
  · exact h
  · exact (h.elsewhere (by rfl)).turnOff x

theorem permitLoad (h : s.keepsBounds u) (x : LoadIx) : s.keepsBounds (u.permitLoad x) := h.elsewhere (by simp)

theorem setReq (h : s.keepsBounds u) (x : LoadIx) (b : Bool) : s.keepsBounds (u.setReq x b) := h.elsewhere (by rfl)

theorem setRdy (h : s.keepsBounds u) (x : LoadIx) (b : Bool) : s.keepsBounds (u.setRdy x b) := h.elsewhere (by rfl)

theorem clearFaultLoad (h : s.keepsBounds u) (x : LoadIx) : s.keepsBounds (u.clearFaultLoad x) := h.elsewhere (by simp)

theorem wishLevel (h : s.keepsBounds u) (x : LoadIx) (l : Level) : s.keepsBounds (u.wishLevel x l) := by
  cases l with
  | full => exact h.wishFull x
  | keep => exact h.wishKeep x

theorem grantLoad (h : s.keepsBounds u) (x : LoadIx) : s.keepsBounds (u.grantLoad x) := by
  unfold State.grantLoad
  dsimp only
  (repeat' split)
  · exact (h.elsewhere (by rfl)).lowerToKeep x
  · exact h.elsewhere (by rfl)
  · exact h

theorem endRamp (h : s.keepsBounds u) (x : LoadIx) : s.keepsBounds (u.endRamp x) := by
  unfold State.endRamp
  split
  · exact h.faultLoad x .ramp
  · exact (h.elsewhere (by rfl)).post _ _

theorem disconnectAll (h : s.keepsBounds u) : s.keepsBounds u.disconnectAll := h.elsewhere (by simp)

/-! ## Shedding -/

theorem shedToKeep (h : s.keepsBounds u) (x : LoadIx) : s.keepsBounds (u.shedToKeep x) := by
  have shed := (h.lowerToKeep x).post .shed (argOf x.val)
  unfold State.shedToKeep
  dsimp only
  split
  · exact shed.elsewhere (by simp)
  · exact shed

theorem shedOff (h : s.keepsBounds u) (x : LoadIx) : s.keepsBounds (u.shedOff x) := ((h.dropLoad x .off).post _ _).enterQueue x

theorem shedKeeps (k : ClassIx) (n : Nat) : ∀ (l : List LoadIx) {u : State}, s.keepsBounds u → s.keepsBounds (shedKeeps k n l u)
  | [], _, h => h
  | x :: xs, u, h => by
    unfold Machine.shedKeeps
    (repeat' split)
    · exact h
    · exact shedKeeps k n xs (h.shedToKeep x)
    · exact shedKeeps k n xs h

theorem shedOffs (k : ClassIx) (n : Nat) : ∀ (l : List LoadIx) {u : State}, s.keepsBounds u → s.keepsBounds (shedOffs k n l u)
  | [], _, h => h
  | x :: xs, u, h => by
    unfold Machine.shedOffs
    (repeat' split)
    · exact h
    · exact shedOffs k n xs (h.shedOff x)
    · exact shedOffs k n xs h

theorem shedClass (h : s.keepsBounds u) (k : ClassIx) (n : Nat) : s.keepsBounds (u.shedClass k n) := shedOffs k n _ (shedKeeps k n _ h)

theorem shedIfOverCap (h : s.keepsBounds u) : s.keepsBounds u.shedIfOverCap := by
  unfold State.shedIfOverCap
  split
  · refine h.trans (foldl (fun v k => ?_) _ (refl u))
    dsimp only
    split
    · exact (refl v).shedClass k _
    · exact refl v
  · exact h

/-! ## Cap, freeze, lease and group -/

theorem takeCap (h : s.keepsBounds u) (w : Word16) : s.keepsBounds (u.takeCap w) := by
  unfold State.takeCap
  (repeat' split)
  · exact h.elsewhere (by rfl)
  · exact (h.elsewhere (by rfl)).withdrawItem .cap
  · exact (h.elsewhere (by rfl)).send .cap nofun
  · exact h.elsewhere (by rfl)

theorem setLimit (h : s.keepsBounds u) (b : Bool) : s.keepsBounds (u.setLimit b) := h.elsewhere (by rfl)

theorem setTrg (h : s.keepsBounds u) (i : Fin 2) (b : Bool) : s.keepsBounds (u.setTrg i b) := h.elsewhere (by rfl)

theorem takeHeldCap (h : s.keepsBounds u) : s.keepsBounds u.takeHeldCap := by
  unfold State.takeHeldCap
  split
  · exact (h.elsewhere (by rfl)).takeCap _
  · exact h

theorem capApplied (h : s.keepsBounds u) (q : Station) (w : Word16) : s.keepsBounds (u.capApplied q w) := by
  unfold State.capApplied
  split
  · exact (h.elsewhere (by rfl)).withdrawItem .cap
  · exact h

theorem compareCap (h : s.keepsBounds u) : s.keepsBounds u.compareCap := by
  unfold State.compareCap
  (repeat' split)
  · exact h.elsewhere (by rfl)
  · exact h.send .cap nofun
  · exact h

theorem takeFreeze (h : s.keepsBounds u) (d : TimeCode) : s.keepsBounds (u.takeFreeze d) := (h.elsewhere (by rfl)).send .freeze nofun

theorem freezeApplied (h : s.keepsBounds u) (d : TimeCode) : s.keepsBounds (u.freezeApplied d) :=
  (h.elsewhere (by rfl)).withdrawItem .thaw

theorem thawApplied (h : s.keepsBounds u) : s.keepsBounds u.thawApplied := (h.elsewhere (by rfl)).withdrawItem .thaw

theorem freezeClaim (h : s.keepsBounds u) : s.keepsBounds u.freezeClaim := by
  unfold State.freezeClaim
  (repeat' split)
  · exact h
  · exact (h.elsewhere (by simp)).withdrawItem .claim
  · exact h

theorem withdrawEvictIfUnmarked (h : s.keepsBounds u) : s.keepsBounds u.withdrawEvictIfUnmarked := by
  unfold State.withdrawEvictIfUnmarked
  split
  · exact h
  · exact h.withdrawItem .evict

theorem heard (h : s.keepsBounds u) (q : Station) : s.keepsBounds (u.heard q) := by
  unfold State.heard
  dsimp only
  (repeat' split)
  · exact h
  · exact (h.elsewhere (by rfl)).withdrawEvictIfUnmarked
  · exact h.elsewhere (by rfl)

theorem memberRemoved (h : s.keepsBounds u) (q : Station) : s.keepsBounds (u.memberRemoved q) :=
  (h.elsewhere (by rfl)).withdrawEvictIfUnmarked

theorem act (h : s.keepsBounds u) (x : LoadIx) (a : Action) : s.keepsBounds (u.act x a) := by
  cases a with
  | inhibit => exact h.inhibitLoad x
  | keep => exact h.wishKeep x
  | withdraw =>
    change s.keepsBounds (if (u.cfg x).source = .soft then u.unwantLoad x else u)
    split
    · exact h.unwantLoad x
    · exact h
  | permit => exact h.permitLoad x
  | request =>
    change s.keepsBounds (if (u.cfg x).source = .soft then u.wantLoad x else u)
    split
    · exact h.wantLoad x
    · exact h

theorem applyCode (h : s.keepsBounds u) (c : Byte) : s.keepsBounds (u.applyCode c) := by
  unfold State.applyCode
  split
  · refine foldl (fun v x => ?_) _ (h.post .groupMatched c)
    unfold State.actOn
    split
    · exact (refl v).act x _
    · exact refl v
  · exact h

/-! ## Membership -/

theorem sendSeek (h : s.keepsBounds u) : s.keepsBounds u.sendSeek := (h.elsewhere (by rfl)).send .seek nofun

theorem abandon (h : s.keepsBounds u) (c : AbandonCause) : s.keepsBounds (u.abandon c) :=
  ((h.elsewhere (by rfl)).post _ _).sendSeek

theorem record (h : s.keepsBounds u) (r : ChangeRecord) : s.keepsBounds (u.record r) := by
  unfold State.record
  (repeat' split)
  · exact h
  · exact h.elsewhere (by rfl)
  · exact h.elsewhere (by rfl)
  · exact h.abandon .overflow

theorem enterSeeking (h : s.keepsBounds u) (c : StepCause) : s.keepsBounds (u.enterSeeking c) := by
  have stopped : s.keepsBounds u.emptySlot.reopenAccount.stopSilence := h.elsewhere (by simp)
  unfold State.enterSeeking
  exact (elsewhere (stopped.setParticipation .seeking) (by rfl)).sendSeek.post _ _ |>.postPhase

theorem enterDetached (h : s.keepsBounds u) : s.keepsBounds u.enterDetached := (h.stopped (by simp) rfl).postPhase

theorem outOfStep (h : s.keepsBounds u) (c : StepCause) : s.keepsBounds (u.outOfStep c) := by
  unfold State.outOfStep
  split
  · exact h.enterSeeking c
  · exact h.enterSeeking c
  · exact h.enterDetached
  all_goals exact h

theorem selfEvict (h : s.keepsBounds u) : s.keepsBounds u.selfEvict := by
  have off : s.keepsBounds (u.disconnectAll.setSlot none).clearAccount := h.elsewhere (by simp)
  have revoked := ((off.withdrawItem .claim).withdrawItem .release).post .revoked (argOf u.energizedCount)
  exact ((revoked.setParticipation .joining).send .join nofun).postPhase

theorem reachActive (h : s.keepsBounds u) : s.keepsBounds u.reachActive := by
  have compared := (h.elsewhere (v := u.setBlocked none) rfl).compareCap
  unfold State.reachActive State.repostFreeze
  split
  · exact compared.send .freeze nofun
  · exact compared

theorem joined (h : s.keepsBounds u) : s.keepsBounds u.joined := (h.setParticipation .active).postPhase.reachActive

theorem found (h : s.keepsBounds u) : s.keepsBounds u.found := by
  unfold State.found
  exact ((elsewhere h (by rfl)).setParticipation .active |>.post _ _).shedIfOverCap.postPhase.reachActive

theorem reconcile (h : s.keepsBounds u) : s.keepsBounds u.reconcile := by
  unfold State.reconcile
  split
  · have classes : s.keepsBounds (allClasses.foldl State.reconcileClass u) :=
      foldl (fun v k => ((refl v).shedClass k _).elsewhere (by rfl)) _ h
    unfold State.reconcileMember State.sendReleaseIfOpen
    dsimp only
    split
    · exact ((classes.setParticipation .active).send .release nofun).postPhase.reachActive
    · exact (classes.setParticipation .active).postPhase.reachActive
  · have off : s.keepsBounds u.disconnectAll.clearAccount := h.elsewhere (by simp)
    unfold State.reconcileAbsent
    dsimp only
    split
    · exact (((off.post _ _).setParticipation .joining).send .join nofun).postPhase.compareCap
    · exact ((off.setParticipation .joining).send .join nofun).postPhase.compareCap

/-- Installation posts the replayed records, takes replayed caps and freezes, sheds and reconciles (R63). -/
theorem install (h : s.keepsBounds u) (header : ImageHeader) (t : Table) (rs : List Replayed) :
    s.keepsBounds (u.install header t rs) := by
  have cap (v : State) (r : Replayed) : v.keepsBounds (replayCap v r) := by
    unfold replayCap
    split
    · exact (refl v).capApplied _ _
    · exact refl v
  have freeze (v : State) (r : Replayed) : v.keepsBounds (replayFreeze v r) := by
    unfold replayFreeze
    (repeat' split)
    · exact (refl v).freezeApplied _
    · exact (refl v).thawApplied
    · exact refl v
    · exact refl v
  have installed : s.keepsBounds { u with table := t } := h.elsewhere (by rfl)
  have posted := foldl (f := postReplayed) (fun v r => foldl (fun w e => (refl w).postAt _ _ _) _ (refl v)) rs installed
  have capped := foldl cap rs posted
  obtain ⟨v, hv⟩ : ∃ v, rs.foldl replayCap (rs.foldl postReplayed { u with table := t }) = v := ⟨_, rfl⟩
  rw [hv] at capped
  have leased : s.keepsBounds ({ v with lease := { v.lease with code := header.lease, silence := silenceFor t v.address } }.installFreeze
      header) := capped.elsewhere (by rfl)
  have frozen := foldl freeze rs leased
  generalize hw : rs.foldl replayFreeze _ = w at frozen
  have left : s.keepsBounds { w with member := w.member.foundOrInstalled } := frozen.elsewhere (by rfl)
  have reconciled := left.shedIfOverCap.reconcile
  subst hw hv
  exact reconciled

theorem collect (h : s.keepsBounds u) (q : Station) (seg : Segment) : s.keepsBounds (u.collect q seg) := by
  unfold State.collect State.storeSegment State.startCollection State.finishCollection
  dsimp only
  (repeat' split)
  · exact h.abandon .order
  · exact h.install _ _ _
  · exact h.abandon .replay
  · exact h.abandon .check
  · exact h.elsewhere (by rfl)
  · exact h.abandon .order
  · exact h
  · exact h.elsewhere (by rfl)
  · exact h
  · exact h

theorem noteSegmentZero (h : s.keepsBounds u) : s.keepsBounds u.noteSegmentZero := by
  have noted : s.keepsBounds { u with member := { u.member with imageOwed := false } } := h.elsewhere (by rfl)
  unfold State.noteSegmentZero
  dsimp only
  split
  · exact noted.withdrawItem .image
  · exact noted

theorem advanceTrain (h : s.keepsBounds u) (seg : Segment) : s.keepsBounds (u.advanceTrain seg) := by
  unfold State.advanceTrain
  (repeat' split)
  · exact (h.elsewhere (by rfl)).send .image nofun
  · exact (h.elsewhere (by rfl)).send .image nofun
  · exact h.elsewhere (by rfl)

theorem startNode (h : s.keepsBounds u) : s.keepsBounds u.startNode := by
  have want (v : State) (x : LoadIx) : v.keepsBounds (v.wantAsserted x) := by
    unfold State.wantAsserted
    split
    · exact (refl v).wantLoad x
    · exact refl v
  have seeking : s.keepsBounds { (u.setLine .integrating).startLease with member := .cleared .seeking } :=
    (h.setLine .integrating).elsewhere (by rfl)
  have wanted := foldl want allLoads seeking.sendSeek
  exact (wanted.elsewhere (v := State.askLimit _) (by simp)).postPhase

theorem rejoinCommand (h : s.keepsBounds u) : s.keepsBounds u.rejoinCommand := by
  unfold State.rejoinCommand
  split
  · have seeking : s.keepsBounds { ((u.setResult .done).setLine .integrating).startLease with member := .cleared .seeking } :=
      (h.trans (v := u.setResult .done) ⟨id, id⟩).setLine .integrating |>.elsewhere (by rfl)
    exact (seeking.sendSeek.elsewhere (v := State.askLimit _) (by simp)).postPhase
  · exact h.trans ⟨id, id⟩

theorem enterLeaving (h : s.keepsBounds u) : s.keepsBounds u.enterLeaving := by
  have accounted : s.keepsBounds u.accountOccupied := h.elsewhere (by rfl)
  unfold State.enterLeaving
  dsimp only
  split
  · exact ((accounted.endClaim _).disconnectAll.setParticipation .leaving |>.send .leave nofun).postPhase
  · exact (accounted.disconnectAll.setParticipation .leaving |>.send .leave nofun).postPhase

/-! ## Ends of frames -/

theorem claimGranted (h : s.keepsBounds u) (k : ClassIx) (n : Nat) (tag : LoadIx) : s.keepsBounds (u.claimGranted k n tag) := by
  unfold State.claimGranted
  (repeat' split)
  · exact (h.elsewhere (by rfl)).freeUnits k n
  · exact ((h.post _ _).grantLoad _).elsewhere (by rfl)
  · exact h

theorem claimDenied (h : s.keepsBounds u) (tag : LoadIx) : s.keepsBounds (u.claimDenied tag) := by
  have returned (x : LoadIx) : s.keepsBounds ((u.returnLoad x).post .denied (argOf tag.val)) :=
    (h.elsewhere (by simp)).post _ _
  unfold State.claimDenied
  dsimp only
  (repeat' split)
  · exact h.elsewhere (by rfl)
  · exact (returned _).elsewhere (by rfl)
  · exact (returned _).elsewhere (by rfl)
  · exact h

theorem handRemoval (h : s.keepsBounds u) (q : Station) (byEvict : Bool) : s.keepsBounds (u.handRemoval q byEvict) := by
  have removed := h.memberRemoved q
  unfold State.handRemoval
  dsimp only
  (repeat' split)
  · exact removed.selfEvict
  · exact removed.enterDetached
  · exact removed
  · exact removed

theorem handOff (h : s.keepsBounds u) (before : Table) (q : Station) (c : Change) : s.keepsBounds (u.handOff before q c) := by
  cases c with
  | cap w => exact (h.capApplied q w).shedIfOverCap
  | evict target =>
    unfold State.handOff
    dsimp only
    split
    · exact h.handRemoval _ true
    · exact h
  | release a => exact h
  | leave =>
    unfold State.handOff
    dsimp only
    split <;> split
    · exact (h.handRemoval _ false).enterDetached
    · exact h.handRemoval _ false
    · exact h.enterDetached
    · exact h
  | join =>
    unfold State.handOff
    dsimp only
    split <;> split
    · exact (h.elsewhere (by rfl)).joined
    · exact h.elsewhere (by rfl)
    · exact h.joined
    · exact h
  | freeze d =>
    unfold State.handOff
    dsimp only
    split
    · exact h.freezeApplied d
    · exact (h.freezeApplied d).freezeClaim
  | thaw =>
    unfold State.handOff
    dsimp only
    split
    · exact (h.thawApplied.elsewhere (by rfl))
    · exact h
  | claim k n tag =>
    unfold State.handOff
    dsimp only
    (repeat' split)
    · exact h.claimGranted k _ tag
    · exact h.claimDenied tag
    · exact h

theorem applyFrame (h : s.keepsBounds u) (q : Station) (c : Change) : s.keepsBounds (u.applyFrame q c) := by
  have events : s.keepsBounds ({ u with table := u.table.apply q c }.postTableEvents u.table q c) :=
    foldl (fun v e => (refl v).post _ _) _ (h.elsewhere (by rfl))
  have handed := events.handOff u.table q c
  unfold State.applyFrame
  dsimp only
  split
  · exact handed.elsewhere (by rfl)
  · exact handed

theorem completeOwn (h : s.keepsBounds u) (k : FrameKind) : s.keepsBounds (u.completeOwn k) := by
  have restarted : s.keepsBounds { u with
      bus := { u.bus with
        line := .gap, failures := 0, fairGap := if u.settings.fairGap = 0 then none else some u.settings.fairGap.toNat }
      lease := { u.lease with quiet := some 0 } } :=
    h.onBus rfl fun ⟨kinds, items, codes, _⟩ => ⟨kinds, items, codes, Nat.zero_lt_succ 15⟩
  unfold State.completeOwn
  dsimp only
  split
  · exact restarted
  · exact restarted.withdrawItem .alive

theorem afterCap (h : s.keepsBounds u) (c : Change) : s.keepsBounds (u.afterCap c) := by
  unfold State.afterCap
  split
  · exact h.takeHeldCap
  · exact h

theorem afterUnheard (h : s.keepsBounds u) (c : Change) : s.keepsBounds (u.afterUnheard c) := by
  unfold State.afterUnheard
  dsimp only
  (repeat' split)
  · exact h.compose
  · exact h.compose.dropItem .claim
  · exact h
  · exact h.dropItem .release
  · exact h.takeHeldCap
  all_goals exact h

theorem toldLost (h : s.keepsBounds u) (c : Change) : s.keepsBounds (u.toldLost c) := h.elsewhere (by simp)

end State.keepsBounds

theorem change_kind_ne_group (c : Change) : c.kind ≠ .group := by
  cases c <;> exact FrameKind.noConfusion

namespace State.keepsBounds

variable {s u v : State}

/-- The end of the node's own frame: an unheard one waits with fewer than four attempts (R35). -/
theorem ownChange (h : s.keepsBounds u) (c : Change) (slots : Slots) : s.keepsBounds (u.ownChange c slots) := by
  have completed := h.completeOwn c.kind
  have retired := completed.retire c.kind (change_kind_ne_group c)
  unfold State.ownChange
  dsimp only
  (repeat' split)
  · exact ((retired.elsewhere (by simp)).applyFrame _ c).afterCap c
  · exact ((retired.toldLost c).outOfStep _).afterCap c
  next few => exact ((completed.keepItem c.kind few).toldLost c).afterUnheard c
  · exact ((retired.toldLost c).outOfStep _).afterCap c

/-- A failure below the sixteenth is counted; the sixteenth stops the Bus Controller (R39). -/
theorem countFailure (h : s.keepsBounds u) (k : FrameKind) : s.keepsBounds (u.countFailure k) := by
  unfold State.countFailure
  dsimp only
  split
  next few => exact h.onBus rfl fun ⟨kinds, items, codes, _⟩ => ⟨kinds, items, codes, few⟩
  next =>
    refine ⟨fun hs => ?_, fun _ => by simpa using Bus.stopped_sound⟩
    exact (((refl _).post _ _).enterDetached).1 (h.1 hs)

theorem duplicate (h : s.keepsBounds u) (k : FrameKind) : s.keepsBounds (u.duplicate k) := (h.setLine .gap).countFailure k

theorem received (h : s.keepsBounds u) (k : FrameKind) (q : Station) : s.keepsBounds (u.received k q) :=
  ((h.setLine .gap).heard q).elsewhere (by simp [State.received])

theorem otherChange (h : s.keepsBounds u) (q : Station) (b : Base) (c : Change) (slots : Slots) :
    s.keepsBounds (u.otherChange q b c slots) := by
  have received := h.received c.kind q
  unfold State.otherChange
  dsimp only
  (repeat' split)
  · exact received.applyFrame q c
  · exact received.outOfStep .objected
  · exact received
  · exact received
  · exact received.record _
  · exact received

theorem frameEnd (h : s.keepsBounds u) (k : FrameKind) (q : Station) {own : FrameBody → State → State} {other : State → State}
    (hown : ∀ body, s.keepsBounds (own body u)) (hother : s.keepsBounds (other u)) : s.keepsBounds (u.frameEnd k q own other) :=
  State.frameEnd_keeps h (fun body _ => (hown body).settle) (fun _ => h.duplicate k) fun _ _ => hother.settle

theorem changeEnd (h : s.keepsBounds u) (q : Station) (b : Base) (c : Change) (slots : Slots) :
    s.keepsBounds (u.changeEnd q b c slots) := by
  refine h.frameEnd _ _ (fun body => ?_) (h.otherChange q b c slots)
  split
  · exact h.ownChange _ slots
  · exact h

theorem ownSeek (h : s.keepsBounds u) : s.keepsBounds u.ownSeek := by
  have retired := (h.completeOwn .seek).retire .seek nofun
  unfold State.ownSeek
  dsimp only
  split
  · exact retired.elsewhere (by rfl)
  · exact retired

theorem ownSegment (h : s.keepsBounds u) (body : FrameBody) : s.keepsBounds (u.ownSegment body) := by
  have retired := (h.completeOwn .image).retire .image nofun
  unfold State.ownSegment
  dsimp only
  (repeat' split)
  · exact retired.advanceTrain _
  · exact retired
  · exact retired

theorem otherSegment (h : s.keepsBounds u) (q : Station) (seg : Segment) : s.keepsBounds (u.otherSegment q seg) := by
  have received := h.received .image q
  unfold State.otherSegment
  dsimp only
  (repeat' split)
  · exact received.collect q seg
  · exact received.noteSegmentZero
  · exact received
  · exact received

theorem ownGroup (h : s.keepsBounds u) (body : FrameBody) : s.keepsBounds (u.ownGroup body) := by
  have completed := h.completeOwn .group
  unfold State.ownGroup
  generalize u.completeOwn .group = v at completed
  have sent : s.keepsBounds { v with bus := { v.bus with codes := v.bus.codes.tail } } :=
    completed.onBus rfl fun ⟨kinds, items, codes, failures⟩ =>
      ⟨kinds, items, (v.bus.codes.length_tail ▸ Nat.sub_le _ 1).trans codes, failures⟩
  dsimp only
  split
  · exact sent.applyCode _
  · exact completed

theorem latch (h : s.keepsBounds u) (k : FrameKind) : s.keepsBounds (u.latch k) := by
  unfold State.latch
  split
  next body _ =>
    have told : s.keepsBounds (u.toldLatched body) := h.elsewhere (by simp)
    exact told.onBus rfl fun hu => hu
  · exact h

theorem contentionOver (h : s.keepsBounds u) (k : FrameKind) : s.keepsBounds (u.contentionOver k) := by
  have taken : s.keepsBounds (u.takeHeldWithdrawal k) := by
    have cleared : s.keepsBounds { u with bus := { u.bus with withdrawHeld := false } } := h.onBus rfl fun hu => hu
    have dropped := cleared.dropItem k
    unfold State.takeHeldWithdrawal
    dsimp only
    (repeat' split)
    · exact dropped.elsewhere (by simp)
    · exact dropped
    · exact h
  unfold State.contentionOver
  dsimp only
  split
  · exact taken.takeHeldCap
  · exact taken

theorem undoLatch (h : s.keepsBounds u) (body : FrameBody) : s.keepsBounds (u.undoLatch body) := by
  unfold State.undoLatch
  (repeat' split)
  · exact (h.elsewhere (by rfl)).dropItem .claim
  · exact h.elsewhere (by rfl)
  · exact h
  · exact h.takeHeldCap
  · exact h.toldLost _
  · exact h.elsewhere (by rfl)
  all_goals exact h

end State.keepsBounds

theorem Bus.item?_eq_some {b : Bus} {k : FrameKind} {i : Item} (h : b.item? k = some i) : i ∈ b.items ∧ i.kind = k := by
  unfold Bus.item? at h
  exact ⟨List.mem_of_find?_eq_some h, by simpa using List.find?_some h⟩

theorem Bus.attempts_lt {b : Bus} (h : b.sound) (k : FrameKind) : b.attempts k < Config.maxAttempts := by
  unfold Bus.attempts
  cases hi : b.item? k with
  | none => decide
  | some i => exact (h.2.1 i (Bus.item?_eq_some hi).1).2

/-- A failed frame's item keeps the attempt count it had (R38). -/
theorem State.failTransmit_keepsBounds (s : State) : s.keepsBounds s.failTransmit := by
  unfold State.failTransmit
  split
  next k _ => exact ((((State.keepsBounds.refl s).setLine .integrating).contentionOver k).countFailure k).settle
  next body _ =>
    have kept : s.keepsBounds ((s.setLine .integrating).keepItem body.kind ((s.setLine .integrating).bus.attempts body.kind)) :=
      ⟨id, fun hs => State.keepItem_bus_sound (s.setLine .integrating) _ _ (Bus.attempts_lt hs _) hs⟩
    exact ((kept.undoLatch body).countFailure body.kind).settle
  all_goals exact .refl s

/-! ## Rows and steps -/

theorem State.resetBlocks_keepsBounds (s u : State) (enables : BitVec 18) (cause : ResetCause) :
    s.keepsBounds (u.resetBlocks enables cause) :=
  State.keepsBounds.postPhase ⟨fun _ => Nat.zero_le _, fun _ => Bus.stopped_sound⟩

theorem State.writeSetting_keepsBounds (s : State) (v : Word16) : s.keepsBounds (s.writeSetting v) := by
  have recheck (u : State) (x : LoadIx) : u.keepsBounds (u.recheckReq x) := by
    unfold State.recheckReq
    dsimp only
    split
    · exact (State.keepsBounds.refl u).elsewhere (by rfl)
    · exact .refl u
  unfold State.writeSetting
  (repeat' split)
  · exact State.keepsBounds.foldl recheck _ ((State.keepsBounds.refl s).elsewhere (by rfl))
  · exact .refl s
  · exact .refl s

theorem State.command_keepsBounds {s t : State} {code arg : Byte} {f : State → State} (hf : ∀ u : State, u.keepsBounds (f u))
    (he : s.command code arg f = .next t) : s.keepsBounds t := by
  obtain rfl := Host.Outcome.next.inj he
  exact State.whenRunning_keeps (.refl s) fun _ => State.keepsBounds.trans ⟨id, id⟩ (hf (s.storeCommand code arg))

theorem State.loadCommand_keepsBounds {s t : State} {code arg : Byte} {f : LoadIx → State → State}
    (hf : ∀ (x : LoadIx) (u : State), u.keepsBounds (f x u)) (he : s.command code arg (State.loadCommand · arg f) = .next t) :
    s.keepsBounds t :=
  State.command_keepsBounds (fun u => State.loadCommand_keeps (fun _ => ⟨id, id⟩) fun x _ => hf x u) he

theorem State.softOnly_keepsBounds {s : State} (x : LoadIx) {f : State → State} (hf : s.keepsBounds (f s)) :
    s.keepsBounds (s.softOnly x f) := by
  unfold State.softOnly
  split
  · exact ⟨id, id⟩
  · exact hf

theorem State.takeRow_keepsBounds {s : State} {row : Instr} {stands : Bool} {f : State → State}
    (hf : (s.taken row).keepsBounds (f (s.taken row))) : s.keepsBounds (s.takeRow row stands f) :=
  State.takeRow_keeps ⟨id, id⟩ (State.keepsBounds.trans ⟨id, id⟩ hf)

/-- Every row but REGISTER_WRITE. -/
theorem exec_row_keepsBounds {s : State} {c : Instr} {t : State} (hc : ∀ a v, c ≠ .registerWrite a v) (he : exec c s = .next t) :
    s.keepsBounds t := by
  have same := State.keepsBounds.refl s
  have done (u : State) : u.keepsBounds (u.setResult .done) := ⟨id, id⟩
  cases c with
  | powerOnResetBegin =>
    obtain rfl := Host.Outcome.next.inj he
    exact ⟨id, fun _ => Bus.stopped_sound⟩
  | powerOnReset straps =>
    obtain rfl := Host.Outcome.next.inj he
    dsimp only
    split
    · exact ⟨id, fun _ => Bus.stopped_sound⟩
    · exact State.resetBlocks_keepsBounds _ _ _ _
  | rstnAsserted =>
    obtain rfl := Host.Outcome.next.inj he
    split
    · exact same
    · exact ⟨id, fun _ => Bus.stopped_sound⟩
  | rstnReleased =>
    obtain rfl := Host.Outcome.next.inj he
    (repeat' split)
    · exact State.resetBlocks_keepsBounds _ _ _ _
    · exact State.resetBlocks_keepsBounds _ _ _ _
    · exact ⟨id, id⟩
    · exact same
  | start arg =>
    refine State.command_keepsBounds (f := State.startCommand) (fun u => ?_) he
    unfold State.startCommand
    (repeat' split)
    · exact ⟨id, id⟩
    · exact (done u).startNode
    · exact ⟨id, id⟩
  | request arg =>
    exact State.loadCommand_keepsBounds
      (fun x u => State.softOnly_keepsBounds x (f := fun s => ((s.setResult .done).wantLoad x).settle) ((done u).wantLoad x).settle) he
  | withdraw arg =>
    exact State.loadCommand_keepsBounds
      (fun x u => State.softOnly_keepsBounds x (f := fun s => ((s.setResult .done).unwantLoad x).settle) ((done u).unwantLoad x).settle) he
  | setLevel arg =>
    refine State.loadCommand_keepsBounds (fun x u => ?_) he
    split
    · exact ((done u).wishLevel x _).settle
    · exact ⟨id, id⟩
  | inhibit arg =>
    exact State.loadCommand_keepsBounds (fun x u => ((done u).inhibitLoad x).settle) he
  | permit arg =>
    exact State.loadCommand_keepsBounds (fun x u => ((done u).permitLoad x).settle) he
  | clearFault arg =>
    refine State.loadCommand_keepsBounds (fun x u => ?_) he
    split
    · exact ((done u).clearFaultLoad x).settle
    · exact ⟨id, id⟩
  | sendGroup arg =>
    simp only [exec, execSendGroup] at he
    refine State.command_keepsBounds (fun u => ?_) he
    (repeat' split)
    · exact ⟨id, id⟩
    next room => exact (done u).placeCode arg room
    · exact ⟨id, id⟩
  | setCap arg =>
    simp only [exec, execSetCap] at he
    refine State.command_keepsBounds (fun u => ?_) he
    split
    · exact (done u).takeCap _
    · exact ⟨id, id⟩
  | freeze arg =>
    simp only [exec, execFreeze] at he
    refine State.command_keepsBounds (fun u => ?_) he
    (repeat' split)
    · exact (done u).takeFreeze _
    · exact ⟨id, id⟩
    · exact ⟨id, id⟩
  | detach arg =>
    refine State.command_keepsBounds (f := State.detachCommand) (fun u => ?_) he
    unfold State.detachCommand
    split
    · exact ⟨id, id⟩
    · exact ⟨id, id⟩
    · exact (done u).enterDetached
    · exact (done u).enterDetached
    · exact (done u).enterLeaving.settle
    · exact done u
  | rejoin arg => exact State.command_keepsBounds (fun u => (State.keepsBounds.refl u).rejoinCommand) he
  | resetStation arg =>
    exact State.command_keepsBounds (f := fun s => s.stationReset .command) (fun u => State.resetBlocks_keepsBounds _ _ _ _) he
  | unassignedCommand code arg => exact State.command_keepsBounds (f := fun s => s.setResult .badArg) (fun u => ⟨id, id⟩) he
  | eventARead empty =>
    obtain rfl := Host.Outcome.next.inj he
    refine State.whenRunning_keeps same fun _ => ?_
    (repeat' split)
    · exact same
    next r rs events => exact ⟨fun bound => (Nat.le_succ _).trans (events ▸ bound : (r :: rs).length ≤ _), id⟩
    · exact same
  | statusWrite v =>
    obtain rfl := Host.Outcome.next.inj he
    refine State.whenRunning_keeps same fun _ => ?_
    unfold State.writeStatus
    split
    · exact ⟨id, id⟩
    · exact same
  | settingDataWrite v =>
    obtain rfl := Host.Outcome.next.inj he
    exact State.whenRunning_keeps same fun _ => s.writeSetting_keepsBounds v
  | registerWrite a v => exact absurd rfl (hc a v)
  | contention =>
    obtain rfl := Host.Outcome.next.inj he
    refine State.whenRunning_keeps same fun _ => ?_
    (repeat' split)
    · exact same.setLine _
    · exact same
    · exact same
  | arbitrationLost =>
    obtain rfl := Host.Outcome.next.inj he
    refine State.whenRunning_keeps same fun _ => ?_
    split
    · exact ((same.setLine _).contentionOver _).settle
    all_goals exact same
  | itemLatch =>
    obtain rfl := Host.Outcome.next.inj he
    refine State.whenRunning_keeps same fun _ => ?_
    split
    · exact same.latch _
    all_goals exact same
  | transmitFailure =>
    obtain rfl := Host.Outcome.next.inj he
    exact State.whenRunning_keeps same fun _ => s.failTransmit_keepsBounds
  | lineError | integrationComplete =>
    obtain rfl := Host.Outcome.next.inj he
    refine State.whenRunning_keeps same fun _ => ?_
    split
    · exact same.setLine _
    · exact same
  | frameDiscarded why =>
    obtain rfl := Host.Outcome.next.inj he
    refine State.whenRunning_keeps same fun _ => ?_
    unfold State.reportDiscard
    (repeat' split)
    · exact (same.setLine _).abandon .lost
    · exact same.setLine _
    · exact same
  | capFrame q b v slots | evictFrame q b v slots | releaseFrame q b v slots | leaveFrame q b slots | freezeFrame q b v slots
  | thawFrame q b slots | joinFrame q b slots | claimFrame q b k u tag slots =>
    obtain rfl := Host.Outcome.next.inj he
    exact State.whenRunning_keeps same fun _ => same.changeEnd _ _ _ _
  | aliveFrame q =>
    obtain rfl := Host.Outcome.next.inj he
    exact State.whenRunning_keeps same fun _ =>
      same.frameEnd _ _ (fun _ => (same.completeOwn .alive).retire .alive nofun) (same.received .alive q)
  | seekFrame q =>
    obtain rfl := Host.Outcome.next.inj he
    refine State.whenRunning_keeps same fun _ => same.frameEnd _ _ (fun _ => same.ownSeek) ?_
    dsimp only
    split
    · exact (same.received .seek q).elsewhere (by rfl)
    · exact same.received .seek q
  | imageFrame q seg =>
    obtain rfl := Host.Outcome.next.inj he
    exact State.whenRunning_keeps same fun _ => same.frameEnd _ _ (fun body => same.ownSegment body) (same.otherSegment q seg)
  | groupFrame q code =>
    obtain rfl := Host.Outcome.next.inj he
    exact State.whenRunning_keeps same fun _ => same.frameEnd _ _ (fun body => same.ownGroup body) ((same.received .group q).applyCode code)
  | fairGapExpiry =>
    obtain rfl := Host.Outcome.next.inj he
    exact State.whenRunning_keeps same fun _ => State.takeRow_keepsBounds ⟨id, id⟩
  | seekWaitExpiry =>
    obtain rfl := Host.Outcome.next.inj he
    refine State.whenRunning_keeps same fun _ => State.takeRow_keepsBounds ?_
    unfold State.endSeekWait
    dsimp only
    (repeat' split)
    · exact ⟨id, id⟩
    · exact State.keepsBounds.sendSeek ⟨id, id⟩
    · exact (State.keepsBounds.found ⟨id, id⟩).settle
    · exact .refl _
  | imageGapExpiry =>
    obtain rfl := Host.Outcome.next.inj he
    refine State.whenRunning_keeps same fun _ => State.takeRow_keepsBounds ?_
    split
    · exact (State.keepsBounds.refl _).abandon .gap
    · exact .refl _
  | silenceTimerExpiry q =>
    obtain rfl := Host.Outcome.next.inj he
    refine State.whenRunning_keeps same fun _ => State.takeRow_keepsBounds ?_
    unfold State.standEvict
    dsimp only
    (repeat' split)
    · exact (State.keepsBounds.refl _).elsewhere (by rfl) |>.send .evict nofun
    · exact ⟨id, id⟩
    · exact .refl _
  | quietTimerExpiry =>
    obtain rfl := Host.Outcome.next.inj he
    refine State.whenRunning_keeps same fun _ => State.takeRow_keepsBounds ?_
    split
    · exact (State.keepsBounds.refl _).elsewhere (by rfl) |>.send .alive nofun
    · exact .refl _
  | rampTimerExpiry x =>
    obtain rfl := Host.Outcome.next.inj he
    refine State.whenRunning_keeps same fun _ => State.takeRow_keepsBounds ?_
    split
    · exact ((State.keepsBounds.refl _).endRamp x).settle
    · exact .refl _
  | freezeTimerExpiry =>
    obtain rfl := Host.Outcome.next.inj he
    refine State.whenRunning_keeps same fun _ => State.takeRow_keepsBounds ?_
    unfold State.standThaw
    dsimp only
    (repeat' split)
    · exact (State.keepsBounds.refl _).elsewhere (by rfl) |>.send .thaw nofun
    · exact ⟨id, id⟩
    · exact .refl _
  | reqDebouncedChange x asserted =>
    obtain rfl := Host.Outcome.next.inj he
    refine State.whenRunning_keeps same fun _ => State.takeRow_keepsBounds ?_
    unfold State.reqChanged
    (repeat' split)
    · exact .refl _
    · exact (((State.keepsBounds.refl _).setReq x asserted).wantLoad x).settle
    · exact (((State.keepsBounds.refl _).setReq x asserted).unwantLoad x).settle
    · exact ⟨id, id⟩
  | rdyDebouncedChange x asserted =>
    obtain rfl := Host.Outcome.next.inj he
    refine State.whenRunning_keeps same fun _ => State.takeRow_keepsBounds ?_
    unfold State.rdyDropped
    (repeat' split)
    · exact .refl _
    · exact ⟨id, id⟩
    · exact (((State.keepsBounds.refl _).setRdy x asserted).faultLoad x .dropout).settle
    · exact ⟨id, id⟩
  | limitDebouncedChange asserted =>
    obtain rfl := Host.Outcome.next.inj he
    refine State.whenRunning_keeps same fun _ => State.takeRow_keepsBounds ?_
    unfold State.limitChanged
    (repeat' split)
    · exact .refl _
    · exact ((State.keepsBounds.refl _).setLimit asserted).takeCap _
    · exact ((State.keepsBounds.refl _).setLimit asserted).takeCap _
    · exact ⟨id, id⟩
  | trgDebouncedAssertion i =>
    obtain rfl := Host.Outcome.next.inj he
    refine State.whenRunning_keeps same fun _ => State.takeRow_keepsBounds ?_
    unfold State.triggered
    (repeat' split)
    next room => exact ((State.keepsBounds.refl _).setTrg i true).placeCode _ room
    · exact ((State.keepsBounds.refl _).setTrg i true).post _ _
    · exact ⟨id, id⟩
  | ackObjSlotDrive q b =>
    obtain rfl := Host.Outcome.next.inj he
    refine State.whenRunning_keeps same fun _ => ?_
    split
    · exact same.setLine _
    · exact same.setLine _
    · exact same.setLine _
    all_goals exact same

theorem Port.store_events (p : Port) (a : BitVec 7) (v : Word16) : (p.store a v).events = p.events := by
  unfold Port.store
  split <;> rfl

theorem exec_keepsBounds {s : State} {c : Instr} {t : State} (he : exec c s = .next t) : s.keepsBounds t := by
  cases c with
  | registerWrite a v =>
    rcases exec_registerWrite_cases a v s with ⟨c, hc, heq⟩ | heq
    · exact exec_row_keepsBounds hc (heq ▸ he)
    · obtain rfl := Host.Outcome.next.inj (heq.symm.trans he)
      refine State.whenRunning_keeps (State.keepsBounds.refl s) fun _ => ⟨fun bound => ?_, id⟩
      simpa [Port.sound, Port.store_events] using bound
  | _ => exact exec_row_keepsBounds (by simp) he

/-- Settles O56: a millisecond moves neither list, and row by row every posting to a full queue is discarded, every kind stands once, an
unheard frame is dropped at the fourth attempt, and the sixteenth failure empties the list. -/
theorem queuesStayBounded : Obligations.QueuesStayBounded := by
  unfold Obligations.QueuesStayBounded
  intro s t step_eq
  unfold step at step_eq
  split at step_eq
  · obtain rfl := Host.Outcome.next.inj step_eq
    exact State.whenRunning_keeps (State.keepsBounds.refl s) fun _ => ⟨id, id⟩
  next c rest _ => exact exec_keepsBounds (s := { s with pending := rest }) step_eq

end Sys2Proof.Machine
end

section
/-! SUPPORT. The wire (2.2 to 2.5): the check code, stuffing and its undoing, and a frame read back field by field. -/

namespace Sys2Proof.Machine

/-! ## The frame check code (R28) -/

theorem frameCheck_concat (bits : List Bool) (b : Bool) : frameCheck (bits ++ [b]) = crcStep (frameCheck bits) b := by
  simp [frameCheck]

/-! ## Stuffing (R24) -/

/-- The run of recessive bits on the line after a region, with the run before it. -/
def runAfter : Nat → List Bool → Nat
  | run, [] => run
  | run, b :: bs => runAfter (if b then (if run = 4 then 1 else run + 1) else 0) bs

theorem unstuff_stuff (bits rest : List Bool) (run : Nat) :
    unstuff bits.length run (stuff run bits ++ rest) = some (bits, runAfter run bits, rest) := by
  induction bits generalizing run with
  | nil => cases rest <;> simp [unstuff, stuff, runAfter]
  | cons b bs ih =>
    by_cases full : run = 4
    · subst full
      cases b <;> simp [stuff, unstuff, runAfter, ih]
    · cases b <;> simp [stuff, unstuff, runAfter, full, ih]

/-- A run of one level reaches over no bit of the other. -/
theorem replicate_infix_split {n : Nat} (l₁ l₂ : List Bool) (h : List.replicate n true <:+: l₁ ++ false :: l₂) :
    List.replicate n true <:+: l₁ ∨ List.replicate n true <:+: l₂ := by
  have prefix_stops (l : List Bool) (hp : List.replicate n true <+: l ++ false :: l₂) : List.replicate n true <+: l := by
    rcases Nat.lt_or_ge l.length n with short | long
    · have inside : l ++ [false] <+: List.replicate n true :=
        List.prefix_of_prefix_length_le (by simp) hp (by simpa using short)
      exact absurd (List.eq_of_mem_replicate (inside.subset (by simp : false ∈ l ++ [false]))) (by decide)
    · exact List.prefix_of_prefix_length_le hp (List.prefix_append l _) (by simpa using long)
  induction l₁ with
  | nil =>
    rcases List.infix_cons_iff.mp h with hp | hi
    · exact .inl (prefix_stops [] hp).isInfix
    · exact .inr hi
  | cons x l₁ ih =>
    rcases List.infix_cons_iff.mp h with hp | hi
    · exact .inl (prefix_stops (x :: l₁) hp).isInfix
    · exact (ih hi).imp (fun hi => hi.trans (List.suffix_cons x l₁).isInfix) id

theorem not_five_infix_replicate {run : Nat} (hrun : run ≤ 4) : ¬ List.replicate 5 true <:+: List.replicate run true := fun h => by
  have := h.length_le
  simp at this
  omega

/-- With the run sent before it, a stuffed region holds no five recessive bits in a row. -/
theorem stuff_no_five (bits : List Bool) {run : Nat} (hrun : run ≤ 4) :
    ¬ List.replicate 5 true <:+: List.replicate run true ++ stuff run bits := by
  induction bits generalizing run with
  | nil => simpa [stuff] using not_five_infix_replicate hrun
  | cons b bs ih =>
    have after_dominant {l : List Bool} (hl : ¬ List.replicate 5 true <:+: l) {n : Nat} (hn : n ≤ 4) :
        ¬ List.replicate 5 true <:+: List.replicate n true ++ false :: l := fun h =>
      (replicate_infix_split _ _ h).elim (not_five_infix_replicate hn) hl
    by_cases full : run = 4
    · subst full
      cases b with
      | false => exact after_dominant (after_dominant (n := 0) (ih (run := 0) (by decide)) (by decide)) le_rfl
      | true => exact after_dominant (ih (run := 1) (by decide)) le_rfl
    · cases b with
      | false => simpa [stuff, full] using after_dominant (ih (run := 0) (by decide)) hrun
      | true => simpa [stuff, full, List.replicate_succ'] using ih (run := run + 1) (by omega)

/-- Settles O54: the register folds one bit more; the region is unstuffed bit by bit; and a run of five would hold a stuff bit. -/
theorem checkCodeAndStuffing : Obligations.CheckCodeAndStuffing := by
  unfold Obligations.CheckCodeAndStuffing
  refine ⟨⟨rfl, fun bits b => frameCheck_concat bits b⟩, fun bits rest => ⟨⟨runAfter 0 bits, unstuff_stuff bits rest 0⟩, ?_⟩⟩
  exact fun pre post h => stuff_no_five bits (run := 0) (by decide) ⟨pre, post, h.symm⟩

/-- Bits taken in two parts. -/
theorem unstuff_add (m n run : Nat) (bs : List Bool) :
    unstuff (m + n) run bs = (unstuff m run bs).bind fun p => (unstuff n p.2.1 p.2.2).map fun r => (p.1 ++ r.1, r.2) := by
  induction bs generalizing m run with
  | nil =>
    cases m with
    | zero => simp [unstuff]
    | succ m => simp [unstuff, Nat.succ_add]
  | cons b bs ih =>
    cases m with
    | zero => simp [unstuff]
    | succ m =>
      rw [Nat.succ_add, unstuff, unstuff]
      split
      · split
        · rfl
        · rw [show m + n + 1 = m + 1 + n by omega, ih]
      · rw [ih]
        cases unstuff m (if b = true then run + 1 else 0) bs with
        | none => rfl
        | some p => simp [Function.comp_def]

theorem length_of_unstuff {n run : Nat} {bs out : List Bool} {p : Nat × List Bool} (h : unstuff n run bs = some (out, p)) :
    out.length = n := by
  induction bs generalizing n run out with
  | nil => cases n <;> simp_all [unstuff]
  | cons b bs ih =>
    cases n with
    | zero => simp_all [unstuff]
    | succ n =>
      rw [unstuff] at h
      split at h
      · split at h
        · cases h
        · exact ih h
      · obtain ⟨r, hr, heq⟩ := Option.map_eq_some_iff.mp h
        obtain ⟨rfl, rfl⟩ := Prod.mk.inj heq
        simp [ih (out := r.1) hr]

/-- A region taken whole is taken in two parts. -/
theorem unstuff_parts {a b : List Bool} {run : Nat} {bs : List Bool} {p : Nat × List Bool}
    (h : unstuff (a ++ b).length run bs = some (a ++ b, p)) :
    ∃ run' bs', unstuff a.length run bs = some (a, run', bs') ∧ unstuff b.length run' bs' = some (b, p) := by
  rw [List.length_append, unstuff_add] at h
  obtain ⟨⟨a', run', bs'⟩, first, h⟩ := Option.bind_eq_some_iff.mp h
  obtain ⟨⟨b', p'⟩, second, heq⟩ := Option.map_eq_some_iff.mp h
  obtain ⟨bits, rfl⟩ := Prod.mk.inj heq
  obtain ⟨rfl, rfl⟩ := List.append_inj bits (length_of_unstuff first)
  exact ⟨run', bs', first, second⟩

/-! ## Fields -/

@[simp] theorem length_natBits (w n : Nat) : (natBits w n).length = w := by simp [natBits]

theorem natBits_succ (w n : Nat) : natBits (w + 1) n = n.testBit w :: natBits w n := by
  simp [natBits, List.range_succ]

theorem natBits_one (b : Bool) : natBits 1 (bit b) = [b] := by cases b <;> rfl

/-- A field read back, most significant bit first (R27). -/
theorem fieldNat_natBits (w n : Nat) : fieldNat (natBits w n) = n % 2 ^ w := by
  have read (acc : Nat) : (natBits w n).foldl (fun n b => 2 * n + bit b) acc = acc * 2 ^ w + n % 2 ^ w := by
    induction w generalizing acc with
    | zero => simp [natBits, Nat.mod_one]
    | succ w ih =>
      rw [natBits_succ, List.foldl_cons, ih, Nat.mod_pow_succ, Nat.testBit_eq_decide_div_mod_eq, bit]
      rcases Nat.mod_two_eq_zero_or_one (n / 2 ^ w) with even | odd
      · simp [even]; ring
      · simp [odd]; ring
  simpa [fieldNat] using read 0

@[simp] theorem field_natBits (w n : Nat) (rest : List Bool) : field (natBits w n ++ rest) 0 w = n % 2 ^ w := by
  rw [field, List.drop_zero, List.take_append_of_le_length (by simp), List.take_of_length_le (by simp), fieldNat_natBits]

@[simp] theorem field_natBits_end (w n : Nat) : field (natBits w n) 0 w = n % 2 ^ w := by
  simpa using field_natBits w n []

@[simp] theorem field_skip {start : Nat} (pre rest : List Bool) (h : pre.length ≤ start) (w : Nat) :
    field (pre ++ rest) start w = field rest (start - pre.length) w := by
  rw [field, field, List.drop_append, List.drop_eq_nil_of_le h, List.nil_append]

@[simp] theorem length_bitsOf {w : Nat} (v : BitVec w) : (bitsOf v).length = w := length_natBits w v.toNat

@[simp] theorem fieldWord_bitsOf {w : Nat} (v : BitVec w) (rest : List Bool) : fieldWord w (bitsOf v ++ rest) 0 = v := by
  rw [fieldWord, bitsOf, field_natBits, BitVec.toNat_mod_cancel, BitVec.ofNat_toNat, BitVec.setWidth_eq]

@[simp] theorem fieldWord_bitsOf_end {w : Nat} (v : BitVec w) : fieldWord w (bitsOf v) 0 = v := by
  simpa using fieldWord_bitsOf v []

@[simp] theorem fieldWord_skip {start : Nat} (pre rest : List Bool) (h : pre.length ≤ start) (w : Nat) :
    fieldWord w (pre ++ rest) start = fieldWord w rest (start - pre.length) := by
  rw [fieldWord, field_skip pre rest h, fieldWord]

/-! ## Bodies (Tables 2.4 and 2.5) -/

theorem vector_four_eta {α : Type} (a : Vector α 4) : #v[a[0], a[1], a[2], a[3]] = a := by
  ext i hi
  interval_cases i <;> rfl

@[simp] theorem length_padding (n : Nat) : (padding n).length = n := List.length_replicate

@[simp] theorem length_amountBits (a : Vector (BitVec 11) 4) : (amountBits a).length = 44 := by simp [amountBits]

@[simp] theorem length_entryBits (e : WireEntry) : (entryBits e).length = 45 := by simp [entryBits]

@[simp] theorem length_baseBits (b : Base) : (baseBits b).length = 32 := by simp [baseBits]

@[simp] theorem amountsAt_amountBits (a : Vector (BitVec 11) 4) (rest : List Bool) : amountsAt (amountBits a ++ rest) 0 = a := by
  simp [amountsAt, amountBits, vector_four_eta]

@[simp] theorem amountsAt_amountBits_end (a : Vector (BitVec 11) 4) : amountsAt (amountBits a) 0 = a := by
  simpa using amountsAt_amountBits a []

@[simp] theorem amountsAt_skip {start : Nat} (pre rest : List Bool) (h : pre.length ≤ start) :
    amountsAt (pre ++ rest) start = amountsAt rest (start - pre.length) := by
  have later (n : Nat) : fieldWord 11 (pre ++ rest) (start + n) = fieldWord 11 rest (start - pre.length + n) := by
    rw [fieldWord_skip pre rest (by omega), Nat.sub_add_comm h]
  rw [amountsAt, amountsAt, later, later, later, fieldWord_skip pre rest h]

@[simp] theorem bit_mod_two (b : Bool) : (bit b % 2 == 1) = b := by cases b <;> rfl

@[simp] theorem entryAt_entryBits (e : WireEntry) (rest : List Bool) : entryAt (entryBits e ++ rest) 0 = e := by
  have bits : entryBits e ++ rest = natBits 1 (bit e.member) ++ (amountBits e.held ++ rest) := by
    rw [natBits_one, entryBits]; rfl
  rw [bits, entryAt, field_natBits, pow_one, bit_mod_two, amountsAt_skip _ _ (by simp), length_natBits]
  exact congrArg (WireEntry.mk e.member) (amountsAt_amountBits _ _)

@[simp] theorem entryAt_entryBits_end (e : WireEntry) : entryAt (entryBits e) 0 = e := by simpa using entryAt_entryBits e []

@[simp] theorem entryAt_skip {start : Nat} (pre rest : List Bool) (h : pre.length ≤ start) :
    entryAt (pre ++ rest) start = entryAt rest (start - pre.length) := by
  rw [entryAt, entryAt, field_skip pre rest h, amountsAt_skip pre rest (by omega), Nat.sub_add_comm h]

@[simp] theorem baseOf_baseBits (b : Base) (rest : List Bool) : baseOf (baseBits b ++ rest) = b := by
  simp [baseOf, baseBits]

@[simp] theorem baseOf_baseBits_end (b : Base) : baseOf (baseBits b) = b := by simpa using baseOf_baseBits b []

theorem segmentOf_segmentBits (seg : Segment) : segmentOf (segmentBits seg) = some seg := by
  cases seg with
  | header h =>
    simp only [segmentBits, headerBits, ← natBits_one]
    simp [segmentOf]
  | entries i rows =>
    have read (rest : List Bool) : field (natBits 4 (i.val + 1) ++ rest) 0 4 = i.val + 1 := by
      rw [field_natBits, Nat.mod_eq_of_lt (by omega)]
    simp [segmentOf, segmentBits, read, vector_four_eta]

theorem bodyOf_changeBits (b : Base) (c : Change) : bodyOf c.kind (baseBits b ++ changeBits c) = some (.change b c) := by
  cases c with
  | cap v => simp [Change.kind, bodyOf, changeBits]
  | evict target => simp [Change.kind, bodyOf, changeBits, Nat.mod_eq_of_lt target.isLt]
  | release a => simp [Change.kind, bodyOf, changeBits]
  | leave | thaw | join => simp [Change.kind, bodyOf, changeBits]
  | freeze d => simp [Change.kind, bodyOf, changeBits]
  | claim k u tag => simp [Change.kind, bodyOf, changeBits, Nat.mod_eq_of_lt k.isLt, Nat.mod_eq_of_lt tag.isLt]

/-- Every body is read back from its bits. -/
theorem bodyOf_bodyBits (body : FrameBody) : bodyOf body.kind (bodyBits body) = some body := by
  cases body with
  | change b c => exact bodyOf_changeBits b c
  | alive | seek => rfl
  | image seg => simp [FrameBody.kind, bodyOf, bodyBits, segmentOf_segmentBits]
  | group code => simp [FrameBody.kind, bodyOf, bodyBits]

/-! ## Frames (Table 2.1, R29) -/

theorem length_arbitrationBits (k : FrameKind) (q : Station) : (arbitrationBits k q).length = 9 := by simp [arbitrationBits]

theorem kindOf_arbitrationBits (k : FrameKind) (q : Station) : kindOf (field (arbitrationBits k q) 0 4) = some k := by
  rw [arbitrationBits, field_natBits]
  cases k <;> rfl

theorem source_arbitrationBits (k : FrameKind) (q : Station) : Fin.ofNat 32 (field (arbitrationBits k q) 4 5) = q := by
  rw [arbitrationBits, field_skip _ _ (by simp)]
  simp [Nat.mod_eq_of_lt q.isLt]

/-- What stands on the line behind the stuffed region: the slots and seven recessive bits. -/
def endBits (slots : Slots) : List Bool := [!slots.ack, !slots.obj] ++ List.replicate 7 true

theorem receiveEnd_of_region {covered : List Bool} {q : Station} {body : FrameBody} {run run' : Nat} {line : List Bool} {slots : Slots}
    (h : unstuff 16 run line = some (bitsOf (frameCheck covered), run', endBits slots)) :
    receiveEnd covered q body run line = .intact q body slots := by
  obtain ⟨ack, obj⟩ := slots
  rw [receiveEnd, h]
  cases ack <;> cases obj <;> simp [endBits]

/-- The body and the end of a frame, its first bits `pre` of the body already taken. -/
theorem receiveBody_of_region {q : Station} {body : FrameBody} {pre more : List Bool} {len run run' : Nat} {line : List Bool}
    {slots : Slots} (bits : bodyBits body = pre ++ more) (length : len = (bodyBits body).length)
    (h : unstuff (more ++ bitsOf (frameCheck (coveredBits q body))).length run line
      = some (more ++ bitsOf (frameCheck (coveredBits q body)), run', endBits slots)) :
    receiveBody (arbitrationBits body.kind q) pre body.kind len run line = .intact q body slots := by
  obtain ⟨run₁, line₁, taken, code⟩ := unstuff_parts h
  have rest : len - pre.length = more.length := by simp [length, bits]
  have covered : arbitrationBits body.kind q ++ pre ++ more = coveredBits q body := by
    rw [coveredBits, bits, List.append_assoc]
  rw [receiveBody, rest, taken]
  dsimp only
  rw [← bits, bodyOf_bodyBits]
  dsimp only
  rw [covered, source_arbitrationBits]
  exact receiveEnd_of_region (by simpa using code)

/-- A segment's bits begin with its index (Table 2.5). -/
theorem segmentBits_index (seg : Segment) : ∃ i more, i ≤ 8 ∧ segmentBits seg = natBits 4 i ++ more
    ∧ bodyLength .image i = (segmentBits seg).length := by
  cases seg with
  | header h => exact ⟨0, _, by decide, rfl, by simp [bodyLength, segmentBits, headerBits]⟩
  | entries i rows =>
    exact ⟨i.val + 1, _, by omega, by simp only [segmentBits, List.append_assoc]; rfl, by simp [bodyLength, segmentBits]⟩

/-- A frame of a kind whose length its code gives. -/
theorem receive_of_head {k : FrameKind} {q : Station} {run : Nat} {line rest : List Bool} (hk : k ≠ .image)
    (head : unstuff 10 0 line = some (false :: arbitrationBits k q, run, rest)) :
    receive line = receiveBody (arbitrationBits k q) [] k (bodyLength k 0) run rest := by
  rw [receive, head]
  dsimp only
  rw [List.drop_one, List.tail_cons, kindOf_arbitrationBits]
  cases k with
  | image => exact absurd rfl hk
  | _ => rfl

/-- A frame whose length its segment index gives. -/
theorem receive_of_index {q : Station} {i run run' : Nat} {line rest rest' : List Bool} (hi : i ≤ 8)
    (head : unstuff 10 0 line = some (false :: arbitrationBits .image q, run, rest))
    (index : unstuff 4 run rest = some (natBits 4 i, run', rest')) :
    receive line = receiveBody (arbitrationBits .image q) (natBits 4 i) .image (bodyLength .image i) run' rest' := by
  have read : field (natBits 4 i) 0 4 = i := by rw [field_natBits_end, Nat.mod_eq_of_lt (by omega)]
  rw [receive, head]
  dsimp only
  rw [List.drop_one, List.tail_cons, kindOf_arbitrationBits]
  dsimp only
  rw [index]
  dsimp only
  rw [read, if_neg (by omega)]

/-- Settles O55: source and kind from the arbitration field, the body by its length, then code, slots and end bits. -/
theorem framesReadBackAsSent : Obligations.FramesReadBackAsSent := by
  unfold Obligations.FramesReadBackAsSent
  intro q body slots
  have sent : lineBits q body slots = stuff 0 (regionBits q body) ++ endBits slots := by simp [lineBits, endBits]
  have region : regionBits q body = (false :: arbitrationBits body.kind q)
      ++ (bodyBits body ++ bitsOf (frameCheck (coveredBits q body))) := by simp [regionBits, coveredBits]
  have whole := unstuff_stuff (regionBits q body) (endBits slots) 0
  rw [← sent, region] at whole
  obtain ⟨run, rest, head, body_code⟩ := unstuff_parts whole
  rw [List.length_cons, length_arbitrationBits] at head
  have of_kind (hk : body.kind ≠ .image) (length : bodyLength body.kind 0 = (bodyBits body).length) :
      receive (lineBits q body slots) = .intact q body slots := by
    rw [receive_of_head hk head]
    exact receiveBody_of_region (pre := []) rfl length body_code
  cases body with
  | change b c =>
    exact of_kind (by cases c <;> exact nofun) (by cases c <;> simp [FrameBody.kind, Change.kind, bodyLength, bodyBits, changeBits])
  | alive | seek => exact of_kind nofun rfl
  | group code => exact of_kind nofun (by simp [FrameBody.kind, bodyLength, bodyBits])
  | image seg =>
    obtain ⟨i, more, hi, bits, length⟩ := segmentBits_index seg
    rw [show bodyBits (.image seg) = natBits 4 i ++ more from bits, List.append_assoc] at body_code
    obtain ⟨run', rest', index, more_code⟩ := unstuff_parts body_code
    rw [length_natBits] at index
    rw [receive_of_index hi head index]
    exact receiveBody_of_region (body := .image seg) bits length more_code

end Sys2Proof.Machine
end

section
/-! SUPPORT. The pins while a reset lasts (R23, R46, R88, R159, R160), and one millisecond of the time base: the rows that it brings, one
by one. -/

namespace Sys2Proof.Machine

/-! ## Output pins -/

theorem State.pins_of_reset {s : State} (h : s.power.running = false) :
    s.irqnHigh = true ∧ ∀ x, s.enableOut x = false ∧ s.levelOut x = false := by
  simp [State.irqnHigh, State.enableOut, State.levelOut, h]

theorem State.driverMayDrive_of_stopped {s : State} (h : s.bus = .stopped) : s.driverMayDrive = false := by
  rw [State.driverMayDrive, h]
  rfl

theorem LoadState.energized_iff (l : LoadState) : l.energized = true ↔ l ∈ [.ramping, .on, .keep, .raiseWait, .raiseClaim] := by
  cases l <;> decide

theorem LoadState.levelHigh_iff (l : LoadState) : l.levelHigh = true ↔ l ∈ [.ramping, .on] := by
  cases l <;> decide

/-- Settles O4: either reset begins with the power state that turns every output off. -/
theorem resetsBeginWithOutputsOff : Obligations.ResetsBeginWithOutputsOff := by
  unfold Obligations.ResetsBeginWithOutputsOff
  intro s
  have held {t : State} (reset : t.power.running = false) (bus : t.bus = .stopped) :
      t.irqnHigh = true ∧ t.driverMayDrive = false ∧ ∀ x, t.enableOut x = false ∧ t.levelOut x = false :=
    ⟨(State.pins_of_reset reset).1, State.driverMayDrive_of_stopped bus, (State.pins_of_reset reset).2⟩
  refine ⟨⟨_, rfl, rfl, held rfl rfl⟩, fun high => ⟨_, ?_, rfl, held (by simp [Power.running]) rfl⟩, fun low => ?_, fun running x => ?_⟩
  · change execRstnAsserted s = _
    rw [execRstnAsserted, high, if_neg (by decide)]
  · change execRstnAsserted s = _
    rw [execRstnAsserted, if_pos low]
  · rw [State.enableOut, State.levelOut, running, Bool.true_and, Bool.true_and]
    exact ⟨LoadState.energized_iff _, LoadState.levelHigh_iff _⟩

/-! ## The rows that a millisecond brings -/

/-- Every row of one millisecond. -/
def State.broughtRows (s : State) : List Instr := s.settledInputs ++ s.expiredTimers

theorem Debouncer.due_iff (d : Debouncer) (raw : Bool) (time : Nat) :
    d.due raw time = true ↔ raw ≠ d.level ∧ time ≤ d.count + 1 := by simp [Debouncer.due]

theorem silenceDue_iff (lease : Nat) (t : Option Nat) : silenceDue lease t = true ↔ ∃ n, t = some n ∧ n + 1 = lease := by
  cases t with
  | none => simp [silenceDue]
  | some n => simp [silenceDue]; omega

theorem runsOut_iff (t : Option Nat) : runsOut t = true ↔ t = some 1 := by simp [runsOut]

section Brought

variable (s : State)

theorem State.seekWaitExpiry_mem : .seekWaitExpiry ∈ s.broughtRows ↔ s.member.seekWait = some 1 := by
  simp [State.broughtRows, State.settledInputs, State.expiredTimers, runsOut_iff]

theorem State.imageGapExpiry_mem : .imageGapExpiry ∈ s.broughtRows ↔ s.member.imageGap = some 1 := by
  simp [State.broughtRows, State.settledInputs, State.expiredTimers, runsOut_iff]

theorem State.fairGapExpiry_mem : .fairGapExpiry ∈ s.broughtRows ↔ s.bus.fairGap = some 1 := by
  simp [State.broughtRows, State.settledInputs, State.expiredTimers, runsOut_iff]

theorem State.freezeTimerExpiry_mem : .freezeTimerExpiry ∈ s.broughtRows ↔ s.freeze.timer = some 1 := by
  simp [State.broughtRows, State.settledInputs, State.expiredTimers, runsOut_iff]

theorem State.rampTimerExpiry_mem (x : LoadIx) : .rampTimerExpiry x ∈ s.broughtRows ↔ (s.load x).ramp = some 1 := by
  simp [State.broughtRows, State.settledInputs, State.expiredTimers, runsOut_iff]

theorem State.silenceTimerExpiry_mem (q : Station) :
    .silenceTimerExpiry q ∈ s.broughtRows ↔ ∃ n, s.lease.silence[q] = some n ∧ n + 1 = durationMs s.lease.code := by
  simp [State.broughtRows, State.settledInputs, State.expiredTimers, silenceDue_iff]

theorem State.quietTimerExpiry_mem :
    .quietTimerExpiry ∈ s.broughtRows ↔ ∃ n, s.lease.quiet = some n
      ∧ (n + 1 = s.lease.renewal ∨ s.bus.has .alive = false ∧ s.lease.renewal ≤ n + 1) := by
  simp [State.broughtRows, State.settledInputs, State.expiredTimers, Lease.quietDue_iff]

/-- A settled input's row carries the raw level. -/
theorem settled_row_iff {raw b level : Bool} {p : Prop} : (raw ≠ level ∧ p) ∧ raw = b ↔ b = raw ∧ b ≠ level ∧ p := by
  constructor
  · rintro ⟨⟨moved, long⟩, rfl⟩
    exact ⟨rfl, moved, long⟩
  · rintro ⟨rfl, moved, long⟩
    exact ⟨⟨moved, long⟩, rfl⟩

theorem State.reqDebouncedChange_mem (x : LoadIx) (b : Bool) :
    .reqDebouncedChange x b ∈ s.broughtRows ↔
      b = s.pins.req[x] ∧ b ≠ (s.loads.req[x]).level ∧ (s.cfg x).debounce.ms ≤ (s.loads.req[x]).count + 1 := by
  rw [← settled_row_iff]
  simp [State.broughtRows, State.settledInputs, State.expiredTimers, Debouncer.due_iff]

theorem State.rdyDebouncedChange_mem (x : LoadIx) (b : Bool) :
    .rdyDebouncedChange x b ∈ s.broughtRows ↔ b = s.pins.rdy[x] ∧ b ≠ (s.loads.rdy[x]).level := by
  have brought := settled_row_iff (raw := s.pins.rdy[x]) (b := b) (level := (s.loads.rdy[x]).level) (p := True)
  simp only [and_true] at brought
  rw [← brought]
  simp [State.broughtRows, State.settledInputs, State.expiredTimers, Debouncer.due_iff, Config.shortDebounceMs]

theorem State.limitDebouncedChange_mem (b : Bool) :
    .limitDebouncedChange b ∈ s.broughtRows ↔ b = s.pins.limit ∧ b ≠ s.cap.limit.level ∧ 32 ≤ s.cap.limit.count + 1 := by
  rw [← settled_row_iff, eq_comm (b := b)]
  simp [State.broughtRows, State.settledInputs, State.expiredTimers, Debouncer.due_iff, Config.longDebounceMs]

theorem State.trgDebouncedAssertion_mem (i : Fin 2) :
    .trgDebouncedAssertion i ∈ s.broughtRows ↔
      s.pins.trg[i] = true ∧ (s.group.trg[i]).level = false ∧ 32 ≤ (s.group.trg[i]).count + 1 := by
  simp +contextual [State.broughtRows, State.settledInputs, State.expiredTimers, Debouncer.due_iff, Config.longDebounceMs]

end Brought

/-! ## The millisecond -/

theorem Debouncer.tick_eq (d : Debouncer) (raw : Bool) :
    d.tick raw = { d with count := if raw = d.level then 0 else d.count + 1 } := by
  unfold Debouncer.tick
  split <;> rfl

/-- A trigger's deassertion is taken by the time base (log 21). -/
theorem Debouncer.tickTrigger_eq (d : Debouncer) (raw : Bool) :
    d.tickTrigger raw =
      (if raw = d.level then { d with count := 0 }
       else if raw = false ∧ 32 ≤ d.count + 1 then { level := false, count := 0 }
       else { d with count := d.count + 1 }) := by
  rw [Debouncer.tickTrigger, Debouncer.tick]
  by_cases agrees : raw = d.level
  · simp [agrees, Debouncer.due]
  · simp [agrees, Debouncer.due, Config.longDebounceMs]

/-- Settles O2: the queue of a running part holds the rows that the millisecond has brought, and each field counts by its own rule. -/
theorem emptyQueueIsOneMillisecond : Obligations.EmptyQueueIsOneMillisecond := by
  unfold Obligations.EmptyQueueIsOneMillisecond
  intro s empty
  refine ⟨s.tick, by rw [step, empty], fun reset => State.whenRunning_of_reset reset _, fun running => ?_⟩
  have tick : s.tick = _ := State.whenRunning_of_running running _
  have queue : s.tick.pending = s.broughtRows := by rw [tick, empty]; rfl
  rw [queue, tick, empty]
  refine ⟨rfl, ?line, ⟨rfl, s.seekWaitExpiry_mem⟩, ⟨rfl, s.imageGapExpiry_mem⟩, ⟨rfl, s.fairGapExpiry_mem⟩,
    ⟨rfl, s.freezeTimerExpiry_mem⟩, fun x => ⟨?ramp, s.rampTimerExpiry_mem x⟩, fun q => ⟨?silence, s.silenceTimerExpiry_mem q⟩,
    ⟨rfl, s.quietTimerExpiry_mem⟩, fun x => ⟨?req, s.reqDebouncedChange_mem x, ?rdy, s.rdyDebouncedChange_mem x⟩,
    ⟨Debouncer.tick_eq _ _, s.limitDebouncedChange_mem⟩, fun i => ⟨s.trgDebouncedAssertion_mem i, ?trg⟩⟩
  case line => cases s.bus.line <;> rfl
  case ramp => simp [State.load, Loads.tick, countDown]
  case silence => simp [silenceTick]
  case req => simp [Loads.tick, Debouncer.tick_eq]
  case rdy => simp [Loads.tick, Debouncer.tick_eq]
  case trg => simp [Debouncer.tickTrigger_eq]

end Sys2Proof.Machine
end

section
/-! SUPPORT. The item of one kind on the send list: what each shared operation does to it, and composition and the standing postings as
far as the send list and the claim slot see them (R40 to R44, R54, R78, R111, R112, R141). -/

namespace Sys2Proof.Machine

/-! ## The item of a kind -/

theorem Bus.has_eq_isSome (b : Bus) (k : FrameKind) : b.has k = (b.item? k).isSome := by
  rw [Bus.has, Bus.item?, List.isSome_find?]

theorem Bus.has_congr {b b' : Bus} {k : FrameKind} (h : b'.item? k = b.item? k) : b'.has k = b.has k := by
  rw [Bus.has_eq_isSome, Bus.has_eq_isSome, h]

theorem Bus.attempts_congr {b b' : Bus} {k : FrameKind} (h : b'.item? k = b.item? k) : b'.attempts k = b.attempts k := by
  rw [Bus.attempts, Bus.attempts, h]

theorem Bus.item?_eq_none {b : Bus} {k : FrameKind} : b.item? k = none ↔ b.has k = false := by
  rw [Bus.has_eq_isSome, Option.isSome_eq_false_iff, Option.isNone_iff_eq_none]

theorem Bus.exists_item {b : Bus} {k : FrameKind} (h : b.has k = true) : ∃ i, b.item? k = some i :=
  Option.isSome_iff_exists.mp (b.has_eq_isSome k ▸ h)

theorem Bus.kind_of_item? {b : Bus} {k : FrameKind} {i : Item} (h : b.item? k = some i) : i.kind = k := by
  simpa using List.find?_some h

@[simp] theorem Bus.item?_drop_self (b : Bus) (k : FrameKind) : (b.drop k).item? k = none :=
  Bus.item?_eq_none.mpr (b.has_drop_self k)

/-- A filter that passes every item of a kind leaves the item of that kind. -/
theorem Bus.item?_filter (b : Bus) {k : FrameKind} {p : Item → Bool} (h : ∀ i, i.kind = k → p i = true) :
    { b with items := b.items.filter p }.item? k = b.item? k := by
  simp only [Bus.item?, List.find?_filter]
  congr 1
  funext i
  by_cases hi : i.kind = k <;> simp_all

theorem Bus.item?_drop_of_ne (b : Bus) {j k : FrameKind} (h : j ≠ k) : (b.drop k).item? j = b.item? j :=
  b.item?_filter fun i hi => by simp [hi, h]

theorem Bus.item?_place_self {b : Bus} {k : FrameKind} (h : b.has k = false) :
    (b.place k).item? k = some { kind := k, attempts := 0, postedAgain := false } := by
  have none_there : b.items.find? (fun i => i.kind == k) = none := Bus.item?_eq_none.mpr h
  simp [Bus.item?, Bus.place, List.find?_append, none_there]

theorem Bus.item?_place_of_ne (b : Bus) {j k : FrameKind} (h : j ≠ k) : (b.place k).item? j = b.item? j := by
  simp [Bus.item?, Bus.place, List.find?_append, Ne.symm h]

theorem Bus.item?_modify (b : Bus) (j k : FrameKind) {f : Item → Item} (hf : ∀ i, (f i).kind = i.kind) :
    (b.modify k f).item? j = (b.item? j).map fun i => if j = k then f i else i := by
  have same_kind : ((fun i : Item => i.kind == j) ∘ fun i => if i.kind == k then f i else i) = fun i => i.kind == j := by
    funext i
    simp only [Function.comp]
    split <;> simp [hf]
  unfold Bus.item? Bus.modify
  rw [List.find?_map, same_kind]
  cases found : b.items.find? fun i => i.kind == j with
  | none => rfl
  | some i =>
    have kind : i.kind = j := by simpa using List.find?_some found
    simp [kind]

theorem Bus.item?_modify_of_ne (b : Bus) {j k : FrameKind} (h : j ≠ k) {f : Item → Item} (hf : ∀ i, (f i).kind = i.kind) :
    (b.modify k f).item? j = b.item? j := by
  rw [Bus.item?_modify _ _ _ hf]
  simp [h]

/-! ## A line on which no item of the node is contended with or in flight -/

/-- The node neither contends with an item nor has one in flight. -/
def Bus.calm (b : Bus) : Prop := ∀ k, b.contends k = false ∧ b.latched k = false

theorem Bus.calm_of_line {b : Bus} (contending : ∀ k, b.line ≠ .contending k) (sending : ∀ body, b.line ≠ .sending body) :
    b.calm := by
  intro k
  unfold Bus.contends Bus.latched
  constructor <;> split <;> simp_all

theorem Bus.calm.congr {b b' : Bus} (h : b.calm) (line : b'.line = b.line) : b'.calm := by
  unfold Bus.calm Bus.contends Bus.latched
  rw [line]
  exact h

theorem State.withdrawItem_of_calm {s : State} (h : s.bus.calm) (k : FrameKind) : s.withdrawItem k = s.dropItem k := by
  obtain ⟨contends, latched⟩ := h k
  simp [State.withdrawItem, contends, latched]

/-! ## Posting -/

theorem State.send_item?_of_ne (s : State) {j k : FrameKind} (h : j ≠ k) : (s.send k).bus.item? j = s.bus.item? j := by
  unfold State.send
  split
  · rfl
  split
  · exact s.bus.item?_place_of_ne h
  split
  · exact s.bus.item?_modify_of_ne h fun _ => rfl
  · rfl

/-- Where no item of the kind is in flight, an item that stands stays as it is. -/
theorem State.send_of_has {s : State} {k : FrameKind} (calm : s.bus.calm) (h : s.bus.has k = true) : s.send k = s := by
  simp [State.send, h, (calm k).2]

/-- Where no item of the kind stands, a posting that the state allows places a new one. -/
theorem State.send_item?_new {s : State} {k : FrameKind} (allowed : s.member.participation.allows k = true) (h : s.bus.has k = false) :
    (s.send k).bus.item? k = some { kind := k, attempts := 0, postedAgain := false } := by
  have placed : (s.send k).bus = s.bus.place k := by simp [State.send, allowed, h]
  rw [placed, Bus.item?_place_self h]

/-- Where the state allows the kind or not: an item stands after a posting where one stood, or where it is allowed. -/
theorem State.send_has_iff (s : State) (k : FrameKind) :
    (s.send k).bus.has k = (s.bus.has k || s.member.participation.allows k) := by
  cases allowed : s.member.participation.allows k with
  | false => simp [s.send_of_not_allowed k allowed]
  | true => simp [s.send_has k allowed]

/-- A posting starts with attempt count 0 and changes no attempt count that stands. -/
theorem State.send_attempts (s : State) (j k : FrameKind) : (s.send k).bus.attempts j = s.bus.attempts j := by
  by_cases h : j = k
  · subst h
    unfold State.send
    split
    · rfl
    split
    next hn =>
      have absent : s.bus.has j = false := by simpa using hn
      simp [Bus.attempts, Bus.item?_place_self absent, Bus.item?_eq_none.mpr absent]
    split
    · change (s.bus.modify j _).attempts j = _
      rw [Bus.attempts, Bus.item?_modify (f := fun i => { i with postedAgain := true }) _ _ _ fun _ => rfl]
      cases found : s.bus.item? j <;> simp [Bus.attempts, found]
    · rfl
  · exact Bus.attempts_congr (s.send_item?_of_ne h)

/-- What a posting does to the send list depends on the list and on the participation state alone. -/
theorem State.send_bus_congr {s u : State} (k : FrameKind) (bus : u.bus = s.bus)
    (participation : u.member.participation = s.member.participation) : (u.send k).bus = (s.send k).bus := by
  unfold State.send
  rw [participation, bus]
  (repeat' split) <;> simp_all

/-! ## The items that an operation can change -/

/-- Bus Controllers that differ in the items of the given kinds alone, on a line without an item contended with or in flight. -/
structure State.itemsOnly (ks : List FrameKind) (s u : State) : Prop where
  calm : u.bus.calm
  rest : u.bus = { s.bus with items := u.bus.items }
  others : ∀ k, k ∉ ks → u.bus.item? k = s.bus.item? k

namespace State.itemsOnly

variable {ks : List FrameKind} {s u v : State}

theorem refl (calm : s.bus.calm) (ks : List FrameKind) : s.itemsOnly ks s := ⟨calm, rfl, fun _ _ => rfl⟩

theorem line (h : s.itemsOnly ks u) : u.bus.line = s.bus.line := by rw [h.rest]
theorem codes (h : s.itemsOnly ks u) : u.bus.codes = s.bus.codes := by rw [h.rest]
theorem failures (h : s.itemsOnly ks u) : u.bus.failures = s.bus.failures := by rw [h.rest]
theorem fairGap (h : s.itemsOnly ks u) : u.bus.fairGap = s.bus.fairGap := by rw [h.rest]
theorem withdrawHeld (h : s.itemsOnly ks u) : u.bus.withdrawHeld = s.bus.withdrawHeld := by rw [h.rest]

theorem onBus (h : s.itemsOnly ks u) (rest : v.bus = { u.bus with items := v.bus.items })
    (others : ∀ k, k ∉ ks → v.bus.item? k = u.bus.item? k) : s.itemsOnly ks v where
  calm := h.calm.congr (by rw [rest])
  rest := by rw [rest, h.rest]
  others k hk := (others k hk).trans (h.others k hk)

theorem trans (h : s.itemsOnly ks u) (h' : u.itemsOnly ks v) : s.itemsOnly ks v := h.onBus h'.rest h'.others

theorem mono {ks' : List FrameKind} (h : s.itemsOnly ks u) (hks : ∀ k ∈ ks, k ∈ ks') : s.itemsOnly ks' u :=
  ⟨h.calm, h.rest, fun k hk => h.others k fun hk' => hk (hks k hk')⟩

/-- An update of another block. -/
theorem elsewhere (h : s.itemsOnly ks u) (bus : v.bus = u.bus) : s.itemsOnly ks v := h.onBus (by rw [bus]) fun _ _ => by rw [bus]

theorem dropItem (h : s.itemsOnly ks u) {k : FrameKind} (hk : k ∈ ks) : s.itemsOnly ks (u.dropItem k) :=
  h.onBus rfl fun _ hj => u.bus.item?_drop_of_ne fun e => hj (e ▸ hk)

theorem withdrawItem (h : s.itemsOnly ks u) {k : FrameKind} (hk : k ∈ ks) : s.itemsOnly ks (u.withdrawItem k) := by
  rw [State.withdrawItem_of_calm h.calm]
  exact h.dropItem hk

theorem send (h : s.itemsOnly ks u) {k : FrameKind} (hk : k ∈ ks) : s.itemsOnly ks (u.send k) :=
  h.onBus (by rw [u.send_eq k]) fun _ hj => u.send_item?_of_ne fun e => hj (e ▸ hk)

theorem retire (h : s.itemsOnly ks u) {k : FrameKind} (hk : k ∈ ks) : s.itemsOnly ks (u.retire k) := by
  unfold State.retire
  split
  · split
    · exact (h.dropItem hk).send hk
    · exact h.dropItem hk
  · exact h

theorem keepItem (h : s.itemsOnly ks u) {k : FrameKind} (hk : k ∈ ks) (n : Nat) : s.itemsOnly ks (u.keepItem k n) :=
  h.onBus rfl fun _ hj => u.bus.item?_modify_of_ne (ne_of_mem_of_not_mem hk hj).symm
    (f := fun i => { i with attempts := n, postedAgain := false }) fun _ => rfl

end State.itemsOnly

/-! ## Composition -/

theorem State.fillSlot_bus (s : State) (x : LoadIx) : (s.fillSlot x).bus = (s.send .claim).bus := by
  unfold State.fillSlot
  apply State.send_bus_congr <;> (repeat' split) <;> simp

theorem State.fillSlot_demand (s : State) (x : LoadIx) : (s.fillSlot x).demand = { s.demand with
    slot := some { load := x, cls := (s.cfg x).cls, units := s.claimUnits x, latched := false, orphaned := false } } := by
  unfold State.fillSlot
  dsimp only
  simp only [State.send_frame]
  split <;> simp

theorem State.fillSlot_grants (s : State) (x : LoadIx) : (s.fillSlot x).loads.grants = s.loads.grants := by
  unfold State.fillSlot
  dsimp only
  simp only [State.send_frame]
  split <;> rfl

/-- A filled slot takes its load from WAITING to CLAIMING or from RAISE_WAIT to RAISE_CLAIM, and changes no load record beside. -/
theorem State.fillSlot_load (s : State) (x y : LoadIx) :
    (s.fillSlot x).load y = { s.load y with state := ((s.fillSlot x).load y).state }
      ∧ (s.load y).state.composedTo ((s.fillSlot x).load y).state := by
  have loads : (s.fillSlot x).loads = (match (s.load x).state with
      | .waiting => s.setLoadState x .claiming
      | .raiseWait => s.setLoadState x .raiseClaim
      | _ => s).loads := by
    unfold State.fillSlot
    dsimp only
    simp only [State.send_frame]
    rfl
  rw [State.load, loads]
  split
  next waiting =>
    change (s.setLoadState x .claiming).load y = { s.load y with state := ((s.setLoadState x .claiming).load y).state }
      ∧ LoadState.composedTo _ ((s.setLoadState x .claiming).load y).state
    rw [State.setLoadState_load]
    refine ⟨rfl, ?_⟩
    split
    next e => exact .inr (.inl ⟨e ▸ waiting, rfl⟩)
    next => exact .inl rfl
  next waiting =>
    change (s.setLoadState x .raiseClaim).load y = { s.load y with state := ((s.setLoadState x .raiseClaim).load y).state }
      ∧ LoadState.composedTo _ ((s.setLoadState x .raiseClaim).load y).state
    rw [State.setLoadState_load]
    refine ⟨rfl, ?_⟩
    split
    next e => exact .inr (.inr ⟨e ▸ waiting, rfl⟩)
    next => exact .inl rfl
  next => exact ⟨rfl, .inl rfl⟩

theorem State.setBlocked_self (s : State) : s.setBlocked s.demand.blocked = s := rfl

theorem State.clearStaleBlock_eq (s : State) : s.clearStaleBlock = s ∨ s.clearStaleBlock = s.setBlocked none := by
  unfold State.clearStaleBlock
  split
  · split
    · exact .inl rfl
    · exact .inr rfl
  · exact .inl rfl

/-- What composition does: the blocked flag alone, or in ACTIVE the empty slot filled with the head load's claim. -/
theorem State.compose_cases (s : State) :
    (∃ b, s.compose = s.setBlocked b)
      ∨ ∃ x, s.member.participation = .active ∧ s.table.frozen = false ∧ s.demand.slot = none ∧ s.demand.queue.head? = some x
        ∧ s.compose = (s.setBlocked none).fillSlot x := by
  have cleared : ∃ b, s.clearStaleBlock = s.setBlocked b := by
    rcases s.clearStaleBlock_eq with e | e
    · exact ⟨_, e⟩
    · exact ⟨_, e⟩
  obtain ⟨b, hb⟩ := cleared
  unfold State.compose
  dsimp only
  rw [hb]
  split
  · exact .inl ⟨b, rfl⟩
  next x rest queue =>
    split
    next may =>
      split
      · exact .inl ⟨some x, rfl⟩
      · simp only [State.mayCompose, State.setBlocked_demand, State.setBlocked_frame, Bool.and_eq_true, beq_iff_eq, Bool.not_eq_true',
          Option.isNone_iff_eq_none] at may
        obtain ⟨⟨⟨active, thawed⟩, unblocked⟩, empty⟩ := may
        have head : s.demand.queue.head? = some x := by
          rw [State.setBlocked_demand] at queue
          simp [show s.demand.queue = x :: rest from queue]
        exact .inr ⟨x, active, thawed, empty, head, by rw [unblocked]⟩
    · exact .inl ⟨b, rfl⟩

/-- Composition changes the slot and the blocked flag of the Demand Scheduler alone. -/
theorem State.compose_demand (s : State) :
    s.compose.demand = { s.demand with slot := s.compose.demand.slot, blocked := s.compose.demand.blocked } := by
  rcases s.compose_cases with ⟨b, e⟩ | ⟨x, -, -, -, -, e⟩
  · rw [e]
    rfl
  · rw [e, State.fillSlot_demand]
    rfl

theorem State.compose_grants (s : State) : s.compose.loads.grants = s.loads.grants := by
  rcases s.compose_cases with ⟨b, e⟩ | ⟨x, -, -, -, -, e⟩
  · rw [e]
    rfl
  · rw [e, State.fillSlot_grants]
    rfl

theorem State.compose_load (s : State) (y : LoadIx) :
    s.compose.load y = { s.load y with state := (s.compose.load y).state } ∧ (s.load y).state.composedTo (s.compose.load y).state := by
  rcases s.compose_cases with ⟨b, e⟩ | ⟨x, -, -, -, -, e⟩
  · rw [e]
    exact ⟨rfl, .inl rfl⟩
  · rw [e]
    exact (s.setBlocked none).fillSlot_load x y

/-- A filled slot stays as it is. -/
theorem State.compose_of_slot {s : State} {c : ClaimSlot} (h : s.demand.slot = some c) : ∃ b, s.compose = s.setBlocked b := by
  rcases s.compose_cases with e | ⟨x, -, -, empty, -⟩
  · exact e
  · rw [h] at empty
    cases empty

/-- Where the slot was empty: composition leaves it empty with the send list as it was, or fills it in ACTIVE and posts CLAIM. -/
theorem State.compose_of_empty {s : State} (h : s.demand.slot = none) :
    s.compose.demand.slot = none ∧ s.compose.bus = s.bus
      ∨ (∃ c, s.compose.demand.slot = some c ∧ c.latched = false ∧ c.orphaned = false)
        ∧ s.member.participation = .active ∧ s.compose.bus = (s.send .claim).bus := by
  rcases s.compose_cases with ⟨b, e⟩ | ⟨x, active, -, -, -, e⟩
  · rw [e]
    exact .inl ⟨h, rfl⟩
  · rw [e, State.fillSlot_bus, State.fillSlot_demand]
    exact .inr ⟨⟨_, rfl, rfl, rfl⟩, active, State.send_bus_congr _ rfl rfl⟩

theorem State.compose_bus (s : State) : s.compose.bus = s.bus ∨ s.compose.bus = (s.send .claim).bus := by
  rcases s.compose_cases with ⟨b, e⟩ | ⟨x, -, -, -, -, e⟩
  · rw [e]
    exact .inl rfl
  · rw [e, State.fillSlot_bus]
    exact .inr (State.send_bus_congr _ rfl rfl)

/-! ## The standing postings and the end of a handling -/

namespace State.itemsOnly

variable {ks : List FrameKind} {s u v : State}

theorem compose (h : s.itemsOnly ks u) (hk : .claim ∈ ks) : s.itemsOnly ks u.compose := by
  rcases u.compose_bus with e | e
  · exact h.elsewhere e
  · exact (h.send hk).elsewhere e

theorem standEvict (h : s.itemsOnly ks u) (hk : .evict ∈ ks) : s.itemsOnly ks u.standEvict := by
  unfold State.standEvict
  split
  · exact h.send hk
  · exact h

theorem standThaw (h : s.itemsOnly ks u) (hk : .thaw ∈ ks) : s.itemsOnly ks u.standThaw := by
  unfold State.standThaw
  split
  · exact h.send hk
  · exact h

theorem standImage (h : s.itemsOnly ks u) (hk : .image ∈ ks) : s.itemsOnly ks u.standImage := by
  unfold State.standImage
  split
  · exact h.send hk
  · exact h

theorem settle (h : s.itemsOnly ks u) (hks : ∀ k ∈ [.claim, .evict, .thaw, .image], k ∈ ks) : s.itemsOnly ks u.settle :=
  (((h.compose (hks _ (by simp))).standEvict (hks _ (by simp))).standThaw (hks _ (by simp))).standImage (hks _ (by simp))

end State.itemsOnly

theorem State.settle_demand (s : State) : s.settle.demand = s.compose.demand := by simp [State.settle]

theorem State.settle_loads (s : State) : s.settle.loads = s.compose.loads := by simp [State.settle]

/-- The items that a handling's end can place; every other item stays as it is. -/
theorem State.settle_item?_of_other {s : State} (calm : s.bus.calm) {k : FrameKind} (hk : k ∉ [.claim, .evict, .thaw, .image]) :
    s.settle.bus.item? k = s.bus.item? k :=
  ((State.itemsOnly.refl calm _).settle fun _ h => h).others k hk

end Sys2Proof.Machine
end

section
/-! SUPPORT. The end of a handling as the send list sees it, and the items that each operation of an own frame's end can change. -/

namespace Sys2Proof.Machine

/-! ## The end of a handling -/

theorem Participation.allows_of_inStep {p : Participation} (h : p.inStep = true) :
    p.allows .evict = true ∧ p.allows .thaw = true ∧ p.allows .image = true := by
  revert h
  cases p <;> decide

theorem Lease.marked_iff (l : Lease) : l.marked = true ↔ ∃ q : Station, l.marks[q] = true := by
  simp [Lease.marked, allStations]

/-- What every posting keeps of the send list, the end of a handling keeps. -/
theorem State.settle_keeps_bus {P : Bus → Prop} (send : ∀ (u : State) (k : FrameKind), P u.bus → P (u.send k).bus) {s : State}
    (h : P s.bus) : P s.settle.bus := by
  have stand {u : State} (hu : P u.bus) (b : Bool) (k : FrameKind) : P (if b then u.send k else u).bus := by
    split
    · exact send u k hu
    · exact hu
  have composed : P s.compose.bus := by
    rcases s.compose_bus with e | e
    · exact e ▸ h
    · exact e ▸ send s .claim h
  exact stand (stand (stand composed _ .evict) _ .thaw) _ .image

/-- The end of a handling leaves the items that stand. -/
theorem State.settle_item?_of_has {s : State} (calm : s.bus.calm) {k : FrameKind} (h : s.bus.has k = true) :
    s.settle.bus.item? k = s.bus.item? k := by
  refine (State.settle_keeps_bus (P := fun b => b.calm ∧ b.item? k = s.bus.item? k) (fun u j ⟨hc, hi⟩ => ⟨?_, ?_⟩)
    ⟨calm, rfl⟩).2
  · exact hc.congr (by rw [u.send_eq j])
  · by_cases e : k = j
    · subst e
      rw [State.send_of_has hc (by rw [Bus.has_congr hi, h]), hi]
    · rw [u.send_item?_of_ne e, hi]

/-- No attempt count changes at the end of a handling. -/
theorem State.settle_attempts (s : State) (k : FrameKind) : s.settle.bus.attempts k = s.bus.attempts k :=
  State.settle_keeps_bus (P := fun b => b.attempts k = s.bus.attempts k) (fun u j h => (u.send_attempts k j).trans h) rfl

/-- A standing posting: with its cause an item stands, and without it the items stay. -/
theorem State.stand_has {s : State} {k : FrameKind} {cause : Bool} (allowed : cause = true → s.member.participation.allows k = true) :
    (if cause && !s.bus.has k then s.send k else s).bus.has k = (s.bus.has k || cause) := by
  cases cause with
  | false => simp
  | true => cases has : s.bus.has k <;> simp [has, s.send_has k (allowed rfl)]

/-- A standing posting finds nothing to do where its cause has its item. -/
theorem State.stand_of_has {s : State} {k : FrameKind} {cause : Bool} (h : cause = true → s.bus.has k = true) :
    (if cause && !s.bus.has k then s.send k else s) = s := by
  cases cause with
  | false => rfl
  | true => simp [h rfl]

theorem State.standEvict_has (s : State) :
    s.standEvict.bus.has .evict = (s.bus.has .evict || (s.member.participation.inStep && s.lease.marked)) := by
  refine State.stand_has fun cause => ?_
  obtain ⟨in_step, -⟩ := Bool.and_eq_true_iff.mp cause
  obtain ⟨allowed, -, -⟩ := Participation.allows_of_inStep in_step
  exact allowed

theorem State.standThaw_has (s : State) :
    s.standThaw.bus.has .thaw = (s.bus.has .thaw || (s.member.participation.inStep && s.freeze.thawMark)) := by
  refine State.stand_has fun cause => ?_
  obtain ⟨in_step, -⟩ := Bool.and_eq_true_iff.mp cause
  obtain ⟨-, allowed, -⟩ := Participation.allows_of_inStep in_step
  exact allowed

theorem State.standImage_has (s : State) : s.standImage.bus.has .image =
    (s.bus.has .image || (s.member.participation.inStep && s.member.imageOwed && s.member.train.isNone)) := by
  refine State.stand_has fun cause => ?_
  obtain ⟨owed, -⟩ := Bool.and_eq_true_iff.mp cause
  obtain ⟨in_step, -⟩ := Bool.and_eq_true_iff.mp owed
  obtain ⟨-, -, allowed⟩ := Participation.allows_of_inStep in_step
  exact allowed

theorem State.settle_has_evict {s : State} (calm : s.bus.calm) :
    s.settle.bus.has .evict = (s.bus.has .evict || (s.member.participation.inStep && s.lease.marked)) := by
  have composed : s.itemsOnly [.claim] s.compose := (State.itemsOnly.refl calm _).compose (by simp)
  have stood := (State.itemsOnly.refl composed.calm [.evict]).standEvict (by simp)
  have after := ((State.itemsOnly.refl stood.calm [.thaw, .image]).standThaw (by simp)).standImage (by simp)
  rw [State.settle, Bus.has_congr (after.others .evict (by decide)), State.standEvict_has,
    Bus.has_congr (composed.others .evict (by decide))]
  simp

theorem State.settle_has_thaw {s : State} (calm : s.bus.calm) :
    s.settle.bus.has .thaw = (s.bus.has .thaw || (s.member.participation.inStep && s.freeze.thawMark)) := by
  have before := ((State.itemsOnly.refl calm [.claim, .evict]).compose (by simp)).standEvict (by simp)
  have stood := (State.itemsOnly.refl before.calm [.thaw]).standThaw (by simp)
  have after := (State.itemsOnly.refl stood.calm [.image]).standImage (by simp)
  rw [State.settle, Bus.has_congr (after.others .thaw (by decide)), State.standThaw_has,
    Bus.has_congr (before.others .thaw (by decide))]
  simp

theorem State.settle_has_image {s : State} (calm : s.bus.calm) : s.settle.bus.has .image =
    (s.bus.has .image || (s.member.participation.inStep && s.member.imageOwed && s.member.train.isNone)) := by
  have before := (((State.itemsOnly.refl calm [.claim, .evict, .thaw]).compose (by simp)).standEvict (by simp)).standThaw (by simp)
  rw [State.settle, State.standImage_has, Bus.has_congr (before.others .image (by decide))]
  simp

/-- The CLAIM item at the end of a handling is that of composition. -/
theorem State.settle_claim {s : State} (calm : s.bus.calm) : s.settle.bus.item? .claim = s.compose.bus.item? .claim := by
  have composed : s.itemsOnly [.claim] s.compose := (State.itemsOnly.refl calm _).compose (by simp)
  have after := (((State.itemsOnly.refl composed.calm [.evict, .thaw, .image]).standEvict (by simp)).standThaw (by simp)).standImage
    (by simp)
  exact after.others .claim (by decide)

/-- With no claim in the slot and no CLAIM item: at the end of the handling both are there, or neither. -/
theorem State.settle_of_no_claim {s : State} (calm : s.bus.calm) (slot : s.demand.slot = none) (item : s.bus.has .claim = false) :
    s.settle.demand.slot = none ∧ s.settle.bus.has .claim = false
      ∨ (∃ c, s.settle.demand.slot = some c ∧ c.latched = false ∧ c.orphaned = false)
        ∧ s.settle.bus.item? .claim = some { kind := .claim, attempts := 0, postedAgain := false } := by
  rw [State.settle_demand, Bus.has_congr (State.settle_claim calm), State.settle_claim calm]
  rcases State.compose_of_empty slot with ⟨empty, bus⟩ | ⟨filled, active, bus⟩
  · exact .inl ⟨empty, by rw [bus, item]⟩
  · exact .inr ⟨filled, by rw [bus, State.send_item?_new (by rw [active]; rfl) item]⟩

/-! ## The item of an operation -/

namespace State.itemsOnly

variable {ks : List FrameKind} {s u v : State}

theorem foldl {α : Type} {f : State → α → State} (hf : ∀ (v : State) (a : α), v.bus.calm → v.itemsOnly ks (f v a)) :
    ∀ (l : List α) {u : State}, s.itemsOnly ks u → s.itemsOnly ks (l.foldl f u)
  | [], _, h => h
  | a :: l, u, h => foldl hf l (h.trans (hf u a h.calm))

theorem post (h : s.itemsOnly ks u) (c : EventCode) (a : Byte) : s.itemsOnly ks (u.post c a) := h.elsewhere (by simp)

/-! ### Demand and loads -/

theorem freeUnits (h : s.itemsOnly ks u) (hk : .release ∈ ks) (k : ClassIx) (n : Nat) : s.itemsOnly ks (u.freeUnits k n) := by
  unfold State.freeUnits
  split
  · exact h
  · exact (h.elsewhere (by rfl)).send hk

theorem endClaim (h : s.itemsOnly ks u) (hk : .claim ∈ ks) (x : LoadIx) : s.itemsOnly ks (u.endClaim x) := by
  unfold State.endClaim
  (repeat' split)
  · exact h.elsewhere (by rfl)
  · exact h.withdrawItem hk
  · exact (h.withdrawItem hk).elsewhere (by rfl)
  · exact h
  · exact h

theorem freezeClaim (h : s.itemsOnly ks u) (hk : .claim ∈ ks) : s.itemsOnly ks u.freezeClaim := by
  unfold State.freezeClaim
  (repeat' split)
  · exact h
  · exact (h.elsewhere (by simp)).withdrawItem hk
  · exact h

theorem dropLoad (h : s.itemsOnly ks u) (hks : .claim ∈ ks ∧ .release ∈ ks) (x : LoadIx) (l : LoadState) :
    s.itemsOnly ks (u.dropLoad x l) := by
  unfold State.dropLoad
  dsimp only
  refine freeUnits ?_ hks.2 _ _
  split
  · exact (h.elsewhere (by rfl)).endClaim hks.1 x
  · exact h.elsewhere (by rfl)

theorem lowerToKeep (h : s.itemsOnly ks u) (hk : .release ∈ ks) (x : LoadIx) : s.itemsOnly ks (u.lowerToKeep x) := by
  unfold State.lowerToKeep
  dsimp only
  split
  · exact (h.elsewhere (by rfl)).freeUnits hk _ _
  · exact h

theorem grantLoad (h : s.itemsOnly ks u) (hk : .release ∈ ks) (x : LoadIx) : s.itemsOnly ks (u.grantLoad x) := by
  unfold State.grantLoad
  dsimp only
  (repeat' split)
  · exact (h.elsewhere (by rfl)).lowerToKeep hk x
  · exact h.elsewhere (by rfl)
  · exact h

theorem shedToKeep (h : s.itemsOnly ks u) (hk : .release ∈ ks) (x : LoadIx) : s.itemsOnly ks (u.shedToKeep x) := by
  have shed := (h.lowerToKeep hk x).post .shed (argOf x.val)
  unfold State.shedToKeep
  dsimp only
  split
  · exact shed.elsewhere (by simp)
  · exact shed

theorem shedOff (h : s.itemsOnly ks u) (hks : .claim ∈ ks ∧ .release ∈ ks) (x : LoadIx) : s.itemsOnly ks (u.shedOff x) :=
  (h.dropLoad hks x .off).elsewhere (by simp [State.shedOff])

theorem shedKeeps (hk : .release ∈ ks) (k : ClassIx) (n : Nat) :
    ∀ (l : List LoadIx) {u : State}, s.itemsOnly ks u → s.itemsOnly ks (shedKeeps k n l u)
  | [], _, h => h
  | x :: xs, u, h => by
    unfold Machine.shedKeeps
    (repeat' split)
    · exact h
    · exact shedKeeps hk k n xs (h.shedToKeep hk x)
    · exact shedKeeps hk k n xs h

theorem shedOffs (hks : .claim ∈ ks ∧ .release ∈ ks) (k : ClassIx) (n : Nat) :
    ∀ (l : List LoadIx) {u : State}, s.itemsOnly ks u → s.itemsOnly ks (shedOffs k n l u)
  | [], _, h => h
  | x :: xs, u, h => by
    unfold Machine.shedOffs
    (repeat' split)
    · exact h
    · exact shedOffs hks k n xs (h.shedOff hks x)
    · exact shedOffs hks k n xs h

theorem shedIfOverCap (h : s.itemsOnly ks u) (hks : .claim ∈ ks ∧ .release ∈ ks) : s.itemsOnly ks u.shedIfOverCap := by
  unfold State.shedIfOverCap
  split
  · refine foldl (fun v k calm => ?_) _ h
    dsimp only
    split
    · exact shedOffs hks k _ _ (shedKeeps hks.2 k _ _ (refl calm ks))
    · exact refl calm ks
  · exact h

/-! ### Cap, freeze and lease -/

theorem takeCap (h : s.itemsOnly ks u) (hk : .cap ∈ ks) (w : Word16) : s.itemsOnly ks (u.takeCap w) := by
  unfold State.takeCap
  (repeat' split)
  · exact h.elsewhere (by rfl)
  · exact (h.elsewhere (by rfl)).withdrawItem hk
  · exact (h.elsewhere (by rfl)).send hk
  · exact h.elsewhere (by rfl)

theorem takeHeldCap (h : s.itemsOnly ks u) (hk : .cap ∈ ks) : s.itemsOnly ks u.takeHeldCap := by
  unfold State.takeHeldCap
  split
  · exact (h.elsewhere (by rfl)).takeCap hk _
  · exact h

theorem capApplied (h : s.itemsOnly ks u) (hk : .cap ∈ ks) (q : Station) (w : Word16) : s.itemsOnly ks (u.capApplied q w) := by
  unfold State.capApplied
  split
  · exact (h.elsewhere (by rfl)).withdrawItem hk
  · exact h

theorem compareCap (h : s.itemsOnly ks u) (hk : .cap ∈ ks) : s.itemsOnly ks u.compareCap := by
  unfold State.compareCap
  (repeat' split)
  · exact h.elsewhere (by rfl)
  · exact h.send hk
  · exact h

theorem freezeApplied (h : s.itemsOnly ks u) (hk : .thaw ∈ ks) (d : TimeCode) : s.itemsOnly ks (u.freezeApplied d) :=
  (h.elsewhere (by rfl)).withdrawItem hk

theorem thawApplied (h : s.itemsOnly ks u) (hk : .thaw ∈ ks) : s.itemsOnly ks u.thawApplied := (h.elsewhere (by rfl)).withdrawItem hk

theorem repostFreeze (h : s.itemsOnly ks u) (hk : .freeze ∈ ks) : s.itemsOnly ks u.repostFreeze := by
  unfold State.repostFreeze
  split
  · exact h.send hk
  · exact h

theorem withdrawEvictIfUnmarked (h : s.itemsOnly ks u) (hk : .evict ∈ ks) : s.itemsOnly ks u.withdrawEvictIfUnmarked := by
  unfold State.withdrawEvictIfUnmarked
  split
  · exact h
  · exact h.withdrawItem hk

theorem heard (h : s.itemsOnly ks u) (hk : .evict ∈ ks) (q : Station) : s.itemsOnly ks (u.heard q) := by
  unfold State.heard
  dsimp only
  (repeat' split)
  · exact h
  · exact (h.elsewhere (by rfl)).withdrawEvictIfUnmarked hk
  · exact h.elsewhere (by rfl)

theorem memberRemoved (h : s.itemsOnly ks u) (hk : .evict ∈ ks) (q : Station) : s.itemsOnly ks (u.memberRemoved q) :=
  (h.elsewhere (by rfl)).withdrawEvictIfUnmarked hk

/-! ### Membership -/

/-- A change to a state leaves the items of the kinds it allows; no removal is held (R41). -/
theorem setParticipation (h : s.itemsOnly ks u) (p : Participation) (hks : ∀ k, p.allows k = false → k ∈ ks) :
    s.itemsOnly ks (u.setParticipation p) := by
  have none_held : (u.bus.items.any fun i => !p.allows i.kind && u.bus.contends i.kind) = false := by
    simp [(h.calm _).1]
  refine h.onBus ?_ fun k hk => ?_
  · change u.bus.changeState p = { u.bus with items := (u.bus.changeState p).items }
    simp [Bus.changeState, none_held]
  · have allowed : p.allows k = true := by
      by_contra not_allowed
      exact hk (hks k (by simpa using not_allowed))
    have same := u.bus.item?_filter (k := k) (p := fun i => !u.bus.removable p i.kind) fun i hi => by simp [hi, Bus.removable, allowed]
    exact same

theorem joined (h : s.itemsOnly ks u) (hks : ∀ k ∈ [.seek, .cap, .freeze], k ∈ ks) : s.itemsOnly ks u.joined := by
  have entered : s.itemsOnly ks (u.setParticipation .active) := h.setParticipation .active fun k hk => hks k (by
    revert hk
    cases k <;> decide)
  have flag_cleared : s.itemsOnly ks ((u.setParticipation .active).postPhase.setBlocked none) := entered.elsewhere (by simp)
  exact (flag_cleared.compareCap (hks _ (by simp))).repostFreeze (hks _ (by simp))

/-! ### The node's own frame -/

theorem claimGranted (h : s.itemsOnly ks u) (hk : .release ∈ ks) (k : ClassIx) (n : Nat) (tag : LoadIx) :
    s.itemsOnly ks (u.claimGranted k n tag) := by
  unfold State.claimGranted
  (repeat' split)
  · exact (h.elsewhere (by rfl)).freeUnits hk k n
  · exact ((h.post _ _).grantLoad hk _).elsewhere (by rfl)
  · exact h

theorem claimDenied (h : s.itemsOnly ks u) (tag : LoadIx) : s.itemsOnly ks (u.claimDenied tag) := h.elsewhere (by
  unfold State.claimDenied
  dsimp only
  (repeat' split) <;> simp)

end State.itemsOnly

end Sys2Proof.Machine
end

section
/-! SUPPORT. Contention, arbitration and the latch (2.5). -/

namespace Sys2Proof.Machine

/-! ## Contention (R42) -/

theorem FrameKind.all_pairwise : FrameKind.all.Pairwise (fun j k => j.code < k.code) := by decide

theorem FrameKind.mem_all (k : FrameKind) : k ∈ FrameKind.all := by cases k <;> decide

/-- The node chooses the eligible kind of lowest code. -/
theorem State.chosen_of_lowest {s : State} {k : FrameKind} (eligible : s.eligible k = true)
    (lowest : ∀ j, s.eligible j = true → k.code ≤ j.code) : s.chosen = some k := by
  cases found : s.chosen with
  | none => exact absurd eligible (List.find?_eq_none.mp found k (FrameKind.mem_all k))
  | some j =>
    obtain ⟨hj, before, after, split, passed_over⟩ := List.find?_eq_some_iff_append.mp found
    have sorted : (before ++ j :: after).Pairwise (fun j k => j.code < k.code) := split ▸ FrameKind.all_pairwise
    have place : k ∈ before ++ j :: after := split ▸ FrameKind.mem_all k
    rcases List.mem_append.mp place with early | late
    · have not_eligible := passed_over k early
      rw [eligible] at not_eligible
      cases not_eligible
    · rcases List.mem_cons.mp late with rfl | behind
      · rfl
      · have lower := List.rel_of_pairwise_cons (List.pairwise_append.mp sorted).2.1 behind
        exact absurd (lowest j hj) (not_le.mpr lower)

theorem State.chosen_of_none {s : State} (h : ∀ k, s.eligible k = false) : s.chosen = none :=
  List.find?_eq_none.mpr fun k _ => by simp [h k]

/-! ## What was held is taken (R41, R44, R128) -/

theorem State.takeHeldWithdrawal_of_not_held {s : State} (h : s.bus.withdrawHeld = false) (k : FrameKind) :
    s.takeHeldWithdrawal k = s := by
  simp [State.takeHeldWithdrawal, h]

theorem State.takeHeldWithdrawal_bus (s : State) (k : FrameKind) : (s.takeHeldWithdrawal k).bus =
    { s.bus with items := if s.bus.withdrawHeld then (s.bus.drop k).items else s.bus.items, withdrawHeld := false } := by
  unfold State.takeHeldWithdrawal
  split
  · dsimp only
    split <;> simp [Bus.drop]
  next not_held =>
    have : s.bus.withdrawHeld = false := by simpa using not_held
    rw [← this]

theorem State.takeHeldCap_of_none {s : State} (h : s.cap.held = none) : s.takeHeldCap = s := by simp [State.takeHeldCap, h]

theorem State.contentionOver_of_nothing_held {s : State} (withdrawal : s.bus.withdrawHeld = false) (cap : s.cap.held = none)
    (k : FrameKind) : s.contentionOver k = s := by
  rw [State.contentionOver, State.takeHeldWithdrawal_of_not_held withdrawal]
  simp [State.takeHeldCap_of_none cap]

/-- After what was held is taken, the CAP item alone can change. -/
theorem State.contentionOver_itemsOnly {s : State} (calm : s.bus.calm) (k : FrameKind) :
    (s.takeHeldWithdrawal k).itemsOnly [.cap] (s.contentionOver k) := by
  have held_calm : (s.takeHeldWithdrawal k).bus.calm := calm.congr (by rw [s.takeHeldWithdrawal_bus k])
  unfold State.contentionOver
  dsimp only
  split
  · exact (State.itemsOnly.refl held_calm _).takeHeldCap (by simp)
  · exact .refl held_calm _

theorem Bus.calm_following (b : Bus) (d : SlotDrive) : { b with line := .following d }.calm := Bus.calm_of_line nofun nofun

theorem Bus.calm_integrating (b : Bus) : { b with line := .integrating }.calm := Bus.calm_of_line nofun nofun

theorem Bus.calm_gap (b : Bus) : { b with line := .gap }.calm := Bus.calm_of_line nofun nofun

/-- Settles O22: the choice by the order of the kinds; a lost arbitration by what it takes and the end of the handling. -/
theorem contentionAndLostArbitration : Obligations.ContentionAndLostArbitration := by
  unfold Obligations.ContentionAndLostArbitration
  refine ⟨fun s running idle => ?contends, fun s k running line => ?lost⟩
  case contends =>
    have row : exec .contention s = .next (match s.chosen with
        | some k => s.setLine (.contending k)
        | none => s) := by
      change execContention s = _
      rw [execContention, State.whenRunning_of_running running, idle]
      rfl
    rw [row]
    exact ⟨fun k eligible lowest => by rw [State.chosen_of_lowest eligible lowest]; rfl,
      fun none_eligible => by rw [State.chosen_of_none none_eligible]⟩
  case lost =>
    have row : exec .arbitrationLost s = .next ((s.setLine (.following .undecided)).contentionOver k).settle := by
      change execArbitrationLost s = _
      rw [execArbitrationLost, State.whenRunning_of_running running, line]
    have calm : (s.setLine (.following .undecided)).bus.calm := s.bus.calm_following _
    have taken := State.contentionOver_itemsOnly calm k
    have ended := (taken.mono (ks' := [.cap, .claim, .evict, .thaw, .image]) (by decide)).settle (by decide)
    have held := (s.setLine (.following .undecided)).takeHeldWithdrawal_bus k
    refine ⟨_, row, by rw [ended.line, held]; rfl, by rw [ended.withdrawHeld, held], by rw [ended.failures, held]; rfl,
      by rw [ended.codes, held]; rfl, by rw [ended.fairGap, held]; rfl, fun not_held no_cap has => ?_, by simp,
      by simp, by simp, by simp, by simp, by simp⟩
    rw [State.contentionOver_of_nothing_held (by exact not_held) (by exact no_cap), State.settle_item?_of_has calm has]
    rfl

/-! ## The latch (R43, R44) -/

theorem State.toldLatched_bus (s : State) (body : FrameBody) : (s.toldLatched body).bus = s.bus := by
  unfold State.toldLatched
  split <;> rfl

theorem State.latch_of_body {s : State} {k : FrameKind} {body : FrameBody} (h : s.latchBody k = some body) :
    s.latch k = { s.toldLatched body with bus := { s.bus with line := .sending body, withdrawHeld := false } } := by
  rw [State.latch, h]
  simp only [State.toldLatched_bus]

theorem exec_itemLatch {s : State} (running : s.power.running = true) {k : FrameKind} {body : FrameBody}
    (line : s.bus.line = .contending k) (h : s.latchBody k = some body) : exec .itemLatch s = .next
      { s.toldLatched body with bus := { s.bus with line := .sending body, withdrawHeld := false } } := by
  change execItemLatch s = _
  rw [execItemLatch, State.whenRunning_of_running running, line, ← State.latch_of_body h]

theorem Lease.lowestMark_of_least {l : Lease} {q : Station} (mark : l.marks[q] = true) (least : ∀ p, p < q → l.marks[p] = false) :
    l.lowestMark = some q := by
  refine List.find?_eq_some_iff_getElem.mpr ⟨mark, q.val, by simp [allStations], by simp [allStations], fun j hj => ?_⟩
  have := least ⟨j, hj.trans q.isLt⟩ hj
  simpa [allStations] using this

/-- Settles O23: the body is fixed by `latchBody`, and each posting block takes its part of the latch. -/
theorem latchFixesBody : Obligations.LatchFixesBody := by
  unfold Obligations.LatchFixesBody
  refine fun s running => ⟨fun k body line body_fixed => ?any, fun v line request => ?cap, fun q line mark least => ?evict,
    fun line small => ?release, fun d line request => ?freeze, fun c line slot small => ?claim, fun c cs line codes => ?group⟩
  case any => exact ⟨_, exec_itemLatch running line body_fixed, rfl, by simp, by simp, by simp, by simp, by simp⟩
  case cap =>
    have body : s.latchBody .cap = some (.change s.table.base (.cap v)) := by simp [State.latchBody, request]
    exact ⟨_, exec_itemLatch running line body, rfl⟩
  case evict =>
    have body : s.latchBody .evict = some (.change s.table.base (.evict q)) := by
      simp [State.latchBody, Lease.lowestMark_of_least mark least]
    exact ⟨_, exec_itemLatch running line body, rfl, rfl⟩
  case release =>
    refine ⟨_, _, exec_itemLatch running line rfl, rfl, fun k => ?_, rfl, rfl⟩
    have fits := small k
    fin_cases k <;> exact Nat.mod_eq_of_lt (Nat.lt_succ_of_le fits)
  case freeze =>
    have body : s.latchBody .freeze = some (.change s.table.base (.freeze d)) := by simp [State.latchBody, request]
    exact ⟨_, exec_itemLatch running line body, rfl, rfl⟩
  case claim =>
    have body : s.latchBody .claim = some (.change s.table.base (.claim c.cls (.ofNat 8 c.units) c.load)) := by
      simp [State.latchBody, slot]
    refine ⟨_, .ofNat 8 c.units, exec_itemLatch running line body, rfl, Nat.mod_eq_of_lt (Nat.lt_succ_of_le small), ?_⟩
    change s.demand.slot.map _ = _
    rw [slot]
    rfl
  case group =>
    have body : s.latchBody .group = some (.group c) := by simp [State.latchBody, codes]
    exact ⟨_, exec_itemLatch running line body, rfl⟩

end Sys2Proof.Machine
end

section
/-! SUPPORT. Discards, line errors and slots (2.3, 2.4), the lease rows (4.4, 4.5), and the ends of ramps and of the image gap. -/

namespace Sys2Proof.Machine

/-! ## Discards, line errors and the slots -/

theorem State.postAt_port_congr {s u : State} (h : u.port = s.port) (w : Word16) (c : EventCode) (a : Byte) :
    (u.postAt w c a).port = (s.postAt w c a).port := by
  rw [State.postAt_port, State.postAt_port, h]

/-- What a posting adds to the port depends on the port and on the table's commit number alone. -/
theorem State.post_port_congr {s u : State} (h : u.port = s.port) (commit : u.table.commit = s.table.commit) (c : EventCode) (a : Byte) :
    (u.post c a).port = (s.post c a).port := by
  rw [State.post, State.post, commit]
  exact State.postAt_port_congr h _ _ _

theorem State.abandon_port (s : State) (cause : AbandonCause) :
    (s.abandon cause).port = (s.post .imageFailed (argOf cause.number)).port := by
  simp only [State.abandon, State.sendSeek_frame]
  exact State.post_port_congr (by rfl) (by rfl) _ _

/-- Where the state allows SEEK, a collection abandoned leaves a SEEK item. -/
theorem State.abandon_has_seek {s : State} (seeking : s.member.participation = .seeking) (cause : AbandonCause) :
    (s.abandon cause).bus.has .seek = true :=
  State.send_has _ _ (by simp [seeking, Participation.allows])

theorem Table.base_eq_iff (t : Table) (b : Base) : b = t.base ↔ b.commit = t.commit ∧ b.check = t.check := by
  cases b
  simp [Table.base]

theorem State.slotFor_eq (s : State) (q : Station) (b : Base) : s.slotFor q b =
    if q ≠ s.address ∧ s.member.participation.inStep = true then
      if b.commit = s.table.commit ∧ b.check = s.table.check then .ack else .obj
    else .nothing := by
  simp only [State.slotFor, Table.base_eq_iff]

theorem State.reportDiscard_of_no_collection {s : State} (h : s.member.collection = none) : s.reportDiscard = s := by
  simp [State.reportDiscard, h]

/-- Settles O25: each row moves the line; a discard abandons a collection in progress; the slot by the node's own base. -/
theorem slotsDiscardsAndLineErrors : Obligations.SlotsDiscardsAndLineErrors := by
  unfold Obligations.SlotsDiscardsAndLineErrors
  refine ⟨fun s running => ⟨fun line => ?error, fun line => ?integrated, fun why d line => ?discard⟩,
    fun s q b running line => ?slot⟩
  case error =>
    change execLineError s = _
    rw [execLineError, State.whenRunning_of_running running, if_pos line]
    rfl
  case integrated =>
    change execIntegrationComplete s = _
    rw [execIntegrationComplete, State.whenRunning_of_running running, if_pos line]
    rfl
  case discard =>
    have row : exec (.frameDiscarded why) s = .next (s.setLine (lineAfterDiscard why)).reportDiscard := by
      change execFrameDiscarded why s = _
      rw [execFrameDiscarded, State.whenRunning_of_running running, line]
      rfl
    refine ⟨fun no_collection => ?_, fun seeking collecting => ?_⟩
    · rw [row, State.reportDiscard_of_no_collection (by exact no_collection)]
      cases why <;> rfl
    · have abandoned : (s.setLine (lineAfterDiscard why)).reportDiscard = (s.setLine (lineAfterDiscard why)).abandon .lost :=
        if_pos ⟨seeking, collecting⟩
      have member := (s.setLine (lineAfterDiscard why)).abandon_member .lost
      refine ⟨_, row.trans (by rw [abandoned]), by rw [member], by rw [member], by rw [member], by rw [member],
        State.abandon_has_seek (by exact seeking) _, by simp, by simp, ?_⟩
      rw [State.abandon_port]
      exact State.post_port_congr (by rfl) (by rfl) _ _
  case slot =>
    have row : exec (.ackObjSlotDrive q b) s = .next (s.setLine (.following (s.slotFor q b))) := by
      change execAckObjSlotDrive q b s = _
      rw [execAckObjSlotDrive, State.whenRunning_of_running running]
      rcases line with line | line <;> rw [line]
    refine ⟨_, row, rfl, fun other in_step commit check => ?_, fun other in_step differs => ?_, fun silent => ?_⟩ <;>
      rw [State.setLine_bus, State.slotFor_eq]
    · rw [if_pos ⟨other, in_step⟩, if_pos ⟨commit, check⟩]
    · rw [if_pos ⟨other, in_step⟩, if_neg fun same => differs.elim (absurd same.1) (absurd same.2)]
    · rw [if_neg fun drives => silent.elim drives.1 fun out => by rw [out] at drives; exact absurd drives.2 nofun]

/-! ## ALIVE, the silence timers and the quiet timer (R37, R74 to R78) -/

/-! ### The shape of a frame's end -/

theorem Bus.calm_of_receives {b : Bus} (h : b.line.receives = true) : b.calm := by
  refine Bus.calm_of_line (fun k e => ?_) (fun body e => ?_) <;> rw [e] at h <;> cases h

theorem State.frameEnd_of_own {s : State} {k : FrameKind} {body : FrameBody} (line : s.bus.line = .sending body) (kind : body.kind = k)
    (own : FrameBody → State → State) (other : State → State) : s.frameEnd k s.address own other = (own body s).settle := by
  rw [State.frameEnd, line]
  exact if_pos ⟨kind, rfl⟩

theorem State.frameEnd_of_other {s : State} {q : Station} (line : s.bus.line.receives = true) (hq : q ≠ s.address) (k : FrameKind)
    (own : FrameBody → State → State) (other : State → State) : s.frameEnd k q own other = (other s).settle := by
  unfold State.frameEnd
  split
  case h_2 | h_3 | h_4 => exact if_neg hq
  all_goals
    next e => rw [e] at line; cases line

theorem State.frameEnd_of_duplicate {s : State} (line : s.bus.line.receives = true) (k : FrameKind)
    (own : FrameBody → State → State) (other : State → State) : s.frameEnd k s.address own other = s.duplicate k := by
  unfold State.frameEnd
  split
  case h_2 | h_3 | h_4 => exact if_pos rfl
  all_goals
    next e => rw [e] at line; cases line

/-! ### The heard notification and the completion of an own frame -/

/-- The heard notification at a node that keeps a timer for the station (R37, R74). -/
theorem State.heard_lease_of_kept {s : State} {q : Station} (kept : (s.lease.silence[q]).isSome = true) :
    (s.heard q).lease = { s.lease with
      silence := s.lease.silence.set q (some 0)
      marks := if s.lease.marks[q] = true ∧ s.lease.latchedMark ≠ some q then s.lease.marks.set q false else s.lease.marks } := by
  obtain ⟨n, timer⟩ := Option.isSome_iff_exists.mp kept
  unfold State.heard
  rw [timer]
  dsimp only
  by_cases marked : s.lease.marks[q] = true ∧ s.lease.latchedMark ≠ some q
  · rw [if_pos marked, if_pos marked]
    unfold State.withdrawEvictIfUnmarked
    split <;> simp
  · rw [if_neg marked, if_neg marked]

theorem Vector.set_eq_self_of_getElem {α : Type} {n : Nat} {v : Vector α n} {q : Fin n} {a : α} (h : v[q] = a) : v.set q a = v := by
  subst h
  simp

theorem State.received_itemsOnly {s : State} (k : FrameKind) (q : Station) : (s.setLine .gap).itemsOnly [.evict] (s.received k q) :=
  (((State.itemsOnly.refl (s.bus.calm_gap) _).heard (by simp) q).elsewhere (by simp [State.received]))

theorem State.completeOwn_lease (s : State) (k : FrameKind) : (s.completeOwn k).lease = { s.lease with quiet := some 0 } := by
  unfold State.completeOwn
  dsimp only
  split <;> simp

/-- The Bus Controller after the completion of an own frame, but for an ALIVE item withdrawn (R36, R45, R76). -/
def State.completedBus (s : State) : Bus :=
  { s.bus with
    line := .gap
    failures := 0
    fairGap := if s.settings.fairGap = 0 then none else some s.settings.fairGap.toNat }

theorem State.completeOwn_itemsOnly (s : State) (k : FrameKind) :
    { s with bus := s.completedBus }.itemsOnly [.alive] (s.completeOwn k) := by
  have restarted : { s with bus := s.completedBus }.itemsOnly [.alive]
      { s with bus := s.completedBus, lease := { s.lease with quiet := some 0 } } :=
    (State.itemsOnly.refl (Bus.calm_of_line (by simp [State.completedBus]) (by simp [State.completedBus])) _).elsewhere (by rfl)
  unfold State.completeOwn
  dsimp only
  split
  · exact restarted
  · exact restarted.withdrawItem (by simp)

/-! ### The timers -/

theorem State.standEvict_eq (s : State) : s.standEvict = { s with bus := { s.bus with items := s.standEvict.bus.items } } := by
  unfold State.standEvict
  split
  · exact s.send_eq _
  · rfl

theorem Participation.allows_alive_of_onLine {p : Participation} (h : p.onLine = true) : p.allows .alive = true := by
  revert h
  cases p <;> decide

/-- Settles O37: the heard notification and the own completion by their effect on the Lease Unit, each timer row by its timer's stand. -/
theorem leaseRenewalAndMarks : Obligations.LeaseRenewalAndMarks := by
  unfold Obligations.LeaseRenewalAndMarks
  refine ⟨fun s q running => ⟨fun other idle kept => ?heard, fun line => ?sent⟩,
    fun s running => ⟨fun q kept in_step stands => ?silence, fun q n timer early due => ?lateSilence,
      fun n timer on_line stands => ?quiet, fun n timer early due => ?lateQuiet⟩⟩
  case heard =>
    have row : exec (.aliveFrame q) s = .next (s.received .alive q).settle := by
      change execAliveFrame q s = _
      rw [execAliveFrame, State.whenRunning_of_running running, State.frameEnd_of_other (by rw [idle]; rfl) other]
    have lease : (s.received .alive q).settle.lease = _ :=
      (by simp [State.received] : (s.received .alive q).settle.lease = ((s.setLine .gap).heard q).lease).trans
        (State.heard_lease_of_kept (by exact kept))
    have ended := ((s.received_itemsOnly .alive q).mono (ks' := [.claim, .evict, .thaw, .image]) (by decide)).settle (by decide)
    refine ⟨_, row, by rw [lease]; rfl, fun unlatched => ?_, fun p hp => ?_, by rw [ended.line]; rfl, by simp, by simp⟩ <;> rw [lease]
    · change ite (s.lease.marks[q] = true ∧ s.lease.latchedMark ≠ some q) _ s.lease.marks = _
      split
      · rfl
      next unmarked => exact (Vector.set_eq_self_of_getElem (by simpa [unlatched] using unmarked)).symm
    · change (ite (s.lease.marks[q] = true ∧ s.lease.latchedMark ≠ some q) (s.lease.marks.set q false) s.lease.marks)[p] = _
      have differ : q.val ≠ p.val := fun e => hp (Fin.ext e.symm)
      split
      · simp [differ]
      · rfl
  case sent =>
    have row : exec (.aliveFrame s.address) s = .next ((s.completeOwn .alive).retire .alive).settle := by
      change execAliveFrame s.address s = _
      rw [execAliveFrame, State.whenRunning_of_running running, State.frameEnd_of_own (k := .alive) line rfl]
    have ended := (((s.completeOwn_itemsOnly .alive).retire (k := .alive) (by simp)).mono
      (ks' := [.alive, .claim, .evict, .thaw, .image]) (by decide)).settle (by decide)
    exact ⟨_, row, by simp [State.completeOwn_lease], by rw [ended.failures]; rfl, by rw [ended.line]; rfl, by simp, by simp, by simp⟩
  case silence =>
    have row : exec (.silenceTimerExpiry q) s = .next { s.taken (.silenceTimerExpiry q) with
        lease := { s.lease with
          silence := s.lease.silence.set q (some (durationMs s.lease.code)), marks := s.lease.marks.set q true } }.standEvict := by
      change execSilenceTimerExpiry q s = _
      rw [execSilenceTimerExpiry, State.whenRunning_of_running running,
        State.takeRow_of_stands _ _ _ _ fun due => by rw [stands due]; simp [reached]]
      exact congrArg Host.Outcome.next (if_pos kept)
    refine ⟨_, row, by simp, by simp, ?_, ?_⟩
    · rw [State.standEvict_has]
      have marked := (Lease.marked_iff { s.lease with
        silence := s.lease.silence.set q (some (durationMs s.lease.code)), marks := s.lease.marks.set q true }).mpr ⟨q, by simp⟩
      rw [marked, show (s.taken (.silenceTimerExpiry q)).member.participation.inStep = true from in_step]
      simp
    · rw [State.standEvict_eq]
      rfl
  case lateSilence =>
    change execSilenceTimerExpiry q s = _
    rw [execSilenceTimerExpiry, State.whenRunning_of_running running, timer,
      show reached (durationMs s.lease.code) (some n) = false by simpa [reached] using early, State.takeRow_of_late _ _ _ due]
    rfl
  case quiet =>
    have row : exec .quietTimerExpiry s = .next ({ s.taken .quietTimerExpiry with
        lease := { s.lease with quiet := some (max n s.lease.renewal) } }.send .alive) := by
      change execQuietTimerExpiry s = _
      rw [execQuietTimerExpiry, State.whenRunning_of_running running,
        State.takeRow_of_stands _ _ _ _ fun due => by rw [timer]; exact decide_eq_true (stands due)]
      simp only [State.taken_frame, timer]
    refine ⟨_, row, State.send_has _ _ (Participation.allows_alive_of_onLine (by exact on_line)), ?_⟩
    rw [State.send_eq]
    rfl
  case lateQuiet =>
    change execQuietTimerExpiry s = _
    rw [execQuietTimerExpiry, State.whenRunning_of_running running, timer,
      show reached s.lease.renewal (some n) = false from decide_eq_false (not_le.mpr early), State.takeRow_of_late _ _ _ due]
    rfl

/-! ## The ends of the fair gap, of a ramp and of the image gap (R45, R59, R98) -/

theorem State.settle_load (s : State) (y : LoadIx) : s.settle.load y = { s.load y with state := (s.settle.load y).state }
    ∧ (s.load y).state.composedTo (s.settle.load y).state := by
  rw [State.load, State.settle_loads]
  exact s.compose_load y

/-- The end of a handling leaves a load that waits for no claim. -/
theorem State.settle_load_of_not_waiting {s : State} {y : LoadIx} (waiting : (s.load y).state ≠ .waiting)
    (raiseWait : (s.load y).state ≠ .raiseWait) : s.settle.load y = s.load y := by
  obtain ⟨record, same | claims | raises⟩ := s.settle_load y
  · rw [record, same]
  · exact absurd claims.1 waiting
  · exact absurd raises.1 raiseWait

theorem State.settle_grants (s : State) : s.settle.loads.grants = s.loads.grants := by rw [State.settle_loads, State.compose_grants]

theorem State.settle_openUnits (s : State) : s.settle.demand.openUnits = s.demand.openUnits := by
  rw [State.settle_demand, State.compose_demand]

theorem State.dropLoad_of_no_claim {s : State} {x : LoadIx} (h : (s.load x).state.claims = false) (l : LoadState) :
    s.dropLoad x l = (((s.setLoad x { s.load x with state := l, ramp := none }).ungrant x).dequeue x).freeUnits (s.cfg x).cls
      (s.occupied x) := by
  simp [State.dropLoad, h, State.cfg]

theorem State.faultLoad_of_no_claim {s : State} {x : LoadIx} (h : (s.load x).state.claims = false) (cause : FaultCause) :
    (s.faultLoad x cause).load x = { s.load x with state := .fault, ramp := none, cause := cause }
      ∧ (s.faultLoad x cause).loads.grants = s.loads.grants.erase x
      ∧ (s.faultLoad x cause).demand.openUnits = addAt s.demand.openUnits (s.cfg x).cls (s.occupied x)
      ∧ (s.faultLoad x cause).port = (s.post .faulted (argOf (x.val + if cause = .dropout then 8 else 0))).port := by
  have dropped := State.dropLoad_of_no_claim h .fault
  have record : (s.dropLoad x .fault).load x = { s.load x with state := .fault, ramp := none } := by
    rw [State.load, dropped]
    simp only [State.freeUnits_frame]
    exact s.load_setLoad_self x _
  refine ⟨?_, ?_, ?_, ?_⟩
  · rw [State.load, State.faultLoad]
    simp only [State.post_frame]
    exact (State.load_setLoad_self _ x _).trans (by rw [record])
  · rw [State.faultLoad]
    simp only [State.post_frame]
    change (s.dropLoad x .fault).loads.grants = _
    rw [dropped]
    simp only [State.freeUnits_frame]
    rfl
  · simp only [State.faultLoad, State.post_frame, State.setLoad_frame, dropped, State.freeUnits_demand]
    rfl
  · rw [State.faultLoad]
    exact State.post_port_congr (by simp) (by simp) _ _

theorem exec_rampTimerExpiry {s : State} (running : s.power.running = true) {x : LoadIx} (ramping : (s.load x).state = .ramping)
    (stands : .rampTimerExpiry x ∈ s.due → (s.load x).ramp = some 0) :
    exec (.rampTimerExpiry x) s = .next ((s.taken (.rampTimerExpiry x)).endRamp x).settle := by
  change execRampTimerExpiry x s = _
  rw [execRampTimerExpiry, State.whenRunning_of_running running, State.takeRow_of_stands _ _ _ _ fun due => by rw [stands due]; rfl]
  exact congrArg Host.Outcome.next (if_pos ramping)

theorem ended_of_ne {t : Option Nat} (h : t ≠ some 0) : ended t = false := by simpa [ended] using h

/-- Settles O45: each row by its timer's stand; a ramp's end through the end of the handling, which leaves the load and its units. -/
theorem fairGapRampAndImageGapEnd : Obligations.FairGapRampAndImageGapEnd := by
  unfold Obligations.FairGapRampAndImageGapEnd
  refine fun s running => ⟨fun stands => ?fairGap, fun due late => ?lateFairGap, fun x ramping stands => ⟨fun ready => ?on, fun used
    dropped => ?fault⟩, fun x due late => ?lateRamp, fun gap collecting seeking stands => ?gap, fun due late => ?lateGap⟩
  case fairGap =>
    change execFairGapExpiry s = _
    rw [execFairGapExpiry, State.whenRunning_of_running running,
      State.takeRow_of_stands _ _ _ _ fun due => by rw [stands due]; rfl]
    rfl
  case lateFairGap =>
    change execFairGapExpiry s = _
    rw [execFairGapExpiry, State.whenRunning_of_running running, ended_of_ne late, State.takeRow_of_late _ _ _ due]
    rfl
  case on =>
    have ended : (s.taken (.rampTimerExpiry x)).endRamp x =
        ((s.taken (.rampTimerExpiry x)).setLoad x { s.load x with state := .on, ramp := none }).post .running (argOf x.val) := by
      refine if_neg fun fails => ?_
      have ⟨used, low⟩ := Bool.and_eq_true_iff.mp fails
      rcases ready with unused | high
      · exact Bool.false_ne_true (unused.symm.trans used)
      · have low : s.loads.rdy[x].level = false := by simpa using low
        exact Bool.false_ne_true (low.symm.trans high)
    have record : ((s.taken (.rampTimerExpiry x)).endRamp x).load x = { s.load x with state := .on, ramp := none } := by
      rw [ended, State.load]
      simp only [State.post_frame]
      exact State.load_setLoad_self _ x _
    refine ⟨_, exec_rampTimerExpiry running ramping stands, ?_, ?_, ?_, ?_, ?_⟩
    · rw [State.settle_load_of_not_waiting (by rw [record]; exact nofun) (by rw [record]; exact nofun), record]
    · simp only [State.settle_frame, ended]
      exact State.post_port_congr (by rfl) (by rfl) _ _
    · simp [ended]
    · rw [State.settle_grants, ended]
      simp only [State.post_frame]
      rfl
    · rw [State.settle_openUnits, ended]
      simp
  case fault =>
    have ended : (s.taken (.rampTimerExpiry x)).endRamp x = (s.taken (.rampTimerExpiry x)).faultLoad x .ramp :=
      if_pos (Bool.and_eq_true_iff.mpr ⟨used, congrArg (!·) dropped⟩)
    have no_claim : ((s.taken (.rampTimerExpiry x)).load x).state.claims = false := by
      rw [show ((s.taken (.rampTimerExpiry x)).load x).state = .ramping from ramping]
      rfl
    obtain ⟨record, grants, units, port⟩ := State.faultLoad_of_no_claim no_claim .ramp
    have full : (s.taken (.rampTimerExpiry x)).occupied x = (s.cfg x).full.toNat := by
      rw [State.occupied, show ((s.taken (.rampTimerExpiry x)).load x).state = .ramping from ramping]
      rfl
    refine ⟨_, exec_rampTimerExpiry running ramping stands, ?_, ?_, ?_, ?_, ?_⟩ <;> rw [ended]
    · rw [State.settle_load_of_not_waiting (by rw [record]; exact nofun) (by rw [record]; exact nofun), record]
      rfl
    · simp only [State.settle_frame, port]
      exact State.post_port_congr (by rfl) (by rfl) _ _
    · simp
    · rw [State.settle_grants, grants]
      rfl
    · rw [State.settle_openUnits, units, full]
      rfl
  case lateRamp =>
    change execRampTimerExpiry x s = _
    rw [execRampTimerExpiry, State.whenRunning_of_running running, ended_of_ne late, State.takeRow_of_late _ _ _ due]
    rfl
  case gap =>
    have row : exec .imageGapExpiry s = .next ((s.taken .imageGapExpiry).abandon .gap) := by
      change execImageGapExpiry s = _
      rw [execImageGapExpiry, State.whenRunning_of_running running,
        State.takeRow_of_stands _ _ _ _ fun due => by rw [stands due]; rfl]
      exact congrArg Host.Outcome.next (if_pos ⟨gap, collecting⟩)
    have member := (s.taken .imageGapExpiry).abandon_member .gap
    refine ⟨_, row, by rw [member], by rw [member], by rw [member], by rw [member], by rw [member], ?_,
      State.abandon_has_seek (by exact seeking) _, ?_, by simp⟩
    · rw [member]
      simp [collecting]
    · rw [State.abandon_port]
      exact State.post_port_congr (by rfl) (by rfl) _ _
  case lateGap =>
    change execImageGapExpiry s = _
    rw [execImageGapExpiry, State.whenRunning_of_running running, ended_of_ne late, State.takeRow_of_late _ _ _ due]
    rfl

end Sys2Proof.Machine
end

section
/-! SUPPORT. Leaving step (3.4), and a handling that leaves a settled state settled. -/

namespace Sys2Proof.Machine

/-! ## Leaving step (R53, R69) -/

theorem State.emptySlot_slot (s : State) : s.emptySlot.demand.slot = none := by
  unfold State.emptySlot
  split
  · rfl
  next empty => exact empty

theorem State.enterSeeking_has_seek (s : State) (cause : StepCause) : (s.enterSeeking cause).bus.has .seek = true := by
  unfold State.enterSeeking
  dsimp only
  simp only [State.postPhase_frame, State.post_frame]
  exact State.send_has _ _ rfl

theorem State.enterSeeking_slot (s : State) (cause : StepCause) : (s.enterSeeking cause).demand.slot = none := by
  simp only [State.enterSeeking, State.postPhase_frame, State.post_frame, State.sendSeek_frame, State.setParticipation_frame,
    State.stopSilence_frame]
  exact s.emptySlot_slot

theorem State.enterSeeking_lease (s : State) (cause : StepCause) : (s.enterSeeking cause).lease =
    { s.lease with silence := .replicate 32 none, marks := .replicate 32 false, latchedMark := none } := by
  simp [State.enterSeeking, State.stopSilence]

theorem State.enterSeeking_port (s : State) (cause : StepCause) :
    (s.enterSeeking cause).port = ((s.post .outOfStep (argOf cause.number)).post .phase 1).port := by
  unfold State.enterSeeking State.postPhase
  dsimp only
  have phase (u : State) (h : u.member.participation = .seeking) : argOf u.member.participation.number = 1 := by rw [h]; rfl
  rw [phase _ (by simp [Membership.cleared])]
  exact State.post_port_congr (State.post_port_congr (by simp) (by simp) _ _) (by simp) _ _

theorem State.outOfStep_of_step {s : State} (h : s.member.participation = .joining ∨ s.member.participation = .active)
    (cause : StepCause) : s.outOfStep cause = s.enterSeeking cause := by
  rcases h with h | h <;> simp [State.outOfStep, h]

theorem State.outOfStep_of_leaving {s : State} (h : s.member.participation = .leaving) (cause : StepCause) :
    s.outOfStep cause = s.enterDetached := by
  simp [State.outOfStep, h]

theorem State.compose_of_not_active {s : State} (h : s.member.participation ≠ .active) : ∃ b, s.compose = s.setBlocked b := by
  rcases s.compose_cases with e | ⟨x, active, -⟩
  · exact e
  · exact absurd active h

theorem State.settle_slot_of_not_active {s : State} (h : s.member.participation ≠ .active) :
    s.settle.demand.slot = s.demand.slot := by
  obtain ⟨b, e⟩ := State.compose_of_not_active h
  rw [State.settle_demand, e]
  rfl

/-! ## A settled state -/

/-- Composition reads neither the Bus Controller nor the Lease Unit. -/
theorem State.compose_demand_elsewhere (s : State) (b : Bus) (l : Lease) :
    ({ s with bus := b, lease := l } : State).compose.demand = s.compose.demand := by
  have cleared : ({ s with bus := b, lease := l } : State).clearStaleBlock = { s.clearStaleBlock with bus := b, lease := l } := by
    unfold State.clearStaleBlock
    dsimp only
    (repeat' split) <;> rfl
  unfold State.compose
  dsimp only
  rw [cleared]
  generalize s.clearStaleBlock = v
  have units (x : LoadIx) : ({ v with bus := b, lease := l } : State).claimUnits x = v.claimUnits x := rfl
  have may : ({ v with bus := b, lease := l } : State).mayCompose = v.mayCompose := rfl
  cases queue : v.demand.queue with
  | nil => rfl
  | cons x rest =>
    simp only [units, may]
    (repeat' split)
    · rfl
    · rw [State.fillSlot_demand, State.fillSlot_demand]
      rfl
    · rfl

/-- Composition that leaves the Demand Scheduler leaves the state. -/
theorem State.compose_eq_self {s : State} (h : s.compose.demand = s.demand) : s.compose = s := by
  rcases s.compose_cases with ⟨b, e⟩ | ⟨x, -, -, empty, -, e⟩
  · rw [e] at h ⊢
    have blocked : b = s.demand.blocked := congrArg Demand.blocked h
    rw [blocked]
    rfl
  · rw [e, State.fillSlot_demand] at h
    rw [← h] at empty
    cases empty

theorem State.settle_eq_self {s : State} (composed : s.compose = s)
    (evict : s.member.participation.inStep = true → s.lease.marked = true → s.bus.has .evict = true)
    (thaw : s.member.participation.inStep = true → s.freeze.thawMark = true → s.bus.has .thaw = true)
    (image : s.member.participation.inStep = true → s.member.imageOwed = true → s.member.train.isNone = true →
      s.bus.has .image = true) : s.settle = s := by
  have no_evict : s.standEvict = s := State.stand_of_has fun cause =>
    have ⟨in_step, marked⟩ := Bool.and_eq_true_iff.mp cause
    evict in_step marked
  have no_thaw : s.standThaw = s := State.stand_of_has fun cause =>
    have ⟨in_step, mark⟩ := Bool.and_eq_true_iff.mp cause
    thaw in_step mark
  have no_image : s.standImage = s := State.stand_of_has fun cause =>
    have ⟨owes, idle⟩ := Bool.and_eq_true_iff.mp cause
    have ⟨in_step, owed⟩ := Bool.and_eq_true_iff.mp owes
    image in_step owed idle
  rw [State.settle, composed, no_evict, no_thaw, no_image]

/-! ## The heard notification written out -/

/-- After the mark on a station is cleared, a mark is left where another one stood. -/
theorem marked_of_clear {l : Lease} {q : Station} (silence : Vector (Option Nat) 32) :
    ({ l with silence := silence, marks := l.marks.set q false } : Lease).marked = true ↔
      ∃ p : Station, p ≠ q ∧ l.marks[p] = true := by
  rw [Lease.marked_iff]
  refine exists_congr fun p => ?_
  by_cases e : p = q
  · subst e
    simp
  · have differ : q.val ≠ p.val := fun same => e (Fin.ext same.symm)
    simp [e, differ]

/-- The heard notification (R37, R74): a timer that is kept restarts, an unlatched mark goes, and with the last mark the EVICT item. -/
theorem State.heard_eq {s : State} (calm : s.bus.calm) (q : Station) : s.heard q = { s with
    bus := { s.bus with
      items := if (s.lease.silence[q]).isSome = true ∧ s.lease.marks[q] = true ∧ s.lease.latchedMark ≠ some q
          ∧ (∀ p : Station, p ≠ q → s.lease.marks[p] = false) then s.bus.items.filter (fun i => i.kind != .evict) else s.bus.items }
    lease := { s.lease with
      silence := if (s.lease.silence[q]).isSome = true then s.lease.silence.set q (some 0) else s.lease.silence
      marks := if (s.lease.silence[q]).isSome = true ∧ s.lease.latchedMark ≠ some q then s.lease.marks.set q false
        else s.lease.marks } } := by
  unfold State.heard
  dsimp only
  cases timer : s.lease.silence[q] with
  | none => simp
  | some n =>
    simp only [Option.isSome_some, true_and, if_true]
    by_cases marked : s.lease.marks[q] = true ∧ s.lease.latchedMark ≠ some q
    · rw [if_pos marked, if_pos marked.2]
      unfold State.withdrawEvictIfUnmarked
      by_cases others : ∀ p : Station, p ≠ q → s.lease.marks[p] = false
      · rw [if_neg, State.withdrawItem_of_calm (by exact calm), if_pos ⟨marked.1, marked.2, others⟩]
        · rfl
        · rw [marked_of_clear]
          rintro ⟨p, hp, mark⟩
          rw [others p hp] at mark
          cases mark
      · rw [if_pos, if_neg fun ⟨_, _, none_left⟩ => others none_left]
        rw [marked_of_clear]
        simpa using others
    · rw [if_neg marked, if_neg fun ⟨mark, unlatched, _⟩ => marked ⟨mark, unlatched⟩]
      split
      next unlatched =>
        have unmarked : s.lease.marks[q] = false := by simpa [unlatched] using marked
        rw [Vector.set_eq_self_of_getElem unmarked]
      next => rfl

/-- A mark left after the heard notification stood before it, and the EVICT item is then left. -/
theorem State.heard_marked {s : State} (calm : s.bus.calm) {q : Station} (h : (s.heard q).lease.marked = true) :
    s.lease.marked = true ∧ (s.heard q).bus.items = s.bus.items := by
  rw [State.heard_eq calm] at h ⊢
  obtain ⟨p, mark⟩ := (Lease.marked_iff _).mp h
  have mark : (if (s.lease.silence[q]).isSome = true ∧ s.lease.latchedMark ≠ some q then s.lease.marks.set q false
    else s.lease.marks)[p] = true := mark
  split at mark
  next cleared =>
    by_cases e : p = q
    · subst e
      simp at mark
    · have differ : q.val ≠ p.val := fun same => e (Fin.ext same.symm)
      have stood : s.lease.marks[p] = true := by simpa [differ] using mark
      refine ⟨(Lease.marked_iff _).mpr ⟨p, stood⟩, if_neg fun last => ?_⟩
      have gone := last.2.2.2 p e
      rw [stood] at gone
      cases gone
  next kept =>
    exact ⟨(Lease.marked_iff _).mpr ⟨p, mark⟩, if_neg fun ⟨timer, _, unlatched, _⟩ => kept ⟨timer, unlatched⟩⟩

/-! ## Another node's frame at a node in step -/

theorem State.received_of_inStep {s : State} (h : s.member.participation.inStep = true) (k : FrameKind) (q : Station) :
    s.received k q = (s.setLine .gap).heard q := by
  have not_seeking : s.member.participation ≠ .seeking := fun e => by rw [e] at h; cases h
  exact if_neg fun counts => not_seeking (by simpa using counts.1)

/-- A frame that is only heard leaves a settled state settled. -/
theorem State.received_settled {s : State} (in_step : s.member.participation.inStep = true) (calm : s.bus.calm) (settled : s.settle = s)
    (k : FrameKind) (q : Station) : (s.received k q).settle = s.received k q := by
  have gap : (s.setLine .gap).bus.calm := s.bus.calm_gap
  have eq := State.heard_eq gap q
  have composed : s.compose.demand = s.demand := by rw [← State.settle_demand, settled]
  have evict := State.settle_has_evict calm
  have thaw := State.settle_has_thaw calm
  have image := State.settle_has_image calm
  rw [settled] at evict thaw image
  have heard := (State.itemsOnly.refl gap [.evict]).heard (by simp) q
  rw [State.received_of_inStep in_step]
  refine State.settle_eq_self ?_ (fun _ marked => ?_) (fun _ mark => ?_) fun _ owed idle => ?_
  · refine State.compose_eq_self ?_
    rw [eq]
    exact (State.compose_demand_elsewhere s _ _).trans composed
  · obtain ⟨stood, items⟩ := State.heard_marked gap marked
    have same : ((s.setLine .gap).heard q).bus.has .evict = s.bus.has .evict := congrArg (fun l : List Item => l.any _) items
    rw [same, evict, in_step, show s.lease.marked = true from stood]
    simp
  · have same : ((s.setLine .gap).heard q).bus.has .thaw = s.bus.has .thaw := Bus.has_congr (heard.others .thaw (by decide))
    rw [same, thaw, in_step, show s.freeze.thawMark = true by simpa using mark]
    simp
  · have same : ((s.setLine .gap).heard q).bus.has .image = s.bus.has .image := Bus.has_congr (heard.others .image (by decide))
    rw [same, image, in_step, show s.member.imageOwed = true by simpa using owed, show s.member.train.isNone = true by simpa using idle]
    simp

theorem exec_changeFrame {s : State} (running : s.power.running = true) (q : Station) (b : Base) (c : Change) (slots : Slots) :
    exec (changeFrame q b c slots) s = .next (s.changeEnd q b c slots) := by
  rw [← State.whenRunning_of_running running fun s => s.changeEnd q b c slots]
  cases c <;> rfl

/-- Another node's frame that a node in step drove OBJ for (R33). -/
theorem exec_objected {s : State} (running : s.power.running = true) (in_step : s.member.participation.inStep = true) {q : Station}
    (other : q ≠ s.address) (line : s.bus.line = .following .obj) (b : Base) (c : Change) (slots : Slots) :
    exec (changeFrame q b c slots) s = .next
      (if slots.ack = true then (s.received c.kind q).outOfStep .objected else s.received c.kind q).settle := by
  have driven : s.driven q b = .obj := by rw [State.driven, line]
  have heard_in_step : (s.received c.kind q).member.participation.inStep = true := by
    rw [State.received_of_inStep in_step]
    simpa using in_step
  rw [exec_changeFrame running, State.changeEnd, State.frameEnd_of_other (by rw [line]; rfl) other]
  congr 2
  unfold State.otherChange
  dsimp only
  rw [driven, if_pos heard_in_step, if_neg nofun]
  cases slots.ack <;> rfl

/-- Settles O31: with ACK the node leaves step; without, the heard notification is all, and it leaves a settled state settled. -/
theorem objectionOverruledLeavesStep : Obligations.ObjectionOverruledLeavesStep := by
  unfold Obligations.ObjectionOverruledLeavesStep
  refine fun s q b c slots running in_step other line => ⟨fun ack not_leaving => ?seeks, fun ack leaving => ?detaches,
    fun ack => ?heard⟩
  all_goals
    have row := exec_objected running in_step other line b c slots
    have heard := State.received_of_inStep in_step c.kind q
  case seeks =>
    have step : s.member.participation = .joining ∨ s.member.participation = .active := by
      revert in_step not_leaving
      cases s.member.participation <;> decide
    have left : (s.received c.kind q).outOfStep .objected = (s.received c.kind q).enterSeeking .objected :=
      State.outOfStep_of_step (by rw [heard]; simpa using step) _
    rw [if_pos ack, left] at row
    have seeking : ((s.received c.kind q).enterSeeking .objected).member.participation.inStep = false := by simp; rfl
    refine ⟨_, row, by simp, by simp [Membership.cleared], by simp [heard], ?_, by simp [State.enterSeeking_lease],
      by simp [State.enterSeeking_lease], ?_⟩
    · rw [(State.settle_of_not_inStep seeking).1]
      exact State.enterSeeking_has_seek _ _
    · simp only [State.settle_frame, State.enterSeeking_port]
      exact State.post_port_congr (State.post_port_congr (by simp) (by simp) _ _) (by simp) _ _
  case detaches =>
    have left : (s.received c.kind q).outOfStep .objected = (s.received c.kind q).enterDetached :=
      State.outOfStep_of_leaving (by rw [heard]; simpa using leaving) _
    rw [if_pos ack, left] at row
    have parked : ((s.received c.kind q).enterDetached).member.participation.inStep = false := by simp; rfl
    exact ⟨_, row, by simp, by simp, by rw [(State.settle_of_not_inStep parked).1]; simp⟩
  case heard =>
    rw [ack, if_neg nofun] at row
    refine ⟨_, row, by simp, by simp [heard], by simp, fun settled => ?_⟩
    rw [State.received_settled in_step (Bus.calm_of_receives (by rw [line]; rfl)) settled, heard, State.heard_eq (s.bus.calm_gap)]
    rfl

end Sys2Proof.Machine
end

section
/-! SUPPORT. The end of the node's own state-changing frame (R32 to R35): its outcome, and a frame that is refused or dropped. -/

namespace Sys2Proof.Machine

/-! ## The row and its outcome -/

/-- An own frame carries the body fixed at its latch; the row's own base and body are not read (R43). -/
theorem exec_ownChange {s : State} (running : s.power.running = true) {b : Base} {c : Change} (line : s.bus.line = .sending (.change b c))
    {c' : Change} (kind : c'.kind = c.kind) (b' : Base) (slots : Slots) :
    exec (changeFrame s.address b' c' slots) s = .next (s.ownChange c slots).settle := by
  rw [exec_changeFrame running, State.changeEnd, State.frameEnd_of_own (k := c'.kind) line kind.symm]

theorem State.completeOwn_item? (s : State) (k : FrameKind) {j : FrameKind} (hj : j ≠ .alive) :
    (s.completeOwn k).bus.item? j = s.bus.item? j :=
  (s.completeOwn_itemsOnly k).others j (by simpa using hj)

theorem change_kind_ne_alive (c : Change) : c.kind ≠ .alive := by cases c <;> exact FrameKind.noConfusion

theorem State.completeOwn_ownOutcome (s : State) (k : FrameKind) (slots : Slots) : (s.completeOwn k).ownOutcome slots =
    if slots.ack then .accepted else if slots.obj then .refused else if s.table.hasOther s.address then .unheard else .accepted := by
  simp [State.ownOutcome]

/-- The state after the completion of an own frame that waits no longer, told to its posting block as lost (R34, R35). -/
def State.lost (s : State) (c : Change) : State := ((s.completeOwn c.kind).retire c.kind).toldLost c

theorem State.ownChange_of_accepted {s : State} {c : Change} {slots : Slots}
    (accepted : slots.ack = true ∨ (slots.obj = false ∧ s.table.hasOther s.address = false)) : s.ownChange c slots =
      ((((s.completeOwn c.kind).retire c.kind).toldAccepted c).applyFrame s.address c).afterCap c := by
  have outcome : (s.completeOwn c.kind).ownOutcome slots = .accepted := by
    rw [State.completeOwn_ownOutcome]
    rcases accepted with ack | ⟨obj, solo⟩
    · simp [ack]
    · simp [obj, solo]
  unfold State.ownChange
  dsimp only
  rw [outcome]
  simp

theorem State.ownChange_of_refused {s : State} {c : Change} {slots : Slots} (ack : slots.ack = false) (obj : slots.obj = true) :
    s.ownChange c slots = ((s.lost c).outOfStep .objected).afterCap c := by
  have outcome : (s.completeOwn c.kind).ownOutcome slots = .refused := by simp [State.completeOwn_ownOutcome, ack, obj]
  unfold State.ownChange
  dsimp only
  rw [outcome]
  rfl

theorem State.ownChange_of_unheard {s : State} {c : Change} {slots : Slots} (ack : slots.ack = false) (obj : slots.obj = false)
    (others : s.table.hasOther s.address = true) : s.ownChange c slots =
      if s.bus.attempts c.kind + 1 < 4
      then (((s.completeOwn c.kind).keepItem c.kind (s.bus.attempts c.kind + 1)).toldLost c).afterUnheard c
      else ((s.lost c).outOfStep .unacknowledged).afterCap c := by
  have outcome : (s.completeOwn c.kind).ownOutcome slots = .unheard := by simp [State.completeOwn_ownOutcome, ack, obj, others]
  have attempts : (s.completeOwn c.kind).bus.attempts c.kind = s.bus.attempts c.kind :=
    Bus.attempts_congr (s.completeOwn_item? _ (change_kind_ne_alive c))
  unfold State.ownChange
  dsimp only
  rw [outcome, attempts]
  rfl

/-! ## After a frame that is lost -/

theorem State.lost_frame (s : State) (c : Change) : (s.lost c).table = s.table ∧ (s.lost c).member = s.member
    ∧ (s.lost c).port = s.port ∧ (s.lost c).cap = s.cap ∧ (s.lost c).address = s.address := by
  simp [State.lost]

theorem State.toldLost_lease_code (s : State) (c : Change) : (s.toldLost c).lease.code = s.lease.code := by
  unfold State.toldLost
  split <;> simp

theorem State.lost_calm (s : State) (c : Change) : (s.lost c).bus.calm := by
  have retired := ((s.completeOwn_itemsOnly c.kind).mono (ks' := [.alive, c.kind]) (by simp)).retire (k := c.kind) (by simp)
  exact retired.calm.congr (by simp only [State.lost, State.toldLost_frame])

theorem State.enterSeeking_line (s : State) (cause : StepCause) : (s.enterSeeking cause).bus.line = s.bus.line := by
  unfold State.enterSeeking State.sendSeek
  dsimp only
  simp only [State.postPhase_frame, State.post_frame]
  rw [State.send_eq]
  simp [State.setParticipation, Bus.changeState]

theorem State.afterCap_itemsOnly {s : State} (calm : s.bus.calm) (c : Change) : s.itemsOnly [.cap] (s.afterCap c) := by
  unfold State.afterCap
  split
  · exact (State.itemsOnly.refl calm _).takeHeldCap (by simp)
  · exact .refl calm _

theorem State.afterCap_of_none {s : State} (h : s.cap.held = none) (c : Change) : s.afterCap c = s := by
  unfold State.afterCap
  split
  · exact State.takeHeldCap_of_none h
  · rfl

/-- An own frame lost in JOINING or ACTIVE takes the node to SEEKING with the cause; a held cap setting is taken there (R53, R129). -/
theorem State.lost_seeks {s : State} (step : s.member.participation = .joining ∨ s.member.participation = .active) (c : Change)
    (cause : StepCause) {t : State} (ht : t = (((s.lost c).outOfStep cause).afterCap c).settle) :
    t.table = s.table ∧ t.member.participation = .seeking ∧ t.bus.has .seek = true ∧ t.demand.slot = none
      ∧ t.port = ((s.post .outOfStep (argOf cause.number)).post .phase 1).port := by
  obtain ⟨table, member, port, -, -⟩ := s.lost_frame c
  have left : (s.lost c).outOfStep cause = (s.lost c).enterSeeking cause := State.outOfStep_of_step (by rwa [member]) cause
  rw [left] at ht
  have seeking : (((s.lost c).enterSeeking cause).afterCap c).member.participation = .seeking := by simp [Membership.cleared]
  have calm : ((s.lost c).enterSeeking cause).bus.calm := (s.lost_calm c).congr (State.enterSeeking_line _ _)
  have settled_bus := (State.settle_of_not_inStep (s := ((s.lost c).enterSeeking cause).afterCap c) (by rw [seeking]; rfl)).1
  subst ht
  refine ⟨by simp [table], by simp only [State.settle_frame, seeking], ?_, ?_, ?_⟩
  · rw [settled_bus, Bus.has_congr ((State.afterCap_itemsOnly calm c).others .seek (by decide))]
    exact State.enterSeeking_has_seek _ _
  · rw [State.settle_slot_of_not_active (by rw [seeking]; exact nofun)]
    simp only [State.afterCap_frame]
    exact State.enterSeeking_slot _ _
  · simp only [State.settle_frame, State.afterCap_frame, State.enterSeeking_port]
    exact State.post_port_congr (State.post_port_congr port (by rw [table]) _ _) (by simp [table]) _ _

/-! ## Entry to DETACHED (R69) -/

theorem State.enterDetached_demand (s : State) : s.enterDetached.demand.slot = none ∧ s.enterDetached.demand.blocked = none
    ∧ s.enterDetached.demand.openUnits = .replicate 4 0 ∧ s.enterDetached.demand.latchedUnits = .replicate 4 0 := by
  simp [State.enterDetached, State.clearAccount]

theorem State.enterDetached_units (s : State) : s.enterDetached.lease = .stopped s.lease.code
    ∧ s.enterDetached.cap = { s.cap with request := none, held := none } ∧ s.enterDetached.freeze = .reset := by
  simp [State.enterDetached]

theorem State.enterDetached_port (s : State) : s.enterDetached.port = (s.postAt 0 .phase 5).port := by
  unfold State.enterDetached State.postPhase State.post
  exact State.postAt_port_congr (by simp) _ _ _

/-- Composition has nothing to do where the blocked flag is up to date and its conditions do not hold. -/
theorem State.compose_of_stuck {s : State} (fresh : s.clearStaleBlock = s)
    (stuck : ∀ x, s.demand.queue.head? = some x → s.mayCompose = false) : s.compose = s := by
  unfold State.compose
  dsimp only
  rw [fresh]
  split
  · rfl
  next x rest queue => rw [stuck x (by simp [queue]), if_neg nofun]

/-- Outside ACTIVE composition has nothing to do where no head is blocked. -/
theorem State.compose_of_unblocked {s : State} (not_active : s.member.participation ≠ .active) (unblocked : s.demand.blocked = none) :
    s.compose = s :=
  State.compose_of_stuck (by simp [State.clearStaleBlock, unblocked]) fun _ _ => by simp [State.mayCompose, not_active]

/-- In DETACHED the end of a handling finds nothing to do. -/
theorem State.enterDetached_settle (s : State) : s.enterDetached.settle = s.enterDetached := by
  have out (p : Prop) : s.enterDetached.member.participation.inStep = true → p := fun h => by rw [s.enterDetached_member] at h; cases h
  obtain ⟨-, unblocked, -, -⟩ := s.enterDetached_demand
  exact State.settle_eq_self (State.compose_of_unblocked (by rw [s.enterDetached_member]; exact nofun) unblocked) (out _) (out _) (out _)

/-- An own frame lost in LEAVING takes the node to DETACHED (R53, R69). -/
theorem State.lost_detaches {s : State} (leaving : s.member.participation = .leaving) (c : Change) (cause : StepCause) :
    (((s.lost c).outOfStep cause).afterCap c).settle = (s.lost c).enterDetached := by
  obtain ⟨-, member, -, -, -⟩ := s.lost_frame c
  rw [State.outOfStep_of_leaving (by rw [member]; exact leaving), State.afterCap_of_none (by simp [State.enterDetached_units]),
    State.enterDetached_settle]

theorem State.lost_lease_code (s : State) (c : Change) : (s.lost c).lease.code = s.lease.code := by
  simp only [State.lost, State.toldLost_lease_code, State.retire_frame, State.completeOwn_lease]

/-- Settles O34: the frame is lost with its cause, and the node leaves step. -/
theorem senderRefusedOrDroppedSeeks : Obligations.SenderRefusedOrDroppedSeeks := by
  unfold Obligations.SenderRefusedOrDroppedSeeks
  refine fun s b b' c c' slots running line kind ack => ⟨fun step => ⟨fun obj => ?refused, fun obj others attempts => ?dropped⟩,
    fun leaving lost => ?leaving⟩
  all_goals
    have row := exec_ownChange running line kind b' slots
  case refused =>
    rw [State.ownChange_of_refused ack obj] at row
    exact ⟨_, row, State.lost_seeks step c .objected rfl⟩
  case dropped =>
    rw [State.ownChange_of_unheard ack obj others, attempts, if_neg (by decide)] at row
    exact ⟨_, row, State.lost_seeks step c .unacknowledged rfl⟩
  case leaving =>
    have row : exec (changeFrame s.address b' c' slots) s = .next (s.lost c).enterDetached := by
      by_cases obj : slots.obj = true
      · rw [row, State.ownChange_of_refused ack obj, State.lost_detaches leaving]
      · obtain ⟨others, attempts⟩ := lost.resolve_left obj
        rw [row, State.ownChange_of_unheard ack (by simpa using obj) others, attempts, if_neg (by decide), State.lost_detaches leaving]
    obtain ⟨-, -, port, cap, -⟩ := s.lost_frame c
    obtain ⟨slot, blocked, openUnits, latchedUnits⟩ := (s.lost c).enterDetached_demand
    obtain ⟨lease, cap_cleared, freeze⟩ := (s.lost c).enterDetached_units
    exact ⟨_, row, State.enterDetached_table _, State.enterDetached_member _, State.enterDetached_bus _, slot, blocked, openUnits,
      latchedUnits, by rw [lease, s.lost_lease_code], by rw [cap_cleared, cap], freeze,
      (State.enterDetached_port _).trans (State.postAt_port_congr port _ _ _)⟩

end Sys2Proof.Machine
end

section
/-! SUPPORT. An own frame that waits with one attempt more, and the latch undone: the items kept, the held cap setting, the slot emptied. -/

namespace Sys2Proof.Machine

/-! ## An item kept (R35) -/

theorem State.keepItem_item? {s : State} {k : FrameKind} (h : s.bus.has k = true) (n : Nat) :
    (s.keepItem k n).bus.item? k = some { kind := k, attempts := n, postedAgain := false } := by
  obtain ⟨i, item⟩ := Bus.exists_item h
  change (s.bus.modify k fun i => { i with attempts := n, postedAgain := false }).item? k = _
  rw [Bus.item?_modify (f := fun i => { i with attempts := n, postedAgain := false }) _ _ _ fun _ => rfl, item,
    ← Bus.kind_of_item? item]
  simp

/-- What an own frame leaves that waits with n attempts, told to its posting block as lost. -/
def State.waits (s : State) (c : Change) (n : Nat) : State := ((s.completeOwn c.kind).keepItem c.kind n).toldLost c

theorem State.waits_frame (s : State) (c : Change) (n : Nat) : (s.waits c n).table = s.table ∧ (s.waits c n).member = s.member
    ∧ (s.waits c n).port = s.port ∧ (s.waits c n).cap = s.cap := by
  simp [State.waits]

theorem State.waits_bus (s : State) (c : Change) (n : Nat) : (s.waits c n).bus = ((s.completeOwn c.kind).keepItem c.kind n).bus := by
  simp only [State.waits, State.toldLost_frame]

theorem State.waits_itemsOnly (s : State) (c : Change) (n : Nat) :
    { s with bus := s.completedBus }.itemsOnly [.alive, c.kind] (s.waits c n) :=
  (((s.completeOwn_itemsOnly c.kind).mono (by simp)).keepItem (by simp) n).elsewhere (s.waits_bus c n)

theorem State.waits_item? {s : State} {c : Change} (has : s.bus.has c.kind = true) (n : Nat) :
    (s.waits c n).bus.item? c.kind = some { kind := c.kind, attempts := n, postedAgain := false } := by
  rw [State.waits_bus]
  exact State.keepItem_item? (by rw [Bus.has_congr (s.completeOwn_item? _ (change_kind_ne_alive c)), has]) n

/-- The row of an own frame unheard with attempts remaining. -/
theorem exec_unheard {s : State} (running : s.power.running = true) {b : Base} {c : Change} (line : s.bus.line = .sending (.change b c))
    {c' : Change} (kind : c'.kind = c.kind) {slots : Slots} (ack : slots.ack = false) (obj : slots.obj = false)
    (others : s.table.hasOther s.address = true) (few : s.bus.attempts c.kind < 3) (b' : Base) :
    exec (changeFrame s.address b' c' slots) s =
      .next ((s.waits c (s.bus.attempts c.kind + 1)).afterUnheard c).settle := by
  rw [exec_ownChange running line kind, State.ownChange_of_unheard ack obj others, if_pos (by omega)]
  rfl

/-! ## The held cap setting (R128, R129) -/

theorem State.takeHeldCap_of_inStep {s : State} {w : Word16} (calm : s.bus.calm) (held : s.cap.held = some w)
    (in_step : s.member.participation.inStep = true) : s.takeHeldCap =
      if w = s.table.cap then { s with cap := { s.cap with held := none, request := none } }.dropItem .cap
      else { s with cap := { s.cap with held := none, request := some w } }.send .cap := by
  have idle : s.bus.capBusy = false := by simp [Bus.capBusy, (calm .cap).1, (calm .cap).2]
  unfold State.takeHeldCap State.takeCap
  simp only [held, idle, in_step, Bool.false_eq_true, if_false, if_true]
  split
  · rw [State.withdrawItem_of_calm (by exact calm)]
    rfl
  · rfl

theorem State.takeHeldCap_held {s : State} (calm : s.bus.calm) : s.takeHeldCap.cap.held = none := by
  have idle : s.bus.capBusy = false := by simp [Bus.capBusy, (calm .cap).1, (calm .cap).2]
  unfold State.takeHeldCap State.takeCap
  simp only [idle, Bool.false_eq_true, if_false]
  split
  · (repeat' split) <;> simp
  next none_held => exact none_held

/-! ## The slot emptied and composed anew (R116) -/

theorem State.clearStaleBlock_clearStaleBlock (s : State) : s.clearStaleBlock.clearStaleBlock = s.clearStaleBlock := by
  cases blocked : s.demand.blocked with
  | none => simp [State.clearStaleBlock, blocked]
  | some x => by_cases head : s.demand.queue.head? = some x <;> simp [State.clearStaleBlock, blocked, head]

/-- Where the slot stays empty, composition done once more does nothing. -/
theorem State.compose_compose {s : State} (h : s.compose.demand.slot = none) : s.compose.compose = s.compose := by
  have fresh := s.clearStaleBlock_clearStaleBlock
  revert h
  unfold State.compose
  dsimp only
  generalize s.clearStaleBlock = v at fresh
  cases queue : v.demand.queue with
  | nil => exact fun _ => State.compose_of_stuck fresh fun x head => by simp [queue] at head
  | cons x rest =>
    by_cases may : v.mayCompose = true
    · by_cases short : v.table.free < v.claimUnits x
      · simp only [may, short, if_true]
        exact fun _ => State.compose_of_stuck (by simp [State.clearStaleBlock, queue]) fun _ _ => by simp [State.mayCompose]
      · simp only [may, short, if_true, if_false]
        rw [State.fillSlot_demand]
        exact nofun
    · simp only [may]
      exact fun _ => State.compose_of_stuck fresh fun _ _ => by simpa using may

theorem State.emptySlot_load {s : State} {c : ClaimSlot} (slot : s.demand.slot = some c) (owned : c.orphaned = false) :
    ((s.load c.load).state = .claiming → (s.emptySlot.load c.load).state = .waiting)
      ∧ ((s.load c.load).state = .raiseClaim → (s.emptySlot.load c.load).state = .raiseWait) := by
  have emptied : s.emptySlot.load c.load = (s.returnLoad c.load).load c.load := by
    simp [State.emptySlot, slot, owned, State.load]
  rw [emptied]
  refine ⟨fun state => ?_, fun state => ?_⟩ <;>
  · simp only [State.returnLoad, state]
    rw [State.setLoadState_load]
    simp

theorem LoadState.composedTo_trans {a b c : LoadState} (h : a.composedTo b) (h' : b.composedTo c) : a.composedTo c := by
  unfold LoadState.composedTo at *
  rcases h with rfl | ⟨rfl, rfl⟩ | ⟨rfl, rfl⟩
  · exact h'
  · rcases h' with rfl | ⟨h', -⟩ | ⟨h', -⟩
    · exact .inr (.inl ⟨rfl, rfl⟩)
    · cases h'
    · cases h'
  · rcases h' with rfl | ⟨h', -⟩ | ⟨h', -⟩
    · exact .inr (.inr ⟨rfl, rfl⟩)
    · cases h'
    · cases h'

/-- A claim unheard: the slot empty, its item waiting. After the handling the item waits where composition filled the slot, and is
gone where it did not. -/
theorem State.composed_anew {u : State} (calm : u.bus.calm) (empty : u.demand.slot = none) {n : Nat}
    (item : u.bus.item? .claim = some { kind := .claim, attempts := n, postedAgain := false }) {k : ClassIx} {units : Byte} {tag : LoadIx}
    {t : State} (ht : t = (u.afterUnheard (.claim k units tag)).settle) :
    (t.demand.slot = none → t.bus.has .claim = false)
      ∧ (∀ c, t.demand.slot = some c → c.latched = false ∧ c.orphaned = false
          ∧ t.bus.item? .claim = some { kind := .claim, attempts := n, postedAgain := false }) := by
  have has : u.bus.has .claim = true := by rw [Bus.has_eq_isSome, item]; rfl
  have composed : u.compose.bus = u.bus := by
    rcases u.compose_bus with e | e
    · exact e
    · rw [e, State.send_of_has calm has]
  rcases State.compose_of_empty empty with ⟨still_empty, -⟩ | ⟨⟨c, filled, latched, orphaned⟩, -, -⟩
  · have dropped : u.afterUnheard (.claim k units tag) = u.compose.dropItem .claim := by simp [State.afterUnheard, still_empty]
    have once : (u.compose.dropItem .claim).compose.demand.slot = none := by
      rw [State.dropItem, State.compose_demand_elsewhere _ _ u.compose.lease, State.compose_compose still_empty, still_empty]
    rw [dropped] at ht
    have stays : t.demand.slot = none := by rw [ht, State.settle_demand, once]
    refine ⟨fun _ => ?_, fun c hc => by rw [stays] at hc; cases hc⟩
    have calm' : (u.compose.dropItem .claim).bus.calm := calm.congr (by rw [← composed]; rfl)
    rcases State.settle_of_no_claim calm' (by exact still_empty) (Bus.has_drop_self _ _) with ⟨-, gone⟩ | ⟨⟨c, hc, -⟩, -⟩
    · rw [ht, gone]
    · rw [← ht, stays] at hc
      cases hc
  · have kept : u.afterUnheard (.claim k units tag) = u.compose := by simp [State.afterUnheard, filled]
    obtain ⟨b, e⟩ := State.compose_of_slot filled
    rw [kept] at ht
    have slot : t.demand.slot = some c := by rw [ht, State.settle_demand, e]; exact filled
    refine ⟨fun hc => absurd (slot.symm.trans hc) nofun, fun c' hc => ?_⟩
    obtain rfl := Option.some.inj (slot.symm.trans hc)
    refine ⟨latched, orphaned, ?_⟩
    rw [ht, State.settle_item?_of_has (calm.congr (by rw [composed])) (by rw [composed, has]), composed, item]

theorem State.composed_anew_load (u : State) (k : ClassIx) (units : Byte) (tag : LoadIx) (y : LoadIx) :
    (u.load y).state.composedTo ((u.afterUnheard (.claim k units tag)).settle.load y).state := by
  have after : (u.afterUnheard (.claim k units tag)).load y = u.compose.load y := by
    unfold State.afterUnheard
    dsimp only
    split
    · rfl
    · rfl
  have settled := (State.settle_load (u.afterUnheard (.claim k units tag)) y).2
  rw [after] at settled
  exact LoadState.composedTo_trans (u.compose_load y).2 settled

/-! ## The unheard outcome -/

theorem State.afterUnheard_itemsOnly {s u : State} (h : s.itemsOnly FrameKind.all u) (c : Change) :
    s.itemsOnly FrameKind.all (u.afterUnheard c) := by
  unfold State.afterUnheard
  dsimp only
  split
  · split
    · exact h.compose (by decide)
    · exact (h.compose (by decide)).dropItem (by decide)
  · split
    · exact h
    · exact h.dropItem (by decide)
  · exact h.takeHeldCap (by decide)
  all_goals exact h

/-- What every unheard own frame with attempts remaining leaves. -/
theorem State.unheard_frame (s : State) (c : Change) (n : Nat) {t : State} (ht : t = ((s.waits c n).afterUnheard c).settle) :
    t.table = s.table ∧ t.member.participation = s.member.participation ∧ t.bus.line = .gap ∧ t.port = s.port := by
  obtain ⟨table, member, port, -⟩ := s.waits_frame c n
  have waits := (s.waits_itemsOnly c n).mono (ks' := FrameKind.all) fun k _ => FrameKind.mem_all k
  have ended := (State.afterUnheard_itemsOnly waits c).settle fun k _ => FrameKind.mem_all k
  subst ht
  exact ⟨by simp [table], by simp [member], by rw [ended.line]; rfl, by simp [port]⟩

/-- The kinds whose posting block does nothing more after an unheard frame. -/
theorem State.afterUnheard_of_plain {u : State} {c : Change} (plain : c.kind ∈ [.evict, .leave, .freeze, .thaw, .join]) :
    u.afterUnheard c = u := by
  cases c with
  | evict _ | leave | freeze _ | thaw | join => rfl
  | cap _ | release _ | claim _ _ _ => exact absurd plain (by simp [Change.kind])

/-- A RELEASE unheard: the account stays, and its item waits in ACTIVE alone (R122). -/
theorem State.release_waits {u : State} (calm : u.bus.calm) {n : Nat}
    (item : u.bus.item? .release = some { kind := .release, attempts := n, postedAgain := false }) (a : Vector (BitVec 11) 4)
    {t : State} (ht : t = (u.afterUnheard (.release a)).settle) :
    t.demand.openUnits = u.demand.openUnits ∧ t.demand.latchedUnits = u.demand.latchedUnits
      ∧ (u.member.participation = .active → t.bus.item? .release = some { kind := .release, attempts := n, postedAgain := false })
      ∧ (u.member.participation ≠ .active → t.bus.has .release = false) := by
  have after : u.afterUnheard (.release a) = if u.member.participation.allows .release then u else u.dropItem .release := rfl
  have account : (u.afterUnheard (.release a)).demand = u.demand := by
    rw [after]
    split <;> rfl
  subst ht
  refine ⟨by rw [State.settle_openUnits, account], by rw [State.settle_demand, State.compose_demand, account], fun active => ?_,
    fun not_active => ?_⟩
  · rw [after, if_pos (by rw [active]; rfl), State.settle_item?_of_has calm (by rw [Bus.has_eq_isSome, item]; rfl), item]
  · have barred : ¬ u.member.participation.allows .release = true := by
      revert not_active
      cases u.member.participation <;> decide
    rw [after, if_neg barred, Bus.has_congr (State.settle_item?_of_other (calm.congr (by rfl)) (by decide))]
    exact Bus.has_drop_self _ _

/-- The held cap setting taken in ACTIVE after a CAP that waits (R128, R129). -/
theorem State.cap_waits {u : State} (calm : u.bus.calm) {n : Nat}
    (item : u.bus.item? .cap = some { kind := .cap, attempts := n, postedAgain := false })
    (active : u.member.participation = .active) {t : State} (ht : t = u.takeHeldCap.settle) :
    t.cap.held = none ∧ (u.cap.held = none → t.cap.request = u.cap.request)
      ∧ (∀ w, u.cap.held = some w → w = u.table.cap → t.cap.request = none ∧ t.bus.has .cap = false)
      ∧ (∀ w, u.cap.held = some w → w ≠ u.table.cap → t.cap.request = some w)
      ∧ (u.cap.held ≠ some u.table.cap → t.bus.item? .cap = some { kind := .cap, attempts := n, postedAgain := false }) := by
  have has : u.bus.has .cap = true := by rw [Bus.has_eq_isSome, item]; rfl
  have taken := (State.itemsOnly.refl calm [.cap]).takeHeldCap (by simp)
  have cap : t.cap = u.takeHeldCap.cap := by rw [ht]; simp
  have bus : t.bus.item? .cap = u.takeHeldCap.bus.item? .cap := by rw [ht, State.settle_item?_of_other taken.calm (by decide)]
  have held (w : Word16) (h : u.cap.held = some w) := State.takeHeldCap_of_inStep calm h (by rw [active]; rfl)
  rw [cap, bus]
  refine ⟨State.takeHeldCap_held calm, fun h => by rw [State.takeHeldCap_of_none h], fun w h same => ?_, fun w h differs => ?_,
    fun h => ?_⟩
  · rw [Bus.has_congr bus, held w h, if_pos same]
    exact ⟨rfl, Bus.has_drop_self _ _⟩
  · rw [held w h, if_neg differs]
    simp
  · cases setting : u.cap.held with
    | none => rw [State.takeHeldCap_of_none setting, item]
    | some w =>
      rw [held w setting, if_neg fun same => h (by rw [setting, same]), State.send_of_has (by exact calm) (by exact has)]
      exact item

/-- Settles O35: the item waits with one attempt more, and the end of the handling leaves an item that stands. -/
theorem senderUnheardRetries : Obligations.SenderUnheardRetries := by
  unfold Obligations.SenderUnheardRetries
  refine ⟨fun s b b' c c' slots running line kind kinds ack obj others has few => ?plain, fun s b b' slots running ack obj others =>
    ⟨fun k u tag k' u' tag' line has few => ?claim, fun a a' line has few => ?release, fun v v' line has few active => ?cap⟩⟩
  case plain =>
    have row := exec_unheard running line kind ack obj others few b'
    have item := State.waits_item? has (s.bus.attempts c.kind + 1)
    obtain ⟨table, participation, gap, port⟩ := s.unheard_frame c (s.bus.attempts c.kind + 1) rfl
    refine ⟨_, row, table, participation, gap, port, ?_⟩
    rw [State.afterUnheard_of_plain kinds,
      State.settle_item?_of_has (s.waits_itemsOnly c _).calm (by rw [Bus.has_eq_isSome, item]; rfl), item]
  case claim =>
    have row := exec_unheard running line (c' := .claim k' u' tag') rfl ack obj others few b'
    have item := State.waits_item? (c := .claim k u tag) has (s.bus.attempts .claim + 1)
    obtain ⟨table, participation, gap, port⟩ := s.unheard_frame (.claim k u tag) (s.bus.attempts .claim + 1) rfl
    obtain ⟨unfilled, filled⟩ := State.composed_anew (s.waits_itemsOnly (.claim k u tag) _).calm (State.emptySlot_slot _) item rfl
    have returned (c : ClaimSlot) (slot : s.demand.slot = some c) (owned : c.orphaned = false) :=
      State.emptySlot_load (s := (s.completeOwn .claim).keepItem .claim (s.bus.attempts .claim + 1)) (c := c) (by simpa using slot) owned
    have load (y : LoadIx) : ((s.completeOwn .claim).keepItem .claim (s.bus.attempts .claim + 1)).load y = s.load y := by
      simp [State.load]
    have composed := (s.waits (.claim k u tag) (s.bus.attempts .claim + 1)).composed_anew_load k u tag
    refine ⟨_, row, table, participation, gap, port, unfilled, filled, fun c slot owned state => ?_, fun c slot owned state => ?_⟩
    · have waiting := (returned c slot owned).1 (by rw [load]; exact state)
      have moved := composed c.load
      rw [show ((s.waits (.claim k u tag) (s.bus.attempts .claim + 1)).load c.load).state = .waiting from waiting] at moved
      rcases moved with same | ⟨-, claims⟩ | ⟨raises, -⟩
      · exact .inl same
      · exact .inr claims
      · cases raises
    · have waiting := (returned c slot owned).2 (by rw [load]; exact state)
      have moved := composed c.load
      rw [show ((s.waits (.claim k u tag) (s.bus.attempts .claim + 1)).load c.load).state = .raiseWait from waiting] at moved
      rcases moved with same | ⟨claims, -⟩ | ⟨-, raises⟩
      · exact .inl same
      · cases claims
      · exact .inr raises
  case release =>
    have row : exec (.releaseFrame s.address b' a' slots) s =
        .next ((s.waits (.release a) (s.bus.attempts .release + 1)).afterUnheard (.release a)).settle :=
      exec_unheard running line (c' := .release a') rfl ack obj others few b'
    have item := State.waits_item? (c := .release a) has (s.bus.attempts .release + 1)
    have account : (s.waits (.release a) (s.bus.attempts .release + 1)).demand = { s.demand with
        openUnits := addAccounts s.demand.openUnits s.demand.latchedUnits, latchedUnits := .replicate 4 0 } := by
      simp [State.waits, State.toldLost, State.reopenAccount]
    obtain ⟨-, member, -, -⟩ := s.waits_frame (.release a) (s.bus.attempts .release + 1)
    obtain ⟨table, participation, gap, port⟩ := s.unheard_frame (.release a) (s.bus.attempts .release + 1) rfl
    have waits := State.release_waits (s.waits_itemsOnly (.release a) _).calm item a rfl
    rw [account, member] at waits
    exact ⟨_, row, table, participation, gap, port, waits⟩
  case cap =>
    have row : exec (.capFrame s.address b' v' slots) s =
        .next ((s.waits (.cap v) (s.bus.attempts .cap + 1)).afterUnheard (.cap v)).settle :=
      exec_unheard running line (c' := .cap v') rfl ack obj others few b'
    have item := State.waits_item? (c := .cap v) has (s.bus.attempts .cap + 1)
    obtain ⟨table, participation, gap, port⟩ := s.unheard_frame (.cap v) (s.bus.attempts .cap + 1) rfl
    obtain ⟨same_table, member, -, cap⟩ := s.waits_frame (.cap v) (s.bus.attempts .cap + 1)
    have waits := State.cap_waits (s.waits_itemsOnly (.cap v) _).calm item (by rw [member]; exact active) rfl
    rw [cap, same_table] at waits
    exact ⟨_, row, table, participation.trans active, gap, port, waits⟩

end Sys2Proof.Machine
end

section
/-! SUPPORT. The node's own frame accepted (R11, R21, R34): the table and its events, the hand-offs, and what is left of the item. -/

namespace Sys2Proof.Machine

/-! ## The item of an accepted frame (R40) -/

theorem State.retire_item?_of_posted_again {s : State} {k : FrameKind} {i : Item} (item : s.bus.item? k = some i)
    (again : i.postedAgain = true) (allowed : s.member.participation.allows k = true) :
    (s.retire k).bus.item? k = some { kind := k, attempts := 0, postedAgain := false } := by
  have retired : s.retire k = (s.dropItem k).send k := by simp [State.retire, item, again]
  rw [retired, State.send_item?_new (by exact allowed) (Bus.has_drop_self _ _)]

theorem State.retire_has_of_not_posted_again {s : State} {k : FrameKind} (once : ∀ i, s.bus.item? k = some i → i.postedAgain = false) :
    (s.retire k).bus.has k = false := by
  unfold State.retire
  split
  next i item =>
    rw [if_neg (by simp [once i item])]
    exact Bus.has_drop_self _ _
  next none_there => exact Bus.item?_eq_none.mp none_there

/-! ## The table and its events (R11, R21) -/

/-- The state with an accepted frame in the table and its events posted, before the hand-offs. -/
def State.noted (s : State) (q : Station) (c : Change) : State :=
  { s with table := s.table.apply q c }.postTableEvents s.table q c

@[simp] theorem State.noted_frame (s : State) (q : Station) (c : Change) :
    (s.noted q c).address = s.address ∧ (s.noted q c).settings = s.settings ∧ (s.noted q c).table = s.table.apply q c
      ∧ (s.noted q c).bus = s.bus ∧ (s.noted q c).member = s.member ∧ (s.noted q c).lease = s.lease ∧ (s.noted q c).loads = s.loads
      ∧ (s.noted q c).demand = s.demand ∧ (s.noted q c).cap = s.cap ∧ (s.noted q c).freeze = s.freeze := by
  simp [State.noted]

/-- An accepted frame applied: table and events, the hand-offs, and the blocked flag where units are free again (R112). -/
theorem State.applyFrame_eq (s : State) (q : Station) (c : Change) :
    ∃ b, s.applyFrame q c = ((s.noted q c).handOff s.table q c).setBlocked b := by
  unfold State.applyFrame
  dsimp only
  split
  · exact ⟨_, rfl⟩
  · exact ⟨_, rfl⟩

/-- A list of records posted with the table's commit number, as a list of records posted with that number. -/
theorem foldl_post_port {w : Word16} : ∀ (l : List (EventCode × Byte)) {u v : State}, u.port = v.port → u.table.commit = w →
    (l.foldl (fun s e => s.post e.1 e.2) u).port = (l.foldl (fun s e => s.postAt w e.1 e.2) v).port
  | [], _, _, port, _ => port
  | e :: l, u, v, port, commit => by
    refine foldl_post_port l ?_ (by simpa using commit)
    change (u.postAt u.table.commit e.1 e.2).port = (v.postAt w e.1 e.2).port
    rw [commit]
    exact State.postAt_port_congr port _ _ _

theorem State.noted_port {s v : State} (port : s.port = v.port) (q : Station) (c : Change) : (s.noted q c).port =
    ((s.table.events q c).foldl (fun u e => u.postAt (s.table.commit + 1) e.1 e.2) v).port :=
  foldl_post_port _ (by exact port) rfl

/-! ## The hand-offs of an own frame (Table 1.5) -/

/-- The items that the hand-offs of an own frame can change. -/
def handOffItems : Change → List FrameKind
  | .cap _ => [.cap, .claim, .release]
  | .evict _ | .leave => [.evict]
  | .release _ => []
  | .join => [.seek, .cap, .freeze]
  | .freeze _ => [.thaw, .claim]
  | .thaw => [.thaw]
  | .claim _ _ _ => [.release]

theorem Table.removes_other {t : Table} {q r target : Station} (h : t.removes q (.evict target) = some r) : r ≠ q := by
  simp only [Table.removes] at h
  split at h
  next removed =>
    simp only [Bool.and_eq_true, decide_eq_true_eq] at removed
    exact Option.some.inj h ▸ removed.2
  next => cases h

theorem State.handRemoval_eq {s : State} {r : Station} {byEvict : Bool} (other : byEvict = true → r ≠ s.address) :
    s.handRemoval r byEvict = s.memberRemoved r := by
  unfold State.handRemoval
  dsimp only
  exact if_neg fun own => other own.1 (by simpa using own.2)

theorem State.memberRemoved_quiet (s : State) (q : Station) : (s.memberRemoved q).lease.quiet = s.lease.quiet := by
  simp [State.memberRemoved]

/-- What the hand-offs of an own frame leave, where it does not take the node off the line. -/
structure State.HandedOn (s : State) (c : Change) (u : State) : Prop where
  items : s.itemsOnly (handOffItems c) u
  table : u.table = s.table
  quiet : u.lease.quiet = s.lease.quiet

theorem State.handOff_own {s : State} (calm : s.bus.calm) (before : Table) {c : Change}
    (stays : s.member.participation = .leaving → c ≠ .leave) : s.HandedOn c (s.handOff before s.address c) := by
  have same (ks : List FrameKind) : s.itemsOnly ks s := .refl calm ks
  cases c with
  | cap v => exact ⟨((same _).capApplied (by simp [handOffItems]) _ v).shedIfOverCap (by simp [handOffItems]), by simp [State.handOff],
      by simp [State.handOff]⟩
  | evict target =>
    unfold State.handOff
    dsimp only
    split
    next r removed =>
      rw [State.handRemoval_eq fun _ => Table.removes_other removed]
      exact ⟨(same _).memberRemoved (by simp [handOffItems]) r, by simp, s.memberRemoved_quiet r⟩
    next => exact ⟨same _, rfl, rfl⟩
  | release a => exact ⟨same _, rfl, rfl⟩
  | leave =>
    have on_line : s.member.participation ≠ .leaving := fun leaving => stays leaving rfl
    unfold State.handOff
    dsimp only
    split
    next r removed =>
      rw [State.handRemoval_eq (byEvict := false) nofun, if_neg (by simpa using on_line)]
      exact ⟨(same _).memberRemoved (by simp [handOffItems]) r, by simp, s.memberRemoved_quiet r⟩
    next =>
      rw [if_neg (by simpa using on_line)]
      exact ⟨same _, rfl, rfl⟩
  | join =>
    unfold State.handOff
    dsimp only
    have not_started : (if !before.entries[s.address].member && decide (s.address ≠ s.address) then s.startSilence s.address
        else s) = s := by simp
    rw [not_started]
    split
    · exact ⟨(same _).joined (by simp [handOffItems]), by simp, by simp⟩
    · exact ⟨same _, rfl, rfl⟩
  | freeze d =>
    have applied := (same (handOffItems (.freeze d))).freezeApplied (by simp [handOffItems]) d
    unfold State.handOff
    dsimp only
    split
    · exact ⟨applied, by simp, by simp⟩
    · exact ⟨applied.freezeClaim (by simp [handOffItems]), by simp, by simp⟩
  | thaw =>
    unfold State.handOff
    dsimp only
    split
    · exact ⟨((same _).thawApplied (by simp [handOffItems])).elsewhere (by rfl), by simp, by simp⟩
    · exact ⟨same _, rfl, rfl⟩
  | claim k u tag =>
    unfold State.handOff
    dsimp only
    rw [if_pos rfl]
    split
    · exact ⟨(same _).claimGranted (by simp [handOffItems]) k _ tag, by simp, by simp⟩
    · exact ⟨(same _).claimDenied tag, by simp, by simp⟩

/-- An own frame applied, where it does not take the node off the line. -/
theorem State.applyFrame_own {s : State} (calm : s.bus.calm) {c : Change} (stays : s.member.participation = .leaving → c ≠ .leave) :
    s.itemsOnly (handOffItems c) (s.applyFrame s.address c) ∧ (s.applyFrame s.address c).table = s.table.apply s.address c
      ∧ (s.applyFrame s.address c).lease.quiet = s.lease.quiet := by
  obtain ⟨b, e⟩ := s.applyFrame_eq s.address c
  have noted : s.itemsOnly (handOffItems c) (s.noted s.address c) := (State.itemsOnly.refl calm _).elsewhere (by simp)
  have handed := State.handOff_own noted.calm s.table (c := c) (by simpa using stays)
  rw [(s.noted_frame s.address c).1] at handed
  rw [e]
  exact ⟨(noted.trans handed.items).elsewhere (by rfl), handed.table.trans (by simp), handed.quiet.trans (by simp)⟩

theorem State.claimGranted_slot (s : State) (k : ClassIx) (u : Nat) (tag : LoadIx) : (s.claimGranted k u tag).demand.slot = none := by
  unfold State.claimGranted
  split
  · split
    · simp [State.freeUnits_demand]
    · rfl
  next empty => exact empty

theorem State.claimDenied_slot (s : State) (tag : LoadIx) : (s.claimDenied tag).demand.slot = none := by
  unfold State.claimDenied
  dsimp only
  (repeat' split)
  · rfl
  · rfl
  · rfl
  next empty => exact empty

/-- The outcome of an own CLAIM empties the slot (R114, R115). -/
theorem State.applyFrame_claim_slot (s : State) (k : ClassIx) (u : Byte) (tag : LoadIx) :
    (s.applyFrame s.address (.claim k u tag)).demand.slot = none := by
  obtain ⟨b, e⟩ := s.applyFrame_eq s.address (.claim k u tag)
  rw [e]
  unfold State.handOff
  dsimp only
  rw [(s.noted_frame _ _).1, if_pos rfl]
  split
  · exact State.claimGranted_slot _ _ _ _
  · exact State.claimDenied_slot _ _

theorem State.withdrawItem_has_of_absent {s : State} (calm : s.bus.calm) {j : FrameKind} (absent : s.bus.has j = false) (k : FrameKind) :
    (s.withdrawItem k).bus.has j = false := by
  rw [State.withdrawItem_of_calm calm, State.dropItem_bus]
  by_cases e : j = k
  · subst e
    exact Bus.has_drop_self _ _
  · rw [Bus.has_drop_of_ne _ e, absent]

/-- The removal of a station posts no EVICT item. -/
theorem State.memberRemoved_has_evict {s : State} (calm : s.bus.calm) (absent : s.bus.has .evict = false) (q : Station) :
    (s.memberRemoved q).bus.has .evict = false := by
  have stays {u : State} (calm : u.bus.calm) (absent : u.bus.has .evict = false) : u.withdrawEvictIfUnmarked.bus.has .evict = false := by
    unfold State.withdrawEvictIfUnmarked
    split
    · exact absent
    · exact State.withdrawItem_has_of_absent calm absent .evict
  exact stays (by exact calm) (by exact absent)

/-- The hand-offs of an own EVICT post no EVICT item. -/
theorem State.applyFrame_evict_has {s : State} (calm : s.bus.calm) (absent : s.bus.has .evict = false) (target : Station) :
    (s.applyFrame s.address (.evict target)).bus.has .evict = false := by
  obtain ⟨b, e⟩ := s.applyFrame_eq s.address (.evict target)
  rw [e]
  change (State.handOff _ _ _ _).bus.has .evict = false
  unfold State.handOff
  dsimp only
  split
  next r removed =>
    rw [State.handRemoval_eq fun _ => by simpa using Table.removes_other removed]
    exact State.memberRemoved_has_evict (calm.congr (by simp)) (by simpa using absent) r
  next => simpa using absent

/-- An own THAW: one that found the table frozen takes thaw mark and item, any other hands nothing on (R141). -/
theorem State.applyFrame_thaw {s : State} (calm : s.bus.calm) :
    (s.applyFrame s.address .thaw).member = s.member
      ∧ (s.table.frozen = true → (s.applyFrame s.address .thaw).freeze.thawMark = false
          ∧ (s.applyFrame s.address .thaw).bus.has .thaw = false)
      ∧ (s.table.frozen = false → (s.applyFrame s.address .thaw).freeze = s.freeze ∧ (s.applyFrame s.address .thaw).bus = s.bus) := by
  obtain ⟨b, e⟩ := s.applyFrame_eq s.address .thaw
  have handed : (s.noted s.address .thaw).handOff s.table s.address .thaw =
    if s.table.frozen then (s.noted s.address .thaw).thawApplied.setBlocked none else s.noted s.address .thaw := rfl
  rw [e, handed]
  refine ⟨by split <;> simp, fun frozen => ?_, fun thawed => ?_⟩
  · rw [if_pos frozen]
    refine ⟨by simp [State.thawApplied], ?_⟩
    change ((s.noted s.address .thaw).thawApplied).bus.has .thaw = false
    unfold State.thawApplied
    rw [State.withdrawItem_of_calm (calm.congr (by simp))]
    exact Bus.has_drop_self _ _
  · rw [if_neg (by simp [thawed])]
    simp

/-- An own CAP: the request is cleared and the item withdrawn; shedding posts no CAP (R129, R131). -/
theorem State.applyFrame_cap {s : State} (calm : s.bus.calm) (v : Word16) :
    (s.applyFrame s.address (.cap v)).member = s.member ∧ (s.applyFrame s.address (.cap v)).cap = { s.cap with request := none }
      ∧ (s.applyFrame s.address (.cap v)).bus.has .cap = false := by
  obtain ⟨b, e⟩ := s.applyFrame_eq s.address (.cap v)
  have noted_calm : (s.noted s.address (.cap v)).bus.calm := calm.congr (by simp)
  have applied : (s.noted s.address (.cap v)).capApplied s.address v = ((s.noted s.address (.cap v)).setRequest none).dropItem .cap := by
    rw [← State.withdrawItem_of_calm (s := (s.noted s.address (.cap v)).setRequest none) noted_calm]
    exact if_pos (.inl (by simp))
  have handed : (s.noted s.address (.cap v)).handOff s.table s.address (.cap v) =
    (((s.noted s.address (.cap v)).setRequest none).dropItem .cap).shedIfOverCap := by
    rw [← applied]
    rfl
  have shed := (State.itemsOnly.refl (s := ((s.noted s.address (.cap v)).setRequest none).dropItem .cap) noted_calm
    [.claim, .release]).shedIfOverCap (by simp)
  rw [e, handed]
  refine ⟨by simp, by simp, ?_⟩
  simp only [State.setBlocked_frame]
  rw [Bus.has_congr (shed.others .cap (by decide))]
  exact Bus.has_drop_self _ _

theorem Participation.allows_cap (p : Participation) : p.allows .cap = (p == .active) := by cases p <;> rfl

/-- The held cap setting taken after an accepted CAP (R128, R129). -/
theorem State.cap_accepted {u : State} (calm : u.bus.calm) (absent : u.bus.has .cap = false) (request : u.cap.request = none)
    {t : State} (ht : t = u.takeHeldCap.settle) :
    t.cap.held = none ∧ (u.cap.held = none → t.cap.request = none ∧ t.bus.has .cap = false)
      ∧ (∀ w, u.cap.held = some w → u.member.participation.inStep = true →
          (w = u.table.cap → t.cap.request = none ∧ t.bus.has .cap = false)
          ∧ (w ≠ u.table.cap → t.cap.request = some w ∧ t.bus.has .cap = (u.member.participation == .active))) := by
  have taken := (State.itemsOnly.refl calm [.cap]).takeHeldCap (by simp)
  have cap : t.cap = u.takeHeldCap.cap := by rw [ht]; simp
  have bus : t.bus.has .cap = u.takeHeldCap.bus.has .cap := by
    rw [ht, Bus.has_congr (State.settle_item?_of_other taken.calm (by decide))]
  rw [cap, bus]
  refine ⟨State.takeHeldCap_held calm, fun h => ?_, fun w held in_step => ⟨fun same => ?_, fun differs => ?_⟩⟩
  · rw [State.takeHeldCap_of_none h]
    exact ⟨request, absent⟩
  · rw [State.takeHeldCap_of_inStep calm held in_step, if_pos same]
    exact ⟨rfl, Bus.has_drop_self _ _⟩
  · rw [State.takeHeldCap_of_inStep calm held in_step, if_neg differs, State.send_has_iff]
    refine ⟨by simp, ?_⟩
    change (u.bus.has .cap || u.member.participation.allows .cap) = _
    rw [absent, Participation.allows_cap, Bool.false_or]

/-- An own JOIN accepted in JOINING: ACTIVE with PHASE after the table's events (R66). -/
theorem State.applyFrame_join {s : State} (joining : s.member.participation = .joining) :
    (s.applyFrame s.address .join).member = { s.member with participation := .active }
      ∧ (s.applyFrame s.address .join).port = ((s.noted s.address .join).postAt (s.table.commit + 1) .phase 3).port := by
  obtain ⟨b, e⟩ := s.applyFrame_eq s.address .join
  have handed : (s.noted s.address .join).handOff s.table s.address .join = (s.noted s.address .join).joined := by
    have not_started : (if !s.table.entries[s.address].member && decide (s.address ≠ (s.noted s.address .join).address)
        then (s.noted s.address .join).startSilence s.address else s.noted s.address .join) = s.noted s.address .join := by
      simp
    unfold State.handOff
    dsimp only
    rw [not_started, if_pos (by simp [joining])]
  rw [e, handed]
  refine ⟨by simp, ?_⟩
  change ((s.noted s.address .join).joined).port = _
  unfold State.joined
  simp only [State.reachActive_frame]
  unfold State.postPhase State.post
  simp only [State.setParticipation_frame, State.noted_frame]
  exact State.postAt_port_congr (by rfl) _ _ _

/-- An own LEAVE accepted in LEAVING: DETACHED, with PHASE(5) after the table's events (R15, R69). -/
theorem State.applyFrame_leave {s : State} (leaving : s.member.participation = .leaving) :
    ∃ b, ∃ v : State, s.applyFrame s.address .leave = v.enterDetached.setBlocked b ∧ v.port = (s.noted s.address .leave).port := by
  obtain ⟨b, e⟩ := s.applyFrame_eq s.address .leave
  rw [e]
  refine ⟨b, ?_⟩
  unfold State.handOff
  dsimp only
  split
  next r removed =>
    rw [State.handRemoval_eq (byEvict := false) nofun, if_pos (by simp [leaving])]
    exact ⟨_, rfl, by simp⟩
  next =>
    rw [if_pos (by simp [leaving])]
    exact ⟨_, rfl, rfl⟩

/-! ## The accepted own frame (R34) -/

/-- The state after the completion of an accepted own frame, told to its posting block, before the table takes it. -/
def State.told (s : State) (c : Change) : State := ((s.completeOwn c.kind).retire c.kind).toldAccepted c

theorem State.told_frame (s : State) (c : Change) : (s.told c).address = s.address ∧ (s.told c).settings = s.settings
    ∧ (s.told c).table = s.table ∧ (s.told c).member = s.member ∧ (s.told c).cap = s.cap ∧ (s.told c).port = s.port := by
  simp [State.told]

theorem State.told_bus (s : State) (c : Change) : (s.told c).bus = ((s.completeOwn c.kind).retire c.kind).bus := by
  simp [State.told]

theorem State.told_itemsOnly (s : State) (c : Change) : { s with bus := s.completedBus }.itemsOnly FrameKind.all (s.told c) :=
  (((s.completeOwn_itemsOnly c.kind).mono fun k _ => FrameKind.mem_all k).retire (FrameKind.mem_all _)).elsewhere (s.told_bus c)

theorem State.told_quiet (s : State) (c : Change) : (s.told c).lease.quiet = some 0 := by
  have quiet : ((s.completeOwn c.kind).retire c.kind).lease.quiet = some 0 := by
    simp only [State.retire_frame, State.completeOwn_lease]
  unfold State.told State.toldAccepted
  split
  · exact quiet
  · split <;> exact quiet
  · exact quiet
  all_goals exact quiet

theorem State.told_of_posted_again {s : State} {c : Change} {i : Item} (item : s.bus.item? c.kind = some i) (again : i.postedAgain = true)
    (allowed : s.member.participation.allows c.kind = true) :
    (s.told c).bus.item? c.kind = some { kind := c.kind, attempts := 0, postedAgain := false } := by
  rw [s.told_bus]
  exact State.retire_item?_of_posted_again ((s.completeOwn_item? _ (change_kind_ne_alive c)).trans item) again (by simpa using allowed)

theorem State.told_of_not_posted_again {s : State} {c : Change} (once : ∀ i, s.bus.item? c.kind = some i → i.postedAgain = false) :
    (s.told c).bus.has c.kind = false := by
  rw [s.told_bus]
  exact State.retire_has_of_not_posted_again fun i item => once i ((s.completeOwn_item? _ (change_kind_ne_alive c)).symm.trans item)

/-- The state after an accepted own frame, before the end of the handling. -/
def State.accepted (s : State) (c : Change) : State := ((s.told c).applyFrame s.address c).afterCap c

theorem exec_accepted {s : State} (running : s.power.running = true) {b : Base} {c : Change} (line : s.bus.line = .sending (.change b c))
    {c' : Change} (kind : c'.kind = c.kind) {slots : Slots}
    (outcome : slots.ack = true ∨ (slots.obj = false ∧ s.table.hasOther s.address = false)) (b' : Base) :
    exec (changeFrame s.address b' c' slots) s = .next (s.accepted c).settle := by
  rw [exec_ownChange running line kind, State.ownChange_of_accepted outcome]
  rfl

section
variable {s : State} {c : Change} (stays : s.member.participation = .leaving → c ≠ .leave)
include stays

theorem State.applied_own : (s.told c).itemsOnly (handOffItems c) ((s.told c).applyFrame s.address c)
    ∧ ((s.told c).applyFrame s.address c).table = s.table.apply s.address c
    ∧ ((s.told c).applyFrame s.address c).lease.quiet = some 0 := by
  obtain ⟨address, -, table, member, -, -⟩ := s.told_frame c
  have applied := State.applyFrame_own (s.told_itemsOnly c).calm (by rw [member]; exact stays)
  rw [address, table, s.told_quiet] at applied
  exact applied

theorem State.accepted_itemsOnly : (s.told c).itemsOnly (.cap :: handOffItems c) (s.accepted c) := by
  obtain ⟨applied, -, -⟩ := State.applied_own stays
  exact (applied.mono fun _ => List.mem_cons_of_mem _).trans ((State.afterCap_itemsOnly applied.calm c).mono (by simp))

/-- What every accepted own frame leaves that does not take the node off the line. -/
theorem State.accepted_frame : (s.accepted c).settle.table = s.table.apply s.address c ∧ (s.accepted c).settle.bus.line = .gap
    ∧ (s.accepted c).settle.bus.failures = 0 ∧ (s.accepted c).settle.lease.quiet = some 0
    ∧ (s.accepted c).settle.bus.fairGap = (if s.settings.fairGap = 0 then none else some s.settings.fairGap.toNat)
    ∧ (s.accepted c).settle.settings = s.settings ∧ (s.accepted c).settle.address = s.address := by
  obtain ⟨address, settings, -⟩ := s.told_frame c
  obtain ⟨-, table, quiet⟩ := State.applied_own stays
  have accepted := (State.accepted_itemsOnly stays).mono (ks' := FrameKind.all) fun k _ => FrameKind.mem_all k
  have ended := ((s.told_itemsOnly c).trans accepted).settle fun k _ => FrameKind.mem_all k
  exact ⟨by simp [State.accepted, table], by rw [ended.line]; rfl, by rw [ended.failures]; rfl, by simp [State.accepted, quiet],
    by rw [ended.fairGap]; rfl, by simp [State.accepted, settings], by simp [State.accepted, address]⟩

/-- The hand-offs of an own frame leave its own item, but for an EVICT, a THAW and a CAP. -/
theorem State.accepted_item? (kinds : c.kind ∈ [.release, .leave, .freeze, .join, .claim]) :
    (s.accepted c).bus.item? c.kind = (s.told c).bus.item? c.kind := by
  refine (State.accepted_itemsOnly stays).others _ ?_
  revert kinds
  cases c <;> simp [Change.kind, handOffItems]

end

theorem State.accepted_of_not_cap {s : State} {c : Change} (h : ∀ v, c ≠ .cap v) :
    s.accepted c = (s.told c).applyFrame s.address c := by
  unfold State.accepted State.afterCap
  split
  next v => exact absurd rfl (h v)
  next => rfl

/-- An own frame whose item was not posted again, of a kind that no hand-off and no end of a handling posts. -/
theorem State.accepted_gone {s : State} {c : Change} (stays : s.member.participation = .leaving → c ≠ .leave)
    (once : ∀ i, s.bus.item? c.kind = some i → i.postedAgain = false) (kinds : c.kind ∈ [.release, .leave, .freeze, .join]) :
    (s.accepted c).settle.bus.has c.kind = false := by
  have untouched : c.kind ∈ [FrameKind.release, .leave, .freeze, .join, .claim] :=
    List.mem_append_left (as := [FrameKind.release, .leave, .freeze, .join]) [FrameKind.claim] kinds
  have other : c.kind ∉ [FrameKind.claim, .evict, .thaw, .image] := by
    revert kinds
    generalize c.kind = k
    cases k <;> decide
  rw [Bus.has_congr (State.settle_item?_of_other (State.accepted_itemsOnly stays).calm other),
    Bus.has_congr (State.accepted_item? stays untouched), State.told_of_not_posted_again once]

/-- After an own CLAIM a CLAIM item stands where composition filled the slot, and there alone. -/
theorem State.accepted_claim {s : State} {k : ClassIx} {u : Byte} {tag : LoadIx}
    (once : ∀ i, s.bus.item? .claim = some i → i.postedAgain = false) :
    (s.accepted (.claim k u tag)).settle.bus.has .claim = true ↔ (s.accepted (.claim k u tag)).settle.demand.slot.isSome = true := by
  have stays : s.member.participation = .leaving → Change.claim k u tag ≠ .leave := fun _ => nofun
  have item : (s.accepted (.claim k u tag)).bus.has .claim = false :=
    (Bus.has_congr (State.accepted_item? stays (by simp [Change.kind]))).trans
      (State.told_of_not_posted_again (c := .claim k u tag) once)
  have slot : (s.accepted (.claim k u tag)).demand.slot = none := by
    rw [State.accepted_of_not_cap (c := .claim k u tag) nofun, ← (s.told_frame (.claim k u tag)).1]
    exact State.applyFrame_claim_slot _ k u tag
  rcases State.settle_of_no_claim (State.accepted_itemsOnly stays).calm slot item with ⟨empty, gone⟩ | ⟨⟨d, filled, -⟩, stands⟩
  · simp [empty, gone]
  · simp [filled, Bus.has_eq_isSome, stands]

/-- After an own EVICT an EVICT item stands where the node is in step and a mark stands, and there alone. -/
theorem State.accepted_evict {s : State} {q : Station} (once : ∀ i, s.bus.item? .evict = some i → i.postedAgain = false) :
    (s.accepted (.evict q)).settle.bus.has .evict = true ↔ (s.accepted (.evict q)).settle.member.participation.inStep = true
      ∧ ∃ p : Station, (s.accepted (.evict q)).settle.lease.marks[p] = true := by
  have stays : s.member.participation = .leaving → Change.evict q ≠ .leave := fun _ => nofun
  have absent : (s.accepted (.evict q)).bus.has .evict = false := by
    rw [State.accepted_of_not_cap (c := .evict q) nofun, ← (s.told_frame (.evict q)).1]
    exact State.applyFrame_evict_has (s.told_itemsOnly (.evict q)).calm (State.told_of_not_posted_again (c := .evict q) once) q
  rw [State.settle_has_evict (State.accepted_itemsOnly stays).calm, absent, Bool.false_or, Bool.and_eq_true, Lease.marked_iff]
  simp only [State.settle_frame]

/-- After an own THAW a THAW item stands where the node is in step and the thaw mark, which a THAW that set frozen to no takes, stands. -/
theorem State.accepted_thaw {s : State} :
    (s.table.frozen = true → (s.accepted .thaw).settle.bus.has .thaw = false)
      ∧ ((∀ i, s.bus.item? .thaw = some i → i.postedAgain = false) → s.table.frozen = false →
        ((s.accepted .thaw).settle.bus.has .thaw = true ↔ s.member.participation.inStep = true ∧ s.freeze.thawMark = true)) := by
  obtain ⟨address, -, table, member, -, -⟩ := s.told_frame .thaw
  obtain ⟨same_member, taken, untouched⟩ := State.applyFrame_thaw (s.told_itemsOnly .thaw).calm
  have stays : s.member.participation = .leaving → Change.thaw ≠ .leave := fun _ => nofun
  have calm := (State.accepted_itemsOnly stays).calm
  rw [State.settle_has_thaw calm, State.accepted_of_not_cap (c := .thaw) nofun, ← address]
  refine ⟨fun frozen => ?_, fun once thawed => ?_⟩
  · obtain ⟨mark, absent⟩ := taken (by rw [table]; exact frozen)
    rw [mark, absent, Bool.and_false, Bool.or_false]
  · obtain ⟨freeze, bus⟩ := untouched (by rw [table]; exact thawed)
    have mark : (s.told .thaw).freeze.thawMark = s.freeze.thawMark := by simp [State.told, State.toldAccepted]
    have absent : (s.told .thaw).bus.has .thaw = false := State.told_of_not_posted_again (c := .thaw) once
    rw [freeze, bus, same_member, member, mark, absent, Bool.false_or, Bool.and_eq_true]

/-- After an own CAP the request is the held setting where it asks for another cap, and a CAP item stands for it in ACTIVE. -/
theorem State.accepted_cap {s : State} {v : Word16} {t : State} (ht : t = (s.accepted (.cap v)).settle) : t.cap.held = none
    ∧ (s.cap.held = none → t.cap.request = none ∧ t.bus.has .cap = false)
    ∧ (∀ w, s.cap.held = some w → s.member.participation.inStep = true →
        (w = v → t.cap.request = none ∧ t.bus.has .cap = false)
        ∧ (w ≠ v → t.cap.request = some w ∧ t.bus.has .cap = (s.member.participation == .active))) := by
  obtain ⟨address, -, -, member, cap, -⟩ := s.told_frame (.cap v)
  obtain ⟨same_member, request, absent⟩ := State.applyFrame_cap (s.told_itemsOnly (.cap v)).calm v
  obtain ⟨applied, table, -⟩ := State.applied_own (s := s) (c := .cap v) fun _ => nofun
  rw [address] at same_member request absent
  have in_force : ((s.told (.cap v)).applyFrame s.address (.cap v)).table.cap = v := by rw [table]; rfl
  have taken := State.cap_accepted applied.calm absent (by rw [request]) (t := t) (by rw [ht]; rfl)
  rw [request, in_force, same_member, member, cap] at taken
  exact taken

theorem State.accepted_join {s : State} (joining : s.member.participation = .joining) :
    (s.accepted .join).settle.member = { s.member with participation := .active }
      ∧ (s.accepted .join).settle.port = (((s.table.events s.address .join).foldl (fun u e => u.postAt (s.table.commit + 1) e.1 e.2)
          s).postAt (s.table.commit + 1) .phase 3).port := by
  obtain ⟨address, -, table, member, -, port⟩ := s.told_frame .join
  obtain ⟨active, phase⟩ := State.applyFrame_join (s := s.told .join) (by rw [member]; exact joining)
  have noted := (s.told .join).noted_port port s.address .join
  rw [address] at active phase
  rw [table] at phase noted
  simp only [State.settle_frame]
  rw [State.accepted_of_not_cap (c := .join) nofun, active, phase, member]
  exact ⟨rfl, State.postAt_port_congr noted _ _ _⟩

theorem State.accepted_leave {s : State} (leaving : s.member.participation = .leaving) {t : State} (ht : t = (s.accepted .leave).settle) :
    t.member = .cleared .detached ∧ t.table = .empty ∧ t.bus = .stopped
      ∧ t.port = (((s.table.events s.address .leave).foldl (fun u e => u.postAt (s.table.commit + 1) e.1 e.2) s).postAt 0
          .phase 5).port := by
  obtain ⟨address, -, table, member, -, port⟩ := s.told_frame .leave
  obtain ⟨b, v, left, v_port⟩ := State.applyFrame_leave (s := s.told .leave) (by rw [member]; exact leaving)
  have noted := (s.told .leave).noted_port port s.address .leave
  rw [address] at left v_port
  rw [table] at noted
  have accepted : s.accepted .leave = v.enterDetached.setBlocked b := by rw [State.accepted_of_not_cap (c := .leave) nofun, left]
  have parked : (v.enterDetached.setBlocked b).member.participation.inStep = false := by simp; rfl
  rw [accepted] at ht
  subst ht
  refine ⟨by simp, by simp, (State.settle_of_not_inStep parked).1.trans (by simp), ?_⟩
  simp only [State.settle_frame]
  exact (State.enterDetached_port v).trans (State.postAt_port_congr (v_port.trans noted) _ _ _)

/-- Settles O33: the accepted frame by its kind's hand-offs, and the end of the handling, which leaves an item that stands. -/
theorem senderAppliesAcceptedFrame : Obligations.SenderAppliesAcceptedFrame := by
  unfold Obligations.SenderAppliesAcceptedFrame
  refine ⟨fun s b b' c c' slots running line kind outcome stays => ?stays, fun s b b' slots running line leaving outcome => ?leaves⟩
  case stays =>
    obtain ⟨table, gap, failures, quiet, fairGap, settings, address⟩ := State.accepted_frame stays
    refine ⟨_, exec_accepted running line kind outcome b', table, gap, failures, quiet, fairGap, settings, address,
      fun kinds i item again allowed => ?again, fun once => ⟨State.accepted_gone stays once, ?claim, ?evict, ?thaw⟩, ?thawed,
      ?cap, ?join⟩
    case again =>
      have item := (State.accepted_item? stays kinds).trans (State.told_of_posted_again item again allowed)
      rw [State.settle_item?_of_has (State.accepted_itemsOnly stays).calm (by rw [Bus.has_eq_isSome, item]; rfl), item]
    case claim =>
      rintro k u tag rfl
      exact State.accepted_claim once
    case evict =>
      rintro q rfl
      exact State.accepted_evict once
    case thaw =>
      rintro rfl
      exact State.accepted_thaw.2 once
    case thawed =>
      rintro rfl
      exact State.accepted_thaw.1
    case cap =>
      rintro v rfl
      exact State.accepted_cap rfl
    case join =>
      rintro rfl joining
      exact State.accepted_join joining
  case leaves => exact ⟨_, exec_accepted running line (c' := .leave) rfl outcome b', State.accepted_leave leaving rfl⟩

end Sys2Proof.Machine
end

section
/-! SUPPORT. Transmit failures (R38, R39): the latch undone, the failure counted, and the bus fault. -/

namespace Sys2Proof.Machine

/-! ## The count (R39) -/

theorem State.countFailure_of_below {s : State} (h : s.bus.failures + 1 < 16) (k : FrameKind) :
    s.countFailure k = { s with bus := { s.bus with failures := s.bus.failures + 1 } } := if_pos h

/-- The sixteenth failure: BUS_FAULT with the kind code, then DETACHED; the end of the handling adds nothing. -/
theorem State.countFailure_of_limit {s u : State} (h : u.bus.failures + 1 = 16) (port : u.port = s.port) (table : u.table = s.table)
    (k : FrameKind) : (u.countFailure k).settle = u.countFailure k ∧ (u.countFailure k).member = .cleared .detached
      ∧ (u.countFailure k).bus = .stopped ∧ (u.countFailure k).table = .empty
      ∧ (u.countFailure k).port = ((s.post .busFault (argOf k.code.val)).postAt 0 .phase 5).port := by
  have reached : ∃ v : State, u.countFailure k = (v.post .busFault (argOf k.code.val)).enterDetached ∧ v.port = u.port
      ∧ v.table = u.table :=
    ⟨{ u with bus := { u.bus with items := [], codes := [], failures := u.bus.failures + 1 } },
      if_neg (by rw [h]; decide), rfl, rfl⟩
  obtain ⟨v, e, v_port, v_table⟩ := reached
  rw [e]
  refine ⟨State.enterDetached_settle _, State.enterDetached_member _, State.enterDetached_bus _, State.enterDetached_table _, ?_⟩
  rw [State.enterDetached_port]
  exact State.postAt_port_congr (State.post_port_congr (v_port.trans port) (by rw [v_table, table]) _ _) _ _ _

/-! ## The latch undone (R38) -/

theorem State.keepItem_attempts (s : State) (k : FrameKind) : (s.keepItem k (s.bus.attempts k)).bus.attempts k = s.bus.attempts k := by
  cases item : s.bus.item? k with
  | none =>
    change (s.bus.modify k fun i => { i with attempts := s.bus.attempts k, postedAgain := false }).attempts k = _
    rw [Bus.attempts, Bus.item?_modify (f := fun i => { i with attempts := s.bus.attempts k, postedAgain := false }) _ _ _ fun _ => rfl]
    simp [Bus.attempts, item]
  | some i => rw [Bus.attempts, State.keepItem_item? (by rw [Bus.has_eq_isSome, item]; rfl)]; rfl

theorem State.keepItem_has (s : State) (k : FrameKind) (n : Nat) : (s.keepItem k n).bus.has k = s.bus.has k :=
  Bus.has_modify _ _ _ (fun i => { i with attempts := n, postedAgain := false }) fun _ => rfl

/-- The state of a node that integrates, the item of its frame unlatched with its attempt count. -/
def State.unlatched (s : State) (k : FrameKind) : State := (s.setLine .integrating).keepItem k (s.bus.attempts k)

theorem State.unlatched_itemsOnly (s : State) (k : FrameKind) : (s.setLine .integrating).itemsOnly [k] (s.unlatched k) :=
  (State.itemsOnly.refl (s.bus.calm_integrating) _).keepItem (by simp) _

theorem State.unlatched_item (s : State) (k : FrameKind) :
    (s.unlatched k).bus.attempts k = s.bus.attempts k ∧ (s.unlatched k).bus.has k = s.bus.has k :=
  ⟨State.keepItem_attempts (s.setLine .integrating) k, State.keepItem_has (s.setLine .integrating) k _⟩

theorem State.undoLatch_itemsOnly {s u : State} (h : s.itemsOnly FrameKind.all u) (body : FrameBody) :
    s.itemsOnly FrameKind.all (u.undoLatch body) := by
  unfold State.undoLatch
  split
  · split
    · split
      · exact (h.elsewhere (by rfl)).dropItem (FrameKind.mem_all _)
      · exact h.elsewhere (by rfl)
    · exact h
  · exact h.takeHeldCap (FrameKind.mem_all _)
  · exact h.elsewhere (by simp)
  · exact h.elsewhere (by rfl)
  all_goals exact h

/-- The state after the latch is undone, before the failure is counted. -/
def State.undone (s : State) (body : FrameBody) : State := (s.unlatched body.kind).undoLatch body

theorem State.undone_itemsOnly (s : State) (body : FrameBody) : (s.setLine .integrating).itemsOnly FrameKind.all (s.undone body) :=
  State.undoLatch_itemsOnly ((s.unlatched_itemsOnly body.kind).mono fun k _ => FrameKind.mem_all k) body

theorem State.undone_frame (s : State) (body : FrameBody) : (s.undone body).table = s.table ∧ (s.undone body).port = s.port
    ∧ (s.undone body).member.participation = s.member.participation := by
  refine ⟨by simp [State.undone, State.unlatched], by simp [State.undone, State.unlatched], ?_⟩
  exact ((s.unlatched body.kind).undoLatch_sameSeeking body).1

theorem exec_transmitFailure {s : State} (running : s.power.running = true) : exec .transmitFailure s = .next s.failTransmit := by
  change execTransmitFailure s = _
  rw [execTransmitFailure, State.whenRunning_of_running running]

theorem State.failTransmit_of_sending {s : State} {body : FrameBody} (line : s.bus.line = .sending body) :
    s.failTransmit = ((s.undone body).countFailure body.kind).settle := by
  unfold State.failTransmit
  rw [line]
  rfl

theorem State.failTransmit_of_contending {s : State} {k : FrameKind} (line : s.bus.line = .contending k) :
    s.failTransmit = (((s.setLine .integrating).contentionOver k).countFailure k).settle := by
  unfold State.failTransmit
  rw [line]

/-- A failure counted below the limit, and the end of the handling. -/
def State.failed (u : State) : State := { u with bus := { u.bus with failures := u.bus.failures + 1 } }

@[simp] theorem State.failed_frame (u : State) : u.failed.table = u.table ∧ u.failed.member = u.member ∧ u.failed.cap = u.cap
    ∧ u.failed.port = u.port := ⟨rfl, rfl, rfl, rfl⟩

theorem State.failed_itemsOnly {s u : State} {ks : List FrameKind} (h : s.itemsOnly ks u) : s.failed.itemsOnly ks u.failed where
  calm := h.calm.congr rfl
  rest := by
    change { u.bus with failures := u.bus.failures + 1 } = _
    rw [h.rest]
    rfl
  others := h.others

theorem State.unlatched_frame (s : State) (k : FrameKind) : (s.unlatched k).demand = s.demand ∧ (s.unlatched k).cap = s.cap
    ∧ (s.unlatched k).loads = s.loads ∧ (s.unlatched k).table = s.table ∧ (s.unlatched k).member = s.member := by
  simp [State.unlatched]

/-- What undoing the latch leaves of send list and cap request, but for a CLAIM with its slot and a CAP with a held setting. -/
theorem State.undone_plain {s : State} {body : FrameBody} (plain : (body.kind ≠ .claim ∧ body.kind ≠ .cap)
    ∨ (body.kind = .claim ∧ s.demand.slot = none) ∨ (body.kind = .cap ∧ s.cap.held = none)) :
    (s.undone body).bus = (s.unlatched body.kind).bus ∧ (s.undone body).cap = s.cap := by
  obtain ⟨demand, cap, -⟩ := s.unlatched_frame body.kind
  rw [← cap]
  unfold State.undone
  cases body with
  | change b c =>
    cases c with
    | claim k u tag =>
      have empty : (s.unlatched .claim).demand.slot = none := by
        rw [show (s.unlatched .claim).demand = s.demand from demand]
        simpa [FrameBody.kind, Change.kind] using plain
      have undone : (s.unlatched .claim).undoLatch (.change b (.claim k u tag)) = s.unlatched .claim := by
        simp [State.undoLatch, empty]
      exact ⟨congrArg State.bus undone, congrArg State.cap undone⟩
    | cap v =>
      have none_held : (s.unlatched .cap).cap.held = none := by
        rw [show (s.unlatched .cap).cap = s.cap from cap]
        simpa [FrameBody.kind, Change.kind] using plain
      have undone : (s.unlatched .cap).undoLatch (.change b (.cap v)) = s.unlatched .cap := State.takeHeldCap_of_none none_held
      exact ⟨congrArg State.bus undone, congrArg State.cap undone⟩
    | release _ | evict _ | freeze _ | leave | thaw | join => exact ⟨rfl, rfl⟩
  | image seg => cases seg <;> exact ⟨rfl, rfl⟩
  | alive | seek | group _ => exact ⟨rfl, rfl⟩

/-- The latch of a CLAIM undone (R113): the slot keeps its claim unlatched, but an orphaned one is emptied with its item. -/
theorem State.undone_claim {s : State} {b : Base} {k : ClassIx} {u : Byte} {tag : LoadIx} {c : ClaimSlot}
    (slot : s.demand.slot = some c) : s.undone (.change b (.claim k u tag)) =
      if c.orphaned then ((s.unlatched .claim).setSlot none).dropItem .claim
      else (s.unlatched .claim).setSlot (some { c with latched := false }) := by
  change (match (s.unlatched .claim).demand.slot with
    | some c => if c.orphaned then ((s.unlatched .claim).setSlot none).dropItem .claim
        else (s.unlatched .claim).setSlot (some { c with latched := false })
    | none => s.unlatched .claim) = _
  rw [(s.unlatched_frame .claim).1, slot]

/-! ## A failure below the limit -/

section
variable {s : State} {body : FrameBody} {t : State} (ht : t = (s.undone body).failed.settle)
include ht

theorem State.failed_leaves : t.bus.line = .integrating ∧ t.bus.failures = s.bus.failures + 1 ∧ t.table = s.table
    ∧ t.member.participation = s.member.participation ∧ t.port = s.port ∧ t.bus.codes = s.bus.codes := by
  obtain ⟨table, port, participation⟩ := s.undone_frame body
  have ended := (State.failed_itemsOnly (s.undone_itemsOnly body)).settle fun k _ => FrameKind.mem_all k
  subst ht
  exact ⟨by rw [ended.line]; rfl, by rw [ended.failures]; rfl, by simpa using table, by simpa using participation, by simpa using port,
    by rw [ended.codes]; rfl⟩

theorem State.failed_plain (plain : (body.kind ≠ .claim ∧ body.kind ≠ .cap) ∨ (body.kind = .claim ∧ s.demand.slot = none)
    ∨ (body.kind = .cap ∧ s.cap.held = none)) : t.bus.attempts body.kind = s.bus.attempts body.kind ∧ t.cap = s.cap := by
  obtain ⟨bus, cap⟩ := State.undone_plain plain
  subst ht
  refine ⟨?_, by simpa using cap⟩
  rw [State.settle_attempts, ← (s.unlatched_item body.kind).1, ← bus]
  rfl

end

/-- A CLAIM's failure with its slot: the slot as before, unlatched; or emptied with its item, and composed anew. -/
theorem State.failed_claim {s : State} {b : Base} {k : ClassIx} {u : Byte} {tag : LoadIx} {c : ClaimSlot} (slot : s.demand.slot = some c)
    {t : State} (ht : t = (s.undone (.change b (.claim k u tag))).failed.settle) :
    (c.orphaned = false → t.demand.slot = some { c with latched := false } ∧ t.loads = s.loads
        ∧ t.bus.has .claim = s.bus.has .claim ∧ t.bus.attempts .claim = s.bus.attempts .claim)
      ∧ (c.orphaned = true → (t.demand.slot = none → t.bus.has .claim = false)
        ∧ ∀ c', t.demand.slot = some c' → c'.latched = false ∧ c'.orphaned = false
            ∧ t.bus.item? .claim = some { kind := .claim, attempts := 0, postedAgain := false }) := by
  have calm := (State.failed_itemsOnly (s.undone_itemsOnly (.change b (.claim k u tag)))).calm
  rw [State.undone_claim slot] at ht calm
  obtain ⟨-, -, loads, -⟩ := s.unlatched_frame .claim
  obtain ⟨attempts, has⟩ := s.unlatched_item .claim
  refine ⟨fun owned => ?_, fun orphaned => ?_⟩
  · rw [if_neg (by simp [owned])] at ht calm
    obtain ⟨d, e⟩ := State.compose_of_slot (s := ((s.unlatched .claim).setSlot (some { c with latched := false })).failed) rfl
    subst ht
    refine ⟨by rw [State.settle_demand, e]; rfl, by rw [State.settle_loads, e]; exact loads, ?_,
      by rw [State.settle_attempts]; exact attempts⟩
    rw [Bus.has_congr (State.settle_claim calm), e]
    exact has
  · rw [if_pos orphaned] at ht calm
    have composed := State.settle_of_no_claim calm (by rfl) (Bus.has_drop_self _ _)
    rw [← ht] at composed
    rcases composed with ⟨empty, gone⟩ | ⟨⟨d, filled, latched, fresh⟩, item⟩
    · exact ⟨fun _ => gone, fun c' hc => absurd (empty.symm.trans hc) nofun⟩
    · refine ⟨fun hc => absurd (filled.symm.trans hc) nofun, fun c' hc => ?_⟩
      obtain rfl := Option.some.inj (filled.symm.trans hc)
      exact ⟨latched, fresh, item⟩

/-- A CAP's failure with a held setting: the setting is taken, and an item that stands keeps its attempt count (R128, R129). -/
theorem State.failed_cap {s : State} {b : Base} {v w : Word16} (held : s.cap.held = some w)
    (in_step : s.member.participation.inStep = true) {t : State} (ht : t = (s.undone (.change b (.cap v))).failed.settle) :
    t.cap.held = none ∧ (w = s.table.cap → t.cap.request = none ∧ t.bus.has .cap = false)
      ∧ (w ≠ s.table.cap → t.cap.request = some w
          ∧ (s.bus.has .cap = true → t.bus.has .cap = true ∧ t.bus.attempts .cap = s.bus.attempts .cap)) := by
  have unlatched_calm := (s.unlatched_itemsOnly .cap).calm
  have calm := (State.failed_itemsOnly (s.undone_itemsOnly (.change b (.cap v)))).calm
  have undone : s.undone (.change b (.cap v)) = (s.unlatched .cap).takeHeldCap := rfl
  obtain ⟨-, cap, -, table, member⟩ := s.unlatched_frame .cap
  obtain ⟨attempts, has⟩ := s.unlatched_item .cap
  have taken := State.takeHeldCap_of_inStep unlatched_calm (by rw [cap]; exact held) (by rw [member]; exact in_step)
  rw [table] at taken
  rw [undone] at ht calm
  have t_cap : t.cap = (s.unlatched .cap).takeHeldCap.cap := by rw [ht]; simp
  have t_item : t.bus.item? .cap = (s.unlatched .cap).takeHeldCap.bus.item? .cap := by
    rw [ht]
    exact State.settle_item?_of_other calm (by decide)
  refine ⟨by rw [t_cap]; exact State.takeHeldCap_held unlatched_calm, fun same => ?_, fun differs => ?_⟩
  · rw [t_cap, Bus.has_congr t_item, taken, if_pos same]
    exact ⟨rfl, Bus.has_drop_self _ _⟩
  · rw [t_cap, Bus.has_congr t_item, Bus.attempts_congr t_item, taken, if_neg differs, State.send_has_iff, State.send_attempts]
    refine ⟨by simp, fun stood => ⟨?_, attempts⟩⟩
    change ((s.unlatched .cap).bus.has .cap || _) = true
    rw [has, stood, Bool.true_or]

theorem State.failed_release {s : State} {b : Base} {a : Vector (BitVec 11) 4} {t : State}
    (ht : t = (s.undone (.change b (.release a))).failed.settle) :
    t.demand.openUnits = addAccounts s.demand.openUnits s.demand.latchedUnits ∧ t.demand.latchedUnits = .replicate 4 0 := by
  have demand : (s.undone (.change b (.release a))).failed.demand = { s.demand with
      openUnits := addAccounts s.demand.openUnits s.demand.latchedUnits, latchedUnits := .replicate 4 0 } := by
    change ((s.unlatched .release).reopenAccount).demand = _
    unfold State.reopenAccount
    rw [(s.unlatched_frame .release).1]
  subst ht
  rw [State.settle_demand, State.compose_demand, demand]
  exact ⟨rfl, rfl⟩

/-! ## A failure inside the arbitration field -/

theorem State.contentionOver_has_of_held {s : State} (held : s.bus.withdrawHeld = true) (none_held : s.cap.held = none)
    (k : FrameKind) : (s.contentionOver k).bus.has k = false := by
  have dropped : (s.takeHeldWithdrawal k).bus.has k = false := by
    rw [State.takeHeldWithdrawal_bus, held]
    exact Bus.has_drop_self _ _
  have no_cap : (s.takeHeldWithdrawal k).cap.held = none := by simpa using none_held
  unfold State.contentionOver
  dsimp only
  split
  · rw [State.takeHeldCap_of_none no_cap, dropped]
  · exact dropped

/-- A failure of a node that contends, below the limit. -/
theorem State.failed_contention {s : State} {k : FrameKind} {t : State}
    (ht : t = ((s.setLine .integrating).contentionOver k).failed.settle) :
    t.bus.line = .integrating ∧ t.bus.failures = s.bus.failures + 1 ∧ t.bus.withdrawHeld = false ∧ t.table = s.table
      ∧ t.member = s.member ∧ t.port = s.port ∧ t.bus.codes = s.bus.codes ∧ t.bus.fairGap = s.bus.fairGap
      ∧ (s.bus.withdrawHeld = false → s.cap.held = none → s.bus.has k = true → t.bus.item? k = s.bus.item? k)
      ∧ (s.bus.withdrawHeld = true → s.cap.held = none → k ∈ [.cap, .release, .alive, .leave, .freeze, .join] →
          t.bus.has k = false) := by
  have calm : (s.setLine .integrating).bus.calm := s.bus.calm_integrating
  have taken := State.failed_itemsOnly (State.contentionOver_itemsOnly calm k)
  have ended := (taken.mono (ks' := [.cap, .claim, .evict, .thaw, .image]) (by decide)).settle (by decide)
  have held : (State.failed ((s.setLine .integrating).takeHeldWithdrawal k)).bus = _ :=
    congrArg (fun b : Bus => { b with failures := b.failures + 1 }) ((s.setLine .integrating).takeHeldWithdrawal_bus k)
  subst ht
  refine ⟨by rw [ended.line, held]; rfl, by rw [ended.failures, held]; rfl, by rw [ended.withdrawHeld, held], by simp,
    by simp, by simp, by rw [ended.codes, held]; rfl, by rw [ended.fairGap, held]; rfl,
    fun not_held no_cap has => ?_, fun held no_cap kinds => ?_⟩
  · rw [State.contentionOver_of_nothing_held (by exact not_held) (by exact no_cap)] at taken ⊢
    exact State.settle_item?_of_has taken.calm (by exact has)
  · have other : k ∉ [FrameKind.claim, .evict, .thaw, .image] := by
      revert kinds
      cases k <;> decide
    rw [Bus.has_congr (State.settle_item?_of_other taken.calm other)]
    exact State.contentionOver_has_of_held (by exact held) (by exact no_cap) k

/-! ## A duplicate address (R30) -/

theorem exec_duplicate {s : State} (running : s.power.running = true) (line : s.bus.line.receives = true) {i : Instr} {k : FrameKind}
    (frame : (∃ b c slots, i = changeFrame s.address b c slots ∧ k = c.kind) ∨ (i = .aliveFrame s.address ∧ k = .alive)
      ∨ (i = .seekFrame s.address ∧ k = .seek) ∨ (∃ seg, i = .imageFrame s.address seg ∧ k = .image)
      ∨ (∃ code, i = .groupFrame s.address code ∧ k = .group)) : exec i s = .next (s.duplicate k) := by
  rcases frame with ⟨b, c, slots, rfl, rfl⟩ | ⟨rfl, rfl⟩ | ⟨rfl, rfl⟩ | ⟨seg, rfl, rfl⟩ | ⟨code, rfl, rfl⟩
  · rw [exec_changeFrame running, State.changeEnd, State.frameEnd_of_duplicate line]
  · change execAliveFrame _ _ = _
    rw [execAliveFrame, State.whenRunning_of_running running, State.frameEnd_of_duplicate line]
  · change execSeekFrame _ _ = _
    rw [execSeekFrame, State.whenRunning_of_running running, State.frameEnd_of_duplicate line]
  · change execImageFrame _ _ _ = _
    rw [execImageFrame, State.whenRunning_of_running running, State.frameEnd_of_duplicate line]
  · change execGroupFrame _ _ _ = _
    rw [execGroupFrame, State.whenRunning_of_running running, State.frameEnd_of_duplicate line]

/-- Settles O24: the latch undone or what was held taken, the failure counted, and the end of the handling. -/
theorem transmitFailureCounts : Obligations.TransmitFailureCounts := by
  unfold Obligations.TransmitFailureCounts
  refine ⟨fun s body running _ line => ?sending, fun s k running _ line => ?contending, fun s i k running line frame => ?duplicate⟩
  case sending =>
    have row := (exec_transmitFailure running).trans (congrArg Host.Outcome.next (State.failTransmit_of_sending line))
    have failures : (s.undone body).bus.failures = s.bus.failures := (s.undone_itemsOnly body).failures
    refine ⟨fun below => ?_, fun limit => ?_⟩
    · rw [State.countFailure_of_below (by rw [failures]; exact below)] at row
      obtain ⟨integrating, count, table, participation, port, codes⟩ := State.failed_leaves (s := s) (body := body) rfl
      refine ⟨_, row, integrating, count, table, participation, port, codes, State.failed_plain rfl, ?_, ?_, ?_⟩
      · rintro b k u tag c rfl slot
        exact State.failed_claim slot rfl
      · rintro b v w rfl held in_step
        exact State.failed_cap held in_step rfl
      · rintro b a rfl
        exact State.failed_release rfl
    · obtain ⟨table, port, -⟩ := s.undone_frame body
      obtain ⟨settled, detached⟩ := State.countFailure_of_limit (by rw [failures]; exact limit) port table body.kind
      exact ⟨_, row.trans (by rw [settled]), detached⟩
  case contending =>
    have row := (exec_transmitFailure running).trans (congrArg Host.Outcome.next (State.failTransmit_of_contending line))
    have calm : (s.setLine .integrating).bus.calm := s.bus.calm_integrating
    have failures : ((s.setLine .integrating).contentionOver k).bus.failures = s.bus.failures := by
      rw [(State.contentionOver_itemsOnly calm k).failures, State.takeHeldWithdrawal_bus]
      rfl
    refine ⟨fun below => ?_, fun limit => ?_⟩
    · rw [State.countFailure_of_below (by rw [failures]; exact below)] at row
      exact ⟨_, row, State.failed_contention rfl⟩
    · obtain ⟨settled, detached⟩ := State.countFailure_of_limit (s := s) (by rw [failures]; exact limit) (by simp) (by simp) k
      exact ⟨_, row.trans (by rw [settled]), detached⟩
  case duplicate =>
    have receives : s.bus.line.receives = true := by rcases line with e | e | ⟨d, e⟩ <;> rw [e] <;> rfl
    have row := exec_duplicate running receives frame
    refine ⟨fun below => row.trans (congrArg Host.Outcome.next (State.countFailure_of_below (by exact below) k)), fun limit => ?_⟩
    obtain ⟨-, detached⟩ := State.countFailure_of_limit (s := s) (u := s.setLine .gap) (by exact limit) rfl rfl k
    exact ⟨_, row, detached⟩

end Sys2Proof.Machine
end
section
/-! SUPPORT. START, DETACH and REJOIN (R48, R67, R69, R70, R92, R126). -/

namespace Sys2Proof.Machine

/-! ## The commands -/

theorem State.command_of_running {s : State} (running : s.power.running = true) (code arg : Byte) (f : State → State) :
    s.command code arg f = .next (f (s.storeCommand code arg)) := by
  rw [State.command, State.whenRunning_of_running running]

theorem exec_start {s : State} (running : s.power.running = true) (arg : Byte) :
    exec (.start arg) s = .next (s.storeCommand 0x01 arg).startCommand := State.command_of_running running ..

theorem exec_detach {s : State} (running : s.power.running = true) (arg : Byte) :
    exec (.detach arg) s = .next (s.storeCommand 0x0B arg).detachCommand := State.command_of_running running ..

theorem exec_rejoin {s : State} (running : s.power.running = true) (arg : Byte) :
    exec (.rejoin arg) s = .next (s.storeCommand 0x0C arg).rejoinCommand := State.command_of_running running ..

/-! ## The asserted PIN loads wanted at START (R92) -/

/-- A PIN load whose debounced REQx is asserted. -/
def State.asserts (s : State) (x : LoadIx) : Bool := (s.cfg x).source == .pin && s.loads.req[x].level

theorem State.asserts_iff (s : State) (x : LoadIx) :
    s.asserts x = true ↔ (s.cfg x).source = .pin ∧ s.loads.req[x].level = true := by simp [State.asserts]

theorem State.asserts_congr {s u : State} (settings : u.settings = s.settings) (req : u.loads.req = s.loads.req) :
    u.asserts = s.asserts := by
  funext x
  rw [State.asserts, State.asserts, State.cfg, State.cfg, settings, req]

theorem State.enterQueue_req (s : State) (x : LoadIx) : (s.enterQueue x).loads.req = s.loads.req := by
  unfold State.enterQueue
  split <;> rfl

theorem State.wishFull_req (s : State) (x : LoadIx) : (s.wishFull x).loads.req = s.loads.req := by
  unfold State.wishFull State.raiseFromKeep
  (repeat' split) <;> rfl

theorem State.wantLoad_req (s : State) (x : LoadIx) : (s.wantLoad x).loads.req = s.loads.req := by
  unfold State.wantLoad
  dsimp only
  split
  · exact s.wishFull_req x
  · exact (State.enterQueue_req _ x).trans (s.wishFull_req x)

/-- Making the asserted PIN loads of a list wanted reads the pins and the settings once. -/
theorem foldl_wantAsserted : ∀ (l : List LoadIx) (s : State),
    l.foldl State.wantAsserted s = (l.filter s.asserts).foldl State.wantLoad s
  | [], _ => rfl
  | x :: l, s => by
    rw [List.foldl_cons, foldl_wantAsserted l, List.filter_cons]
    by_cases asserted : s.asserts x = true
    · have wanted : s.wantAsserted x = s.wantLoad x := if_pos ((s.asserts_iff x).mp asserted)
      rw [if_pos asserted, List.foldl_cons, wanted, State.asserts_congr (by simp) (s.wantLoad_req x)]
    · have same : s.wantAsserted x = s := if_neg fun h => asserted ((s.asserts_iff x).mpr h)
      rw [if_neg asserted, same]

theorem State.raiseFromKeep_load_of_ne (s : State) {x y : LoadIx} (h : x ≠ y) : (s.raiseFromKeep x).load y = s.load y := by
  unfold State.raiseFromKeep
  split
  · rw [State.enqueue_load, State.setLoadState_load, if_neg h]
  · rfl

theorem State.wishFull_load_of_ne (s : State) {x y : LoadIx} (h : x ≠ y) : (s.wishFull x).load y = s.load y := by
  unfold State.wishFull
  split
  · rfl
  · rw [State.raiseFromKeep_load_of_ne _ h, State.load_setLoad_of_ne _ _ h]

theorem State.wantLoad_load_of_ne (s : State) {x y : LoadIx} (h : x ≠ y) : (s.wantLoad x).load y = s.load y := by
  unfold State.wantLoad
  dsimp only
  split
  · exact s.wishFull_load_of_ne h
  · rw [State.enterQueue_load_of_ne _ h, State.load_setLoad_of_ne _ _ h, s.wishFull_load_of_ne h]

theorem State.wishFull_wish (s : State) (x : LoadIx) : ((s.wishFull x).load x).wish = .full := by
  unfold State.wishFull State.raiseFromKeep
  split
  next full => exact full
  next =>
    split
    · rw [State.enqueue_load, State.setLoadState_load, State.load_setLoad_self]
    · rw [State.load_setLoad_self]

/-- A load made wanted has the wish FULL (R92, R93). -/
theorem State.wantLoad_load_self (s : State) (x : LoadIx) :
    ((s.wantLoad x).load x).wanted = true ∧ ((s.wantLoad x).load x).wish = .full := by
  unfold State.wantLoad
  dsimp only
  split
  next wanted => exact ⟨wanted, s.wishFull_wish x⟩
  next =>
    rcases State.enterQueue_load ((s.wishFull x).setLoad x { (s.wishFull x).load x with wanted := true }) x x with e | e <;>
      rw [e, State.load_setLoad_self] <;> exact ⟨rfl, s.wishFull_wish x⟩

/-- The loads of a node that starts: the asserted PIN loads wanted at the level FULL, the others as they were. -/
theorem foldl_wantAsserted_load (s : State) (x : LoadIx) :
    if s.asserts x = true
    then ((allLoads.foldl State.wantAsserted s).load x).wanted = true ∧ ((allLoads.foldl State.wantAsserted s).load x).wish = .full
    else (allLoads.foldl State.wantAsserted s).load x = s.load x := by
  have all := foldl_load (f := State.wantLoad) (Q := fun _ r => r.wanted = true ∧ r.wish = .full) State.wantLoad_load_self
    (fun s _ _ h => s.wantLoad_load_of_ne h) (allLoads.filter s.asserts) s x ((List.nodup_finRange 8).filter _)
  rw [← foldl_wantAsserted] at all
  simpa [allLoads] using all

/-- Making loads wanted is a matter of the loads and of the demand queue. -/
theorem foldl_wantAsserted_frame (l : List LoadIx) (s : State) :
    (l.foldl State.wantAsserted s).power = s.power ∧ (l.foldl State.wantAsserted s).pins = s.pins
      ∧ (l.foldl State.wantAsserted s).address = s.address ∧ (l.foldl State.wantAsserted s).settings = s.settings
      ∧ (l.foldl State.wantAsserted s).table = s.table ∧ (l.foldl State.wantAsserted s).bus = s.bus
      ∧ (l.foldl State.wantAsserted s).member = s.member ∧ (l.foldl State.wantAsserted s).lease = s.lease
      ∧ (l.foldl State.wantAsserted s).cap = s.cap ∧ (l.foldl State.wantAsserted s).freeze = s.freeze
      ∧ (l.foldl State.wantAsserted s).group = s.group ∧ (l.foldl State.wantAsserted s).port = s.port := by
  rw [foldl_wantAsserted]
  exact ⟨foldl_keeps _ State.power (fun u x => by simp) _ _, foldl_keeps _ State.pins (fun u x => by simp) _ _,
    foldl_keeps _ State.address (fun u x => by simp) _ _, foldl_keeps _ State.settings (fun u x => by simp) _ _,
    foldl_keeps _ State.table (fun u x => by simp) _ _, foldl_keeps _ State.bus (fun u x => by simp) _ _,
    foldl_keeps _ State.member (fun u x => by simp) _ _, foldl_keeps _ State.lease (fun u x => by simp) _ _,
    foldl_keeps _ State.cap (fun u x => by simp) _ _, foldl_keeps _ State.freeze (fun u x => by simp) _ _,
    foldl_keeps _ State.group (fun u x => by simp) _ _, foldl_keeps _ State.port (fun u x => by simp) _ _⟩

/-! ## START and REJOIN (R48, R70) -/

/-- A node that starts or rejoins: it integrates, with the lease setting in force, in SEEKING with a SEEK item (R48, R72, R75). -/
def State.beginsSeeking (s : State) : State :=
  { (s.setLine .integrating).startLease with member := .cleared .seeking }.sendSeek

theorem State.beginsSeeking_member (s : State) : s.beginsSeeking.member = .cleared .seeking := State.sendSeek_member _

theorem State.beginsSeeking_bus (s : State) : s.beginsSeeking.bus.line = .integrating ∧ s.beginsSeeking.bus.has .seek = true := by
  refine ⟨?_, State.send_has _ _ rfl⟩
  unfold State.beginsSeeking State.sendSeek
  rw [State.send_eq]
  rfl

theorem State.beginsSeeking_lease (s : State) : s.beginsSeeking.lease = { Lease.stopped s.settings.lease with quiet := some 0 } := by
  simp [State.beginsSeeking, State.startLease]

@[simp] theorem State.beginsSeeking_frame (s : State) : s.beginsSeeking.power = s.power ∧ s.beginsSeeking.pins = s.pins
    ∧ s.beginsSeeking.address = s.address ∧ s.beginsSeeking.settings = s.settings ∧ s.beginsSeeking.table = s.table
    ∧ s.beginsSeeking.loads = s.loads ∧ s.beginsSeeking.demand = s.demand ∧ s.beginsSeeking.cap = s.cap
    ∧ s.beginsSeeking.freeze = s.freeze ∧ s.beginsSeeking.group = s.group ∧ s.beginsSeeking.port = s.port := by
  simp [State.beginsSeeking]

theorem State.askLimit_request (s : State) : s.askLimit.cap.request =
    if s.cap.limit.level = true ∧ s.cap.request = none then some s.settings.limitCap else s.cap.request := by
  unfold State.askLimit
  cases level : s.cap.limit.level <;> cases request : s.cap.request <;> simp [request]

/-- A posting offers a record and leaves the result of the command. -/
theorem State.postAt_result (s : State) (w : Word16) (c : EventCode) (a : Byte) : (s.postAt w c a).port.result = s.port.result
    ∧ (s.postAt w c a).port.badIndex = s.port.badIndex := by
  rw [State.postAt_port]
  unfold Port.offer
  (repeat' split) <;> exact ⟨rfl, rfl⟩

theorem State.postPhase_result (s : State) : s.postPhase.port.result = s.port.result
    ∧ s.postPhase.port.badIndex = s.port.badIndex := s.postAt_result ..

/-! ### The node that starts -/

theorem State.startNode_eq (s : State) : s.startNode = (allLoads.foldl State.wantAsserted s.beginsSeeking).askLimit.postPhase := rfl

theorem State.startNode_frame (s : State) : s.startNode.table = s.table ∧ s.startNode.settings = s.settings
    ∧ s.startNode.address = s.address ∧ s.startNode.freeze = s.freeze ∧ s.startNode.group = s.group
    ∧ s.startNode.pins = s.pins ∧ s.startNode.power = s.power := by
  simp [State.startNode_eq, foldl_wantAsserted_frame]

theorem State.startNode_member (s : State) : s.startNode.member = .cleared .seeking := by
  simp [State.startNode_eq, foldl_wantAsserted_frame, State.beginsSeeking_member]

theorem State.startNode_bus (s : State) : s.startNode.bus.line = .integrating ∧ s.startNode.bus.has .seek = true := by
  simp [State.startNode_eq, foldl_wantAsserted_frame, State.beginsSeeking_bus]

theorem State.startNode_lease (s : State) : s.startNode.lease = { Lease.stopped s.settings.lease with quiet := some 0 } := by
  simp [State.startNode_eq, foldl_wantAsserted_frame, State.beginsSeeking_lease]

theorem State.startNode_request (s : State) : s.startNode.cap.request =
    if s.cap.limit.level = true ∧ s.cap.request = none then some s.settings.limitCap else s.cap.request := by
  simp [State.startNode_eq, foldl_wantAsserted_frame, State.askLimit_request]

theorem State.startNode_result (s : State) : s.startNode.port.result = s.port.result
    ∧ s.startNode.port.badIndex = s.port.badIndex := by
  simp [State.startNode_eq, foldl_wantAsserted_frame, State.postPhase_result]

/-- The asserted PIN loads are wanted at the level FULL, and the others are as they were (R92). -/
theorem State.startNode_load (s : State) (x : LoadIx) :
    if (s.cfg x).source = .pin ∧ s.loads.req[x].level = true
    then (s.startNode.load x).wanted = true ∧ (s.startNode.load x).wish = .full
    else s.startNode.load x = s.load x := by
  have loads : s.startNode.loads = (allLoads.foldl State.wantAsserted s.beginsSeeking).loads := by simp [State.startNode_eq]
  have all := foldl_wantAsserted_load s.beginsSeeking x
  simpa only [State.asserts_iff, State.cfg, State.load, State.beginsSeeking_frame, loads] using all

/-- Settles O9: START's checks, and the node that starts part by part. -/
theorem startSeeks : Obligations.StartSeeks := by
  unfold Obligations.StartSeeks
  refine fun s arg running => ⟨fun setup valid => ?seeks, fun setup i failing => ?failing, fun started => ?refused⟩
  all_goals have row := exec_start running arg
  case seeks =>
    let u := (s.storeCommand 0x01 arg).setResult .done
    have start : (s.storeCommand 0x01 arg).startCommand = u.startNode := by
      rw [State.startCommand, if_pos (by exact setup), show (s.storeCommand 0x01 arg).settings.firstBad = none from valid]
    obtain ⟨line, seek⟩ := u.startNode_bus
    obtain ⟨result, badIndex⟩ := u.startNode_result
    refine ⟨_, row.trans (by rw [start]), result, badIndex, u.startNode_member, line, seek, u.startNode_lease, u.startNode_request,
      fun x pin level => ?wanted, fun x idle => ?idle, u.startNode_frame⟩
    case wanted => exact (if_pos ⟨pin, level⟩).mp (u.startNode_load x)
    case idle =>
      have silent : ¬((u.cfg x).source = .pin ∧ u.loads.req[x].level = true) := fun ⟨pin, level⟩ =>
        idle.elim (fun soft => Source.noConfusion (pin.symm.trans soft)) fun released => Bool.noConfusion (level.symm.trans released)
      exact (if_neg silent).mp (u.startNode_load x)
  case failing =>
    rw [row, State.startCommand, if_pos (by exact setup), show (s.storeCommand 0x01 arg).settings.firstBad = some i from failing]
    rfl
  case refused =>
    rw [row, State.startCommand, if_neg (by exact started)]
    rfl

/-! ## DETACH (Table 3.6) -/

theorem State.enterDetached_load (s : State) (x : LoadIx) : s.enterDetached.load x = s.disconnectAll.load x := by
  simp [State.enterDetached, State.load]

theorem State.enterDetached_result (s : State) : s.enterDetached.port.result = s.port.result := by
  rw [State.enterDetached_port]
  exact (s.postAt_result ..).1

/-- A posting removes no item. -/
theorem State.send_keeps_has {s : State} {k : FrameKind} (h : s.bus.has k = true) (j : FrameKind) : (s.send j).bus.has k = true := by
  by_cases same : k = j
  · rw [same, State.send_has_iff, ← same, h]
    rfl
  · rw [State.send_has_of_ne _ same, h]

/-- The end of a handling removes no item. -/
theorem State.settle_keeps_has {s : State} {k : FrameKind} (h : s.bus.has k = true) : s.settle.bus.has k = true :=
  State.settle_keeps_bus (P := fun b => b.has k = true) (fun _ j hu => State.send_keeps_has hu j) h

/-- Outside ACTIVE composition changes no load. -/
theorem State.settle_loads_of_not_active {s : State} (h : s.member.participation ≠ .active) : s.settle.loads = s.loads := by
  obtain ⟨b, composed⟩ := State.compose_of_not_active h
  rw [State.settle_loads, composed]
  simp

/-! ### Entry to LEAVING (R67) -/

/-- The claim in the slot ended, and the account with the units that the loads occupied: what entry to LEAVING begins with. -/
def State.accountedForLeaving (s : State) : State :=
  match s.accountOccupied.demand.slot with
  | some c => s.accountOccupied.endClaim c.load
  | none => s.accountOccupied

theorem State.accountedForLeaving_frame (s : State) : s.accountedForLeaving.table = s.table ∧ s.accountedForLeaving.member = s.member
    ∧ s.accountedForLeaving.settings = s.settings ∧ s.accountedForLeaving.address = s.address ∧ s.accountedForLeaving.lease = s.lease
    ∧ s.accountedForLeaving.freeze = s.freeze ∧ s.accountedForLeaving.loads = s.loads ∧ s.accountedForLeaving.port = s.port := by
  unfold State.accountedForLeaving
  split <;> simp

/-- The end of a claim leaves the release account. -/
theorem State.endClaim_account (s : State) (x : LoadIx) : (s.endClaim x).demand.openUnits = s.demand.openUnits
    ∧ (s.endClaim x).demand.latchedUnits = s.demand.latchedUnits := by
  unfold State.endClaim
  (repeat' split) <;> simp

theorem State.accountedForLeaving_account (s : State) :
    (∀ k : ClassIx, s.accountedForLeaving.demand.openUnits[k] = s.demand.openUnits[k] + s.occupiedIn k)
      ∧ s.accountedForLeaving.demand.latchedUnits = s.demand.latchedUnits := by
  have accounted (k : ClassIx) : s.accountOccupied.demand.openUnits[k] = s.demand.openUnits[k] + s.occupiedIn k := by
    fin_cases k <;> rfl
  unfold State.accountedForLeaving
  split
  next c _ =>
    obtain ⟨openUnits, latchedUnits⟩ := s.accountOccupied.endClaim_account c.load
    exact ⟨fun k => by rw [openUnits, accounted], latchedUnits⟩
  next => exact ⟨accounted, rfl⟩

theorem State.enterLeaving_eq (s : State) : s.enterLeaving =
    ((s.accountedForLeaving.disconnectAll.setParticipation .leaving).send .leave).postPhase := rfl

theorem State.enterLeaving_frame (s : State) : s.enterLeaving.settle.settings = s.settings ∧ s.enterLeaving.settle.address = s.address
    ∧ s.enterLeaving.settle.lease = s.lease ∧ s.enterLeaving.settle.freeze = s.freeze := by
  simp [State.enterLeaving_eq, State.accountedForLeaving_frame]

theorem State.enterLeaving_table (s : State) : s.enterLeaving.settle.table = s.table := by
  simp [State.enterLeaving_eq, State.accountedForLeaving_frame]

theorem State.enterLeaving_member (s : State) : s.enterLeaving.member = { s.member with participation := .leaving } := by
  simp [State.enterLeaving_eq, State.accountedForLeaving_frame]

theorem State.enterLeaving_result (s : State) : s.enterLeaving.port.result = s.port.result := by
  simp [State.enterLeaving_eq, State.postPhase_result, State.accountedForLeaving_frame]

theorem State.enterLeaving_has_leave (s : State) : s.enterLeaving.bus.has .leave = true := by
  simp [State.enterLeaving_eq, State.send_has, Participation.allows]

theorem State.enterLeaving_load (s : State) (x : LoadIx) :
    (s.enterLeaving.load x).state.energized = false ∧ (s.enterLeaving.load x).wanted = (s.load x).wanted := by
  have off := s.accountedForLeaving.disconnectAll_load x
  simpa [State.enterLeaving_eq, State.load, State.accountedForLeaving_frame] using off

/-- Loads disconnected leave slot and account as they are. -/
theorem State.disconnectLoad_demand (s : State) (x : LoadIx) :
    (s.disconnectLoad x).demand = { s.demand with queue := (s.disconnectLoad x).demand.queue } := by
  unfold State.disconnectLoad State.enterQueue
  (repeat' split) <;> rfl

theorem foldl_disconnectLoad_demand : ∀ (l : List LoadIx) (s : State), (l.foldl State.disconnectLoad s).demand =
    { s.demand with queue := (l.foldl State.disconnectLoad s).demand.queue }
  | [], _ => rfl
  | x :: l, s => by rw [List.foldl_cons, foldl_disconnectLoad_demand l, s.disconnectLoad_demand x]

theorem State.disconnectAll_demand (s : State) : s.disconnectAll.demand = { s.demand with queue := s.disconnectAll.demand.queue } := by
  unfold State.disconnectAll
  exact foldl_disconnectLoad_demand allLoads s

theorem State.enterLeaving_account (s : State) :
    (∀ k : ClassIx, s.enterLeaving.demand.openUnits[k] = s.demand.openUnits[k] + s.occupiedIn k)
      ∧ s.enterLeaving.demand.latchedUnits = s.demand.latchedUnits := by
  have demand : s.enterLeaving.demand = s.accountedForLeaving.disconnectAll.demand := by simp [State.enterLeaving_eq]
  rw [demand, State.disconnectAll_demand]
  exact s.accountedForLeaving_account

/-! ### The command -/

theorem State.detachCommand_of_out {s : State} (out : s.member.participation = .setup ∨ s.member.participation = .detached) :
    s.detachCommand = s.setResult .refused := by
  rcases out with h | h <;> rw [State.detachCommand, h]

theorem State.detachCommand_of_not_in {s : State} (h : s.member.participation = .seeking ∨ s.member.participation = .joining) :
    s.detachCommand = (s.setResult .done).enterDetached := by
  rcases h with h | h <;> rw [State.detachCommand, h]

/-- Settles O10: DETACH by the row of Table 3.6 for the node's state, REJOIN in DETACHED and elsewhere. -/
theorem detachAndRejoin : Obligations.DetachAndRejoin := by
  unfold Obligations.DetachAndRejoin
  refine ⟨fun s arg running => ⟨fun out => ?refused, fun leaving => ?leaving, fun apart => ?detaches, fun active => ?leaves⟩,
    fun s arg running => ⟨fun detached => ?rejoins, fun elsewhere => ?stays⟩⟩
  case refused => 
    rw [exec_detach running, State.detachCommand_of_out (by exact out)]
    rfl
  case leaving =>
    rw [exec_detach running, State.detachCommand, show (s.storeCommand 0x0B arg).member.participation = .leaving from leaving]
    rfl
  case detaches =>
    let u := (s.storeCommand 0x0B arg).setResult .done
    have row : exec (.detach arg) s = .next u.enterDetached := by
      rw [exec_detach running, State.detachCommand_of_not_in (by exact apart)]
    obtain ⟨slot, blocked, openUnits, latchedUnits⟩ := u.enterDetached_demand
    obtain ⟨lease, cap, freeze⟩ := u.enterDetached_units
    refine ⟨_, row, u.enterDetached_result, by simp, by simp, by simp, lease, cap, freeze, slot, blocked, openUnits, latchedUnits,
      fun x => ?_, ?_⟩
    · rw [State.enterDetached_load]
      exact u.disconnectAll_load x
    · simp [u]
  case leaves =>
    let u := (s.storeCommand 0x0B arg).setResult .done
    have row : exec (.detach arg) s = .next u.enterLeaving.settle := by
      rw [exec_detach running, State.detachCommand, show (s.storeCommand 0x0B arg).member.participation = .active from active]
    obtain ⟨openUnits, latchedUnits⟩ := u.enterLeaving_account
    have loads : u.enterLeaving.settle.loads = u.enterLeaving.loads :=
      State.settle_loads_of_not_active (by rw [State.enterLeaving_member]; exact nofun)
    refine ⟨_, row, ?_, ?_, State.settle_keeps_has u.enterLeaving_has_leave, u.enterLeaving_table, fun x => ?_, fun k => ?_, ?_,
      u.enterLeaving_frame⟩
    · simp only [State.settle_frame, State.enterLeaving_result]
      rfl
    · simp only [State.settle_frame, State.enterLeaving_member]
      rfl
    · rw [State.load, loads]
      exact u.enterLeaving_load x
    · rw [State.settle_openUnits]
      exact openUnits k
    · rw [State.settle_demand, State.compose_demand]
      exact latchedUnits
  case rejoins =>
    let u := (s.storeCommand 0x0C arg).setResult .done
    have row : exec (.rejoin arg) s = .next u.beginsSeeking.askLimit.postPhase := by
      rw [exec_rejoin running, State.rejoinCommand, if_pos (by exact detached)]
      rfl
    refine ⟨_, row, ?_⟩
    simp [State.postPhase_result, State.beginsSeeking_member, State.beginsSeeking_bus, State.beginsSeeking_lease, u]
  case stays =>
    rw [exec_rejoin running, State.rejoinCommand, if_neg (by exact elsewhere)]
    rfl

end Sys2Proof.Machine
end

section
/-! SUPPORT. Seeking (3.3, 3.6): the frames that a seeking node records, SEEK, and the segments that a collector follows (R49, R51, R54,
R57 to R60). -/

namespace Sys2Proof.Machine

/-! ## Frames of other nodes in SEEKING -/

/-- A node in SEEKING hears a frame: the founding count falls to 0, but at a SEEK from a higher address (R51). -/
theorem State.received_member_of_seeking {s : State} (seeking : s.member.participation = .seeking) (k : FrameKind) (q : Station) :
    (s.received k q).member =
      { s.member with seekCount := if k = .seek ∧ s.address < q then s.member.seekCount else 0 } := by
  unfold State.received State.countFrame
  by_cases higher : k = .seek ∧ s.address < q
  · rw [if_neg fun counts => counts.2 (by simpa using higher), if_pos higher]
    simp
  · rw [if_pos ⟨by simpa using seeking, by simpa using higher⟩, if_neg higher]
    simp

/-- A frame that counts in SEEKING: every kind but SEEK (R51). -/
theorem State.received_member_of_counting {s : State} (seeking : s.member.participation = .seeking) {k : FrameKind} (hk : k ≠ .seek)
    (q : Station) : (s.received k q).member = { s.member with seekCount := 0 } := by
  rw [State.received_member_of_seeking seeking, if_neg fun h => hk h.1]

theorem change_kind_ne_seek (c : Change) : c.kind ≠ .seek := by cases c <;> exact FrameKind.noConfusion

/-- The event of a collection abandoned at another node's frame carries the commit number as it was. -/
theorem State.received_abandon_port (s : State) (k : FrameKind) (q : Station) (cause : AbandonCause) :
    ((s.received k q).abandon cause).settle.port = (s.post .imageFailed (argOf cause.number)).port := by
  simp only [State.settle_frame, State.abandon_port]
  exact State.post_port_congr (by simp) (by simp) _ _

/-! ## The pending change list (R57) -/

theorem State.record_of_new {s : State} {r : ChangeRecord} (recording : s.member.recording = true)
    (new : ∀ p ∈ s.member.changes, p.base ≠ r.base) (room : s.member.changes.length < 16) :
    s.record r = { s with member := { s.member with changes := s.member.changes ++ [r] } } := by
  have absent : s.member.changes.any (fun p => decide (p.base = r.base)) = false := by simpa using new
  simp [State.record, recording, absent, Config.maxChanges, room]

theorem State.record_of_known {s : State} {r : ChangeRecord} (recording : s.member.recording = true)
    (known : ∃ p ∈ s.member.changes, p.base = r.base) : s.record r =
      { s with member := { s.member with changes := s.member.changes.map fun p => if p.base = r.base then r else p } } := by
  have present : s.member.changes.any (fun p => decide (p.base = r.base)) = true := by simpa using known
  simp [State.record, recording, present]

theorem State.record_of_full {s : State} {r : ChangeRecord} (recording : s.member.recording = true)
    (new : ∀ p ∈ s.member.changes, p.base ≠ r.base) (full : 16 ≤ s.member.changes.length) : s.record r = s.abandon .overflow := by
  have absent : s.member.changes.any (fun p => decide (p.base = r.base)) = false := by simpa using new
  simp [State.record, recording, absent, Config.maxChanges, Nat.not_lt.mpr full]

/-- Another node's frame at a seeking node that drives nothing: recorded unless its outcome was refused (R33, R57). -/
theorem exec_seeking_changeFrame {s : State} (running : s.power.running = true) (seeking : s.member.participation = .seeking)
    {q : Station} (other : q ≠ s.address) (line : s.bus.line = .following .nothing) (b : Base) (c : Change) (slots : Slots) :
    exec (changeFrame q b c slots) s = .next (if slots.obj && !slots.ack then s.received c.kind q
      else (s.received c.kind q).record { source := q, base := b, change := c }).settle := by
  have driven : s.driven q b = .nothing := by rw [State.driven, line]
  have participation : (s.received c.kind q).member.participation = .seeking := by
    rw [State.received_member_of_seeking seeking]
    exact seeking
  rw [exec_changeFrame running, State.changeEnd, State.frameEnd_of_other (by rw [line]; rfl) other]
  unfold State.otherChange
  simp [driven, participation, Participation.inStep]

/-- Settles O32: the frame recorded in its place, at the end, or as an overflow. -/
theorem seekerRecordsFrame : Obligations.SeekerRecordsFrame := by
  unfold Obligations.SeekerRecordsFrame
  refine fun s q b c slots running seeking other line => ⟨fun obj ack => ?refused, fun outcome recording =>
    ⟨fun new room => ?new, fun known => ?known, fun new full => ?full⟩⟩
  all_goals
    have row := exec_seeking_changeFrame running seeking other line b c slots
    have member := State.received_member_of_counting seeking (change_kind_ne_seek c) q
  case refused =>
    rw [obj, ack] at row
    exact ⟨_, row, by simpa using member, by simp⟩
  all_goals
    have kept : (slots.obj && !slots.ack) = false := by rcases outcome with h | h <;> simp [h]
    rw [kept, if_neg Bool.false_ne_true] at row
  case new =>
    rw [State.record_of_new (by rw [member]; exact recording) (by rw [member]; exact new) (by rw [member]; exact room)] at row
    exact ⟨_, row, by simp [member], by simp⟩
  case known =>
    rw [State.record_of_known (by rw [member]; exact recording) (by rw [member]; exact known)] at row
    exact ⟨_, row, by simp [member], by simp⟩
  case full =>
    rw [State.record_of_full (by rw [member]; exact recording) (by rw [member]; exact new) (by rw [member]; exact full)] at row
    have abandoned := State.abandon_member (s.received c.kind q) .overflow
    exact ⟨_, row, by simp [abandoned], by simp [abandoned], by simp [abandoned],
      State.settle_keeps_has (State.abandon_has_seek (by rw [member]; exact seeking) _), s.received_abandon_port .., by simp⟩

/-! ## SEEK (R49, R51, R54) -/

theorem exec_other_seekFrame {s : State} (running : s.power.running = true) (receives : s.bus.line.receives = true) {q : Station}
    (other : q ≠ s.address) : exec (.seekFrame q) s = .next (if (s.received .seek q).member.participation.inStep = true
      then { s.received .seek q with member := { (s.received .seek q).member with imageOwed := true } }
      else s.received .seek q).settle := by
  change execSeekFrame q s = _
  rw [execSeekFrame, State.whenRunning_of_running running, State.frameEnd_of_other receives other]

theorem exec_own_seekFrame {s : State} (running : s.power.running = true) (line : s.bus.line = .sending .seek) :
    exec (.seekFrame s.address) s = .next s.ownSeek.settle := by
  change execSeekFrame s.address s = _
  rw [execSeekFrame, State.whenRunning_of_running running, State.frameEnd_of_own (k := .seek) line rfl]

theorem State.ownSeek_member {s : State} (seeking : s.member.participation = .seeking) : s.ownSeek.member = { s.member with
    seekCount := min (s.member.seekCount + 1) 4, changes := [], recording := true, seekWait := some 100
    latestSeek := true, segmentSeen := false } := by
  simp [State.ownSeek, seeking, Config.seekAttempts, Config.seekWaitMs]

/-- Settles O38: an image owed in step, the founding count in SEEKING, and the node's own SEEK completed. -/
theorem seekAsksForImage : Obligations.SeekAsksForImage := by
  unfold Obligations.SeekAsksForImage
  refine fun s q running => ⟨fun other line in_step => ?owes, fun other line seeking => ?counts, fun line seeking few => ?own⟩
  case owes =>
    have heard := State.received_of_inStep in_step .seek q
    have calm : (s.received .seek q).bus.calm := (State.received_itemsOnly .seek q).calm
    have member : (s.received .seek q).member = s.member := by simp [heard]
    have row := exec_other_seekFrame running (by rw [line]; rfl) other
    rw [if_pos (by rw [member]; exact in_step)] at row
    refine ⟨_, row, by simp [member], by simp, fun idle => ?_⟩
    rw [State.settle_has_image (by exact calm)]
    simp [member, in_step, idle]
  case counts =>
    have member := State.received_member_of_seeking seeking .seek q
    have row := exec_other_seekFrame running (by rw [line]; rfl) other
    rw [if_neg (by simp [member, seeking, Participation.inStep])] at row
    exact ⟨_, row, by simp [member], by simp⟩
  case own =>
    refine ⟨_, exec_own_seekFrame running line, by simp, ?_⟩
    have count : min (s.member.seekCount + 1) 4 = s.member.seekCount + 1 := min_eq_left few
    simp [State.ownSeek_member seeking, count]

/-! ## Collecting (R58 to R60) -/

theorem exec_seeking_imageFrame {s : State} (running : s.power.running = true) {q : Station} (other : q ≠ s.address)
    (line : s.bus.line = .idle) (seeking : s.member.participation = .seeking) (seg : Segment) :
    exec (.imageFrame q seg) s = .next ((s.received .image q).collect q seg).settle := by
  have member := State.received_member_of_seeking seeking .image q
  change execImageFrame q seg s = _
  rw [execImageFrame, State.whenRunning_of_running running, State.frameEnd_of_other (by rw [line]; rfl) other]
  unfold State.otherSegment
  dsimp only
  rw [if_pos (by rw [member]; exact seeking)]

/-- The stored rows, each as installation takes it (R2, R59). -/
theorem storeRows_segmentStation (es : Vector Entry 32) (i : Fin 8) (rows : Vector WireEntry 4) (j : Fin 4) :
    (storeRows es i rows)[segmentStation i j] = entryOfWire rows[j] := by
  fin_cases j <;> simp [storeRows, allClasses, List.finRange_succ, segmentStation]

/-- The stations of other segments keep their entries. -/
theorem storeRows_of_ne (es : Vector Entry 32) (i : Fin 8) (rows : Vector WireEntry 4) {p : Station} (h : ∀ j, p ≠ segmentStation i j) :
    (storeRows es i rows)[p] = es[p] := by
  have ne (j : Fin 4) : (segmentStation i j).val ≠ p.val := fun e => h j (Fin.ext e.symm)
  simp [storeRows, allClasses, List.finRange_succ, ne]

/-- Settles O39: the collection started, the expected segment stored, any other segment of the source abandoning it. -/
theorem collectorFollowsTrain : Obligations.CollectorFollowsTrain := by
  unfold Obligations.CollectorFollowsTrain
  refine fun s q running other line seeking => ⟨fun h waiting none_yet latest unseen => ?starts,
    fun c i rows collecting source expected entry => ?stores, fun c seg collecting source unexpected => ?abandons⟩
  all_goals have member := State.received_member_of_counting seeking (k := .image) nofun q
  case starts =>
    have row := exec_seeking_imageFrame running other line seeking (.header h)
    have collected : (s.received .image q).collect q (.header h) = (s.received .image q).startCollection q h := by
      rw [State.collect, member]
      simp [none_yet]
    have conditions : (s.received .image q).member.seekWait.isSome ∧ (s.received .image q).member.collection.isNone
        ∧ (s.received .image q).member.latestSeek = true ∧ (s.received .image q).member.segmentSeen = false := by
      simp [member, waiting, none_yet, latest, unseen]
    rw [collected, State.startCollection, if_pos conditions] at row
    exact ⟨_, row, by simp, by simp [member, Config.imageGapMs]⟩
  case stores =>
    have row := exec_seeking_imageFrame running other line seeking (.entries i rows)
    have collected : (s.received .image q).collect q (.entries i rows) = (s.received .image q).storeSegment c i rows := by
      rw [State.collect, member]
      simp [collecting, source]
    rw [collected, State.storeSegment, if_pos expected] at row
    dsimp only at row
    rw [if_neg entry.ne] at row
    exact ⟨_, _, row, by simp, by simp only [State.settle_frame, member]; rfl, rfl, storeRows_segmentStation _ i rows,
      fun p => storeRows_of_ne _ i rows⟩
  case abandons =>
    have row := exec_seeking_imageFrame running other line seeking seg
    have collected : (s.received .image q).collect q seg = (s.received .image q).abandon .order := by
      unfold State.collect
      simp only [member, collecting, source, if_pos]
      cases seg with
      | header h => rfl
      | entries i rows => exact if_neg (unexpected i rows rfl)
    have abandoned := State.abandon_member (s.received .image q) .order
    rw [collected] at row
    exact ⟨_, row, by simp, by simp [abandoned], by simp [abandoned], by simp [abandoned],
      State.settle_keeps_has (State.abandon_has_seek (by rw [member]; exact seeking) _), s.received_abandon_port ..⟩

end Sys2Proof.Machine
end

section
/-! SUPPORT. The end of a seek wait and founding (R49, R52), and the sender of an image (R54 to R56). -/

namespace Sys2Proof.Machine

/-! ## The end of a seek wait (R49, R52) -/

/-- A node whose seek wait has ended. -/
def State.waited (s : State) : State := { s with member := { s.member with seekWait := none } }

theorem exec_seekWaitExpiry {s : State} (running : s.power.running = true) (waiting : s.member.seekWait.isSome = true)
    (stands : .seekWaitExpiry ∈ s.due → s.member.seekWait = some 0) :
    exec .seekWaitExpiry s = .next (s.taken .seekWaitExpiry).endSeekWait := by
  change execSeekWaitExpiry s = _
  rw [execSeekWaitExpiry, State.whenRunning_of_running running,
    State.takeRow_of_stands _ _ _ _ fun due => by rw [stands due]; rfl, if_pos (by exact waiting)]

/-- The end of a seek wait in which no segment 0 was seen and that no collection follows (R49). -/
theorem State.endSeekWait_of_unanswered {s : State} (seeking : s.member.participation = .seeking) (unseen : s.member.segmentSeen = false)
    (none_yet : s.member.collection = none) : s.endSeekWait =
      if s.member.seekCount < 4 then s.waited.sendSeek else s.waited.found.settle := by
  simp [State.endSeekWait, State.waited, seeking, unseen, none_yet, Config.seekAttempts]

/-! ### Founding -/

/-- The founder before its shed plan: table, lease, freeze timer and account as founding gives them, in ACTIVE, FOUNDED posted. -/
def State.founding (s : State) : State :=
  ({ s with
    table := s.foundedTable
    lease := { s.lease with code := s.settings.lease, silence := .replicate 32 none, marks := .replicate 32 false, latchedMark := none }
    member := s.member.foundOrInstalled }.resetFreezeTimer.clearAccount.setParticipation .active).post .founded (argOf s.address.val)

theorem State.found_eq (s : State) : s.found = s.founding.shedIfOverCap.postPhase.reachActive := rfl

theorem State.founding_table (s : State) : s.founding.table = s.foundedTable := by simp [State.founding]

/-- The founder's own entry is MEMBER with what its loads occupy, and every other entry ABSENT (R52). -/
theorem State.foundedTable_entry (s : State) (p : Station) : s.foundedTable.entries[p] = if p = s.address
    then { member := true, held := #v[s.occupiedIn 0, s.occupiedIn 1, s.occupiedIn 2, s.occupiedIn 3] } else .absent := by
  unfold State.foundedTable
  by_cases own : p = s.address
  · simp [own]
  · have ne : s.address.val ≠ p.val := fun e => own (Fin.ext e.symm)
    simp [own, ne]

theorem State.found_lease (s : State) : s.found.lease.code = s.settings.lease ∧ s.found.lease.silence = .replicate 32 none := by
  simp [State.found_eq, State.founding]

theorem State.found_freeze (s : State) : s.found.freeze = { s.freeze with timer := none, thawMark := false } := by
  simp [State.found_eq, State.founding, State.resetFreezeTimer]

theorem State.reachActive_openUnits (s : State) : s.reachActive.demand.openUnits = s.demand.openUnits
    ∧ s.reachActive.demand.latchedUnits = s.demand.latchedUnits := by
  simp [State.reachActive]

/-- A founder within its cap sheds nothing: FOUNDED and PHASE are its events, and its account is empty. -/
theorem State.found_of_within_cap {s : State} (within : s.foundedTable.overCap = false) :
    s.found.port = ((s.postAt 0 .founded (argOf s.address.val)).postAt 0 .phase 3).port
      ∧ s.found.demand.openUnits = .replicate 4 0 := by
  have kept : s.founding.shedIfOverCap = s.founding := by
    rw [State.shedIfOverCap, State.founding_table, within, if_neg Bool.false_ne_true]
  have founded : s.founding.port = (s.postAt 0 .founded (argOf s.address.val)).port := by
    unfold State.founding State.post
    exact State.postAt_port_congr (by rfl) _ _ _
  rw [State.found_eq, kept]
  refine ⟨?_, ?_⟩
  · simp only [State.reachActive_frame, State.postPhase, State.post, State.founding_table]
    have active : s.founding.member.participation = .active := by simp [State.founding]
    rw [active]
    exact State.postAt_port_congr founded _ _ _
  · rw [(State.reachActive_openUnits _).1]
    simp [State.founding, State.clearAccount]

/-- Settles O46: the wait that a train has answered, a further SEEK, or the founder part by part. -/
theorem seekWaitEndsInSeekOrFounding : Obligations.SeekWaitEndsInSeekOrFounding := by
  unfold Obligations.SeekWaitEndsInSeekOrFounding
  refine fun s running seeking waiting stands => ⟨fun answered => ?nothing, fun unseen none_yet few => ?seeks,
    fun unseen none_yet four => ?founds⟩
  all_goals have row := exec_seekWaitExpiry running waiting stands
  case nothing =>
    rw [State.endSeekWait_without_effect _ (.inr (by exact answered))] at row
    exact row
  all_goals
    have ending := State.endSeekWait_of_unanswered (s := s.taken .seekWaitExpiry) (by exact seeking) (by exact unseen) (by exact none_yet)
  case seeks =>
    rw [ending, if_pos (by exact few)] at row
    refine ⟨_, row, by rw [State.sendSeek_member]; rfl, State.send_has _ _ ?_, by simp [State.waited]⟩
    simp [State.waited, seeking, Participation.allows]
  case founds =>
    rw [ending, if_neg (by simp [four])] at row
    let u := (s.taken .seekWaitExpiry).waited
    obtain ⟨code, silence⟩ := u.found_lease
    refine ⟨_, row, ?_⟩
    simp only [State.settle_frame, State.settle_openUnits, State.found_member, State.found_table]
    refine ⟨rfl, u.foundedTable_entry, rfl, rfl, rfl, code, silence, u.found_freeze, rfl, rfl, rfl, fun within => ?_⟩
    obtain ⟨port, openUnits⟩ := State.found_of_within_cap (s := u) within
    exact ⟨port.trans (State.postAt_port_congr (State.postAt_port_congr (show u.port = s.port from rfl) _ _ _) _ _ _), openUnits⟩

/-! ## The sender of an image (R54 to R56) -/

theorem exec_own_imageFrame {s : State} (running : s.power.running = true) {seg : Segment} (line : s.bus.line = .sending (.image seg))
    (in_step : s.member.participation.inStep = true) (row : Segment) : exec (.imageFrame s.address row) s =
      .next (((s.completeOwn .image).retire .image).advanceTrain seg).settle := by
  change execImageFrame s.address row s = _
  rw [execImageFrame, State.whenRunning_of_running running, State.frameEnd_of_own (k := .image) line rfl, State.ownSegment]
  simp [in_step]

theorem State.latchBody_header {s : State} (idle : s.member.train = none) :
    s.latchBody .image = some (.image (.header s.capture.header)) := by
  simp [State.latchBody, idle]

theorem State.latchBody_entries {s : State} {i : Fin 8} (train : s.member.train = some i) {buffer : ImageBuffer}
    (buffered : s.member.buffer = some buffer) : s.latchBody .image = some (.image (.entries i (takeRows buffer.entries i))) := by
  simp [State.latchBody, train, buffered]

theorem Entry.wire_held (e : Entry) (k : ClassIx) : e.wire.held[k] = BitVec.ofNat 11 e.held[k] := by
  fin_cases k <;> rfl

theorem takeRows_get (es : Vector Entry 32) (i : Fin 8) (j : Fin 4) : (takeRows es i)[j] = es[segmentStation i j].wire := by
  fin_cases j <;> rfl

/-- The completion of segment 0 begins the train with entry segment 1 (R54, R56). -/
theorem State.advanceTrain_header (s : State) (h : ImageHeader) :
    (s.advanceTrain (.header h)).member = { s.member with imageOwed := false, train := some 0 } := by
  simp [State.advanceTrain]

/-- The completion of an entry segment before the last posts the next one (R56). -/
theorem State.advanceTrain_entries (s : State) {i : Fin 8} (more : i.val < 7) (rows : Vector WireEntry 4) :
    (s.advanceTrain (.entries i rows)).member = { s.member with train := some (i + 1) } := by
  have next : (⟨i.val + 1, by omega⟩ : Fin 8) = i + 1 := Fin.ext (by rw [Fin.val_add_one_of_lt' (by omega)])
  simp [State.advanceTrain, more, next]

/-- While the train goes on its item stands. -/
theorem State.advanceTrain_has_image {s : State} (in_step : s.member.participation.inStep = true) {seg : Segment}
    (more : ∀ rows, seg ≠ .entries 7 rows) : (s.advanceTrain seg).bus.has .image = true := by
  obtain ⟨-, -, allowed⟩ := Participation.allows_of_inStep in_step
  cases seg with
  | header h => exact State.send_has _ _ allowed
  | entries i rows =>
    have below : i.val < 7 := by
      have : i ≠ 7 := fun last => more rows (by rw [last])
      omega
    simp only [State.advanceTrain, dif_pos below]
    exact State.send_has _ _ allowed

/-- Settles O41: what each latch fixes, and what each completion leaves of the train. -/
theorem trainSendsBuffer : Obligations.TrainSendsBuffer := by
  unfold Obligations.TrainSendsBuffer
  refine fun s running in_step => ⟨fun line idle => ?header, fun i buffer line train buffered => ?entries,
    fun h row line => ?begins, fun i rows row below line => ?continues, fun rows row line => ?ends⟩
  case header =>
    exact ⟨_, s.capture.header, exec_itemLatch running line (State.latchBody_header idle), rfl, rfl, rfl, rfl, rfl, rfl, rfl, rfl⟩
  case entries =>
    refine ⟨_, takeRows buffer.entries i, exec_itemLatch running line (State.latchBody_entries train buffered), rfl, rfl, rfl,
      fun j => ?_⟩
    rw [takeRows_get]
    exact ⟨rfl, Entry.wire_held _⟩
  all_goals
    have row := exec_own_imageFrame running line in_step row
    have step : ((s.completeOwn .image).retire .image).member.participation.inStep = true := by simpa using in_step
  case begins =>
    exact ⟨_, row, by simp [State.advanceTrain_header], State.settle_keeps_has (State.advanceTrain_has_image step nofun), by simp⟩
  case continues =>
    have more (rows' : Vector WireEntry 4) : Segment.entries i rows ≠ .entries 7 rows' := fun e => by
      cases e
      omega
    exact ⟨_, row, by simp [State.advanceTrain_entries _ below], State.settle_keeps_has (State.advanceTrain_has_image step more),
      by simp⟩
  case ends => exact ⟨_, row, by simp [State.advanceTrain], by simp⟩

end Sys2Proof.Machine
end

section
/-! SUPPORT. Shedding a class (R133, R134) and reconciliation (R64, R65): the loads and the release account, class by class. -/

namespace Sys2Proof.Machine

/-! ## Loads and account of one class -/

/-- Every energized load stands in the grant list (R87). -/
def State.granted (s : State) : Prop := ∀ x : LoadIx, (s.load x).state.energized = true → x ∈ s.loads.grants

theorem State.granted_of_listsSound {s : State} (h : s.listsSound) : s.granted := by
  obtain ⟨-, -, lists⟩ := h
  exact fun x => (lists x).2.mpr

theorem State.granted_congr {s u : State} (loads : u.loads = s.loads) (h : s.granted) : u.granted := by
  unfold State.granted State.load
  rw [loads]
  exact h

/-- A load that the first pass takes is of the class. -/
theorem State.dropsToKeep_cls {s : State} {k : ClassIx} {x : LoadIx} (h : s.dropsToKeep k x = true) : (s.cfg x).cls = k := by
  obtain ⟨visited, -⟩ := Bool.and_eq_true_iff.mp h
  exact of_decide_eq_true (Bool.and_eq_true_iff.mp visited).1

/-- A load that the second pass takes is of the class. -/
theorem State.turnsOff_cls {s : State} {k : ClassIx} {x : LoadIx} (h : s.turnsOff k x = true) : (s.cfg x).cls = k :=
  of_decide_eq_true (Bool.and_eq_true_iff.mp h).1

/-- What shedding class k can do: the loads and the account of other classes stay, no load is energized anew, and the grant list holds
every energized load as before. -/
structure State.shedsOnly (k : ClassIx) (s u : State) : Prop where
  settings : u.settings = s.settings
  others : ∀ y, (s.cfg y).cls ≠ k → u.load y = s.load y
  energized : ∀ y, (u.load y).state.energized = true → (s.load y).state.energized = true
  granted : s.granted → u.granted
  account : ∀ j, j ≠ k → u.demand.openUnits[j] = s.demand.openUnits[j] ∧ u.demand.latchedUnits[j] = s.demand.latchedUnits[j]

namespace State.shedsOnly

variable {k : ClassIx} {s u v : State} {x : LoadIx}

theorem refl (k : ClassIx) (s : State) : s.shedsOnly k s := ⟨rfl, fun _ _ => rfl, fun _ => id, id, fun _ _ => ⟨rfl, rfl⟩⟩

theorem cls_eq (h : s.shedsOnly k u) (y : LoadIx) : (u.cfg y).cls = (s.cfg y).cls := by rw [State.cfg, State.cfg, h.settings]

theorem trans (h : s.shedsOnly k u) (h' : u.shedsOnly k v) : s.shedsOnly k v where
  settings := h'.settings.trans h.settings
  others y hy := (h'.others y (by rwa [h.cls_eq])).trans (h.others y hy)
  energized y hy := h.energized y (h'.energized y hy)
  granted hs := h'.granted (h.granted hs)
  account j hj :=
    have ⟨hopen, hlatched⟩ := h.account j hj
    have ⟨hopen', hlatched'⟩ := h'.account j hj
    ⟨hopen'.trans hopen, hlatched'.trans hlatched⟩

/-- An update of other blocks, and of the Demand Scheduler beside the account. -/
theorem elsewhere (h : s.shedsOnly k u) (settings : v.settings = u.settings) (loads : v.loads = u.loads)
    (openUnits : v.demand.openUnits = u.demand.openUnits) (latchedUnits : v.demand.latchedUnits = u.demand.latchedUnits) :
    s.shedsOnly k v := by
  refine h.trans ⟨settings, fun y _ => ?_, fun y => ?_, State.granted_congr loads,
    fun j _ => ⟨by rw [openUnits], by rw [latchedUnits]⟩⟩
  · rw [State.load, loads, State.load]
  · rw [State.load, loads]
    exact id

/-- A load of the class that is not energized anew. -/
theorem setLoad (h : s.shedsOnly k u) (cls : (u.cfg x).cls = k) {r : LoadRecord}
    (off : r.state.energized = true → (u.load x).state.energized = true) : s.shedsOnly k (u.setLoad x r) := by
  have energized (y : LoadIx) (hy : ((u.setLoad x r).load y).state.energized = true) : (u.load y).state.energized = true := by
    rw [State.load_setLoad] at hy
    split at hy
    next e => exact e ▸ off hy
    next => exact hy
  refine h.trans ⟨rfl, fun y hy => State.load_setLoad_of_ne _ _ fun e => hy (e ▸ cls), energized, fun hu y hy => hu y (energized y hy),
    fun _ _ => ⟨rfl, rfl⟩⟩

theorem setLoadState (h : s.shedsOnly k u) (cls : (u.cfg x).cls = k) {l : LoadState}
    (off : l.energized = true → (u.load x).state.energized = true) : s.shedsOnly k (u.setLoadState x l) := h.setLoad cls off

theorem ungrant (h : s.shedsOnly k u) (off : (u.load x).state.energized = false) : s.shedsOnly k (u.ungrant x) := by
  refine h.trans ⟨rfl, fun _ _ => rfl, fun _ => id, fun hu y hy => ?_, fun _ _ => ⟨rfl, rfl⟩⟩
  have ne : y ≠ x := fun e => by
    rw [State.ungrant_load, e, off] at hy
    cases hy
  exact (List.mem_erase_of_ne ne).mpr (hu y hy)

theorem freeUnits (h : s.shedsOnly k u) {j : ClassIx} (cls : j = k) (n : Nat) : s.shedsOnly k (u.freeUnits j n) := by
  refine h.trans ⟨by simp, fun y _ => by simp [State.load], fun y => by simp [State.load], State.granted_congr (by simp),
    fun i hi => ?_⟩
  rw [State.freeUnits_demand, addAt_get, cls, if_neg (Ne.symm hi)]
  exact ⟨rfl, rfl⟩

theorem post (h : s.shedsOnly k u) (c : EventCode) (a : Byte) : s.shedsOnly k (u.post c a) :=
  h.elsewhere (by simp) (by simp) (by simp) (by simp)

theorem enqueue (h : s.shedsOnly k u) (x : LoadIx) : s.shedsOnly k (u.enqueue x) := h.elsewhere rfl rfl rfl rfl

theorem enterQueue (h : s.shedsOnly k u) (cls : (u.cfg x).cls = k) : s.shedsOnly k (u.enterQueue x) := by
  unfold State.enterQueue
  split
  · exact (h.setLoadState cls fun on => Bool.noConfusion on).enqueue x
  · exact h

theorem endClaim (h : s.shedsOnly k u) (x : LoadIx) : s.shedsOnly k (u.endClaim x) :=
  have ⟨openUnits, latchedUnits⟩ := u.endClaim_account x
  h.elsewhere (by simp) (by simp) openUnits latchedUnits

theorem raiseFromKeep (h : s.shedsOnly k u) (cls : (u.cfg x).cls = k) : s.shedsOnly k (u.raiseFromKeep x) := by
  unfold State.raiseFromKeep
  split
  next keep => exact (h.setLoadState cls fun _ => by rw [keep]; rfl).enqueue x
  next => exact h

theorem lowerToKeep (h : s.shedsOnly k u) (cls : (u.cfg x).cls = k) : s.shedsOnly k (u.lowerToKeep x) := by
  unfold State.lowerToKeep
  dsimp only
  split
  next lowers =>
    refine (h.setLoad cls fun _ => ?_).freeUnits (by exact cls) _
    rcases lowers.1 with e | e <;> rw [e] <;> rfl
  next => exact h

theorem dropLoad (h : s.shedsOnly k u) (cls : (u.cfg x).cls = k) : s.shedsOnly k (u.dropLoad x .off) := by
  have off : s.shedsOnly k (((u.setLoad x { u.load x with state := .off, ramp := none }).ungrant x).dequeue x) :=
    ((h.setLoad cls fun on => Bool.noConfusion on).ungrant (by rw [State.load_setLoad_self]; rfl)).elsewhere rfl rfl rfl rfl
  unfold State.dropLoad
  dsimp only
  split
  · refine (off.endClaim x).freeUnits ?_ _
    simpa [State.cfg] using cls
  · exact off.freeUnits (by exact cls) _

theorem shedToKeep (h : s.shedsOnly k u) (cls : (u.cfg x).cls = k) : s.shedsOnly k (u.shedToKeep x) := by
  have lowered := (h.lowerToKeep cls).post .shed (argOf x.val)
  unfold State.shedToKeep
  dsimp only
  split
  · exact lowered.raiseFromKeep (by simpa [State.cfg] using cls)
  · exact lowered

theorem shedOff (h : s.shedsOnly k u) (cls : (u.cfg x).cls = k) : s.shedsOnly k (u.shedOff x) :=
  ((h.dropLoad cls).post .shed _).enterQueue (by simpa [State.cfg] using cls)

theorem shedKeeps (n : Nat) : ∀ (l : List LoadIx) {u : State}, s.shedsOnly k u → s.shedsOnly k (shedKeeps k n l u)
  | [], _, h => h
  | x :: xs, u, h => by
    unfold Machine.shedKeeps
    split
    · exact h
    · refine shedKeeps n xs ?_
      split
      next drops => exact h.shedToKeep (State.dropsToKeep_cls drops)
      next => exact h

theorem shedOffs (n : Nat) : ∀ (l : List LoadIx) {u : State}, s.shedsOnly k u → s.shedsOnly k (shedOffs k n l u)
  | [], _, h => h
  | x :: xs, u, h => by
    unfold Machine.shedOffs
    split
    · exact h
    · refine shedOffs n xs ?_
      split
      next turns => exact h.shedOff (State.turnsOff_cls turns)
      next => exact h

theorem shedClass (h : s.shedsOnly k u) (n : Nat) : s.shedsOnly k (u.shedClass k n) := shedOffs n _ (shedKeeps n _ h)

/-- What another class occupies stays. -/
theorem occupiedIn (h : s.shedsOnly k u) {j : ClassIx} (hj : j ≠ k) : u.occupiedIn j = s.occupiedIn j := by
  unfold State.occupiedIn
  congr 2
  funext y
  rw [h.cls_eq]
  split
  next cls => rw [State.occupied, State.occupied, h.others y (by rwa [cls]), State.cfg, State.cfg, h.settings]
  next => rfl

end State.shedsOnly

/-! ## The target of a shedding (R133) -/

theorem LoadState.units_of_not_energized {l : LoadState} (off : l.energized = false) (c : LoadSettings) : l.units c = 0 := by
  revert off
  cases l <;> simp [LoadState.energized, LoadState.units]

/-- A class without an energized load occupies nothing. -/
theorem State.occupiedIn_of_none_energized {s : State} {k : ClassIx}
    (off : ∀ x, (s.cfg x).cls = k → (s.load x).state.energized = false) : s.occupiedIn k = 0 := by
  refine List.sum_eq_zero fun n hn => ?_
  obtain ⟨x, -, rfl⟩ := List.mem_map.mp hn
  split
  next cls => exact LoadState.units_of_not_energized (off x cls) _
  next => rfl

theorem State.dropLoad_loads (s : State) (x : LoadIx) (l : LoadState) :
    (s.dropLoad x l).loads = ((s.setLoad x { s.load x with state := l, ramp := none }).ungrant x).loads := by
  unfold State.dropLoad
  dsimp only
  simp only [State.freeUnits_frame]
  split <;> simp

theorem State.shedOff_off (s : State) (x : LoadIx) : ((s.shedOff x).load x).state.energized = false := by
  have dropped : ((s.dropLoad x .off).post .shed (argOf (x.val + 8))).load x = { s.load x with state := .off, ramp := none } := by
    simp only [State.load, State.post_frame, State.dropLoad_loads]
    exact s.load_setLoad_self x _
  rcases State.enterQueue_load ((s.dropLoad x .off).post .shed (argOf (x.val + 8))) x x with e | e <;>
    rw [State.shedOff, e, dropped] <;> rfl

/-- The second pass meets its target where it visits every energized load of the class. -/
theorem shedOffs_le (k : ClassIx) (n : Nat) : ∀ (l : List LoadIx) (s : State),
    (∀ x, (s.cfg x).cls = k → (s.load x).state.energized = true → x ∈ l) → (shedOffs k n l s).occupiedIn k ≤ n
  | [], s, visits => by
    rw [shedOffs, State.occupiedIn_of_none_energized fun x cls => Bool.eq_false_iff.mpr fun on => List.not_mem_nil (visits x cls on)]
    exact Nat.zero_le n
  | x :: xs, s, visits => by
    unfold shedOffs
    split
    next met => exact met
    next =>
      by_cases turns : s.turnsOff k x = true
      · rw [if_pos turns]
        refine shedOffs_le k n xs _ fun y cls on => ?_
        have shed : s.shedsOnly k (s.shedOff x) :=
          (State.shedsOnly.refl k s).shedOff (State.turnsOff_cls turns)
        have ne : y ≠ x := fun e => by
          rw [e, State.shedOff_off] at on
          cases on
        exact List.mem_of_ne_of_mem ne (visits y (by rwa [shed.cls_eq] at cls) (shed.energized y on))
      · rw [if_neg turns]
        refine shedOffs_le k n xs _ fun y cls on => ?_
        have ne : y ≠ x := fun e => turns (by simp [State.turnsOff, ← e, cls, on])
        exact List.mem_of_ne_of_mem ne (visits y cls on)

/-- A class shed to a target occupies no more than that. -/
theorem State.shedClass_le {s : State} (granted : s.granted) (k : ClassIx) (n : Nat) : (s.shedClass k n).occupiedIn k ≤ n := by
  have kept := State.shedsOnly.shedKeeps n s.loads.grants (State.shedsOnly.refl k s)
  exact shedOffs_le k n _ _ fun x _ on => granted x (kept.energized x on)

theorem State.shedIfOverCap_granted {s : State} (h : s.granted) : s.shedIfOverCap.granted := by
  unfold State.shedIfOverCap State.executePlan
  split
  · refine List.foldlRecOn _ _ h fun u hu k _ => ?_
    dsimp only
    split
    · exact ((State.shedsOnly.refl k u).shedClass _).granted hu
    · exact hu
  · exact h

/-! ## Reconciliation class by class (R64) -/

/-- The part of the account of class k that reconciliation leaves: open what the own holding exceeds the loads by, nothing latched. -/
def State.accounted (s : State) (k : ClassIx) : Prop :=
  s.demand.openUnits[k] = s.table.entries[s.address].held[k] - s.occupiedIn k ∧ s.demand.latchedUnits[k] = 0

/-- The loads of class k lie within the own holding. -/
def State.withinHolding (s : State) (k : ClassIx) : Prop := s.occupiedIn k ≤ s.table.entries[s.address].held[k]

theorem State.reconcileClass_occupiedIn (s : State) (j k : ClassIx) :
    (s.reconcileClass k).occupiedIn j = (s.shedClass k s.table.entries[s.address].held[k]).occupiedIn j := rfl

theorem State.reconcileClass_shedsOnly (s : State) (k : ClassIx) : s.shedsOnly k (s.reconcileClass k) := by
  refine ((State.shedsOnly.refl k s).shedClass s.table.entries[s.address].held[k]).trans
    ⟨rfl, fun _ _ => rfl, fun _ => id, id, fun j hj => ?_⟩
  have ne : k.val ≠ j.val := fun e => hj (Fin.ext e.symm)
  simp [State.reconcileClass, ne]

theorem State.reconcileClass_accounted (s : State) (k : ClassIx) : (s.reconcileClass k).accounted k := by
  unfold State.accounted
  rw [State.reconcileClass_occupiedIn]
  simp [State.reconcileClass]

theorem State.reconcileClass_withinHolding {s : State} (granted : s.granted) (k : ClassIx) : (s.reconcileClass k).withinHolding k := by
  unfold State.withinHolding
  rw [State.reconcileClass_occupiedIn]
  simpa using State.shedClass_le granted k _

/-- The reconciliation of one class leaves that of another. -/
theorem State.reconcileClass_others (s : State) {j k : ClassIx} (h : j ≠ k) :
    (s.accounted j → (s.reconcileClass k).accounted j) ∧ (s.withinHolding j → (s.reconcileClass k).withinHolding j) := by
  have shed := s.reconcileClass_shedsOnly k
  obtain ⟨openUnits, latchedUnits⟩ := shed.account j h
  unfold State.accounted State.withinHolding
  rw [openUnits, latchedUnits, shed.occupiedIn h]
  simp

/-- A fold that establishes a property of each element visited, and keeps that of every other, establishes it of all, while what every
step keeps holds. -/
theorem foldl_establishes {α : Type} [DecidableEq α] {f : State → α → State} {I : State → Prop} {P : α → State → Prop}
    (keeps : ∀ s a, I s → I (f s a)) (self : ∀ s a, I s → P a (f s a)) (other : ∀ s a b, b ≠ a → P b s → P b (f s a)) :
    ∀ (l : List α) (s : State) (b : α), I s → b ∈ l ∨ P b s → P b (l.foldl f s)
  | [], _, _, _, h => h.resolve_left List.not_mem_nil
  | a :: l, s, b, hs, h => by
    refine foldl_establishes keeps self other l (f s a) b (keeps s a hs) ?_
    by_cases e : b = a
    · exact .inr (e ▸ self s a hs)
    · exact h.imp (List.mem_of_ne_of_mem e) (other s a b e)

/-- After every class the account is what the own entry holds beyond the loads. -/
theorem State.reconciled_accounted (s : State) (k : ClassIx) : (allClasses.foldl State.reconcileClass s).accounted k :=
  foldl_establishes (I := fun _ => True) (P := fun j u => u.accounted j) (fun _ _ => id) (fun u j _ => u.reconcileClass_accounted j)
    (fun u _ _ e => (u.reconcileClass_others e).1) allClasses s k trivial (.inl (List.mem_finRange k))

/-- After every class the loads lie within what the own entry holds. -/
theorem State.reconciled_withinHolding {s : State} (granted : s.granted) (k : ClassIx) :
    (allClasses.foldl State.reconcileClass s).withinHolding k :=
  foldl_establishes (I := State.granted) (P := fun j u => u.withinHolding j) (fun u j => (u.reconcileClass_shedsOnly j).granted)
    (fun _ j hu => State.reconcileClass_withinHolding hu j) (fun u _ _ e => (u.reconcileClass_others e).2) allClasses s k granted
    (.inl (List.mem_finRange k))

end Sys2Proof.Machine
end

section
/-! SUPPORT. Installation (R61 to R65): replay by the distance of commits, the timers of the installed table, and reconciliation. -/

namespace Sys2Proof.Machine

/-! ## Replay (R62) -/

theorem replay_cons (r : ChangeRecord) (rs : List ChangeRecord) (t : Table) : replay (r :: rs) t =
    if r.base.commit = t.commit then
      if r.base.check = t.check then
        (replay rs (t.apply r.source r.change)).map fun p => (p.1, ⟨r, t, t.apply r.source r.change⟩ :: p.2)
      else none
    else if (r.base.commit - t.commit).toNat ≤ 15 then none
    else replay rs t := by
  by_cases same : r.base.commit = t.commit
  · simp [replay, same]
  · have apart : (r.base.commit - t.commit).toNat ≠ 0 := by bv_omega
    rw [if_neg same, replay, if_neg apart, Config.missingDistance]

/-- Replay by distance: 0 is checked and applied, 1 to 15 fails, 16 or more is skipped. -/
theorem replay_by_distance (r : ChangeRecord) (rs : List ChangeRecord) (t : Table) :
    (r.base.commit = t.commit → r.base.check = t.check →
      replay (r :: rs) t = (replay rs (t.apply r.source r.change)).map fun p => (p.1, ⟨r, t, t.apply r.source r.change⟩ :: p.2))
    ∧ (r.base.commit = t.commit → r.base.check ≠ t.check → replay (r :: rs) t = none)
    ∧ (1 ≤ (r.base.commit - t.commit).toNat → (r.base.commit - t.commit).toNat ≤ 15 → replay (r :: rs) t = none)
    ∧ (16 ≤ (r.base.commit - t.commit).toNat → replay (r :: rs) t = replay rs t) := by
  have apart (far : 1 ≤ (r.base.commit - t.commit).toNat) : r.base.commit ≠ t.commit := fun same => by
    simp [same] at far
  rw [replay_cons]
  refine ⟨fun commit check => ?_, fun commit check => ?_, fun far near => ?_, fun far => ?_⟩
  · rw [if_pos commit, if_pos check]
  · rw [if_pos commit, if_neg check]
  · rw [if_neg (apart far), if_pos near]
  · rw [if_neg (apart (by omega)), if_neg (by omega)]

/-! ## The silence timers of a table (R63) -/

/-- A fold that sets the place of each station visited. -/
theorem foldl_set_get {α : Type} (f : Station → α) (p : Station) : ∀ (l : List Station) (v : Vector α 32),
    (l.foldl (fun v q => v.set q (f q)) v)[p] = if p ∈ l then f p else v[p]
  | [], _ => by simp
  | q :: l, v => by
    rw [List.foldl_cons, foldl_set_get f p l]
    by_cases here : p = q
    · simp [here]
    · have ne : q.val ≠ p.val := fun e => here (Fin.ext e.symm)
      simp [here, ne]

theorem silenceFor_get (t : Table) (own p : Station) :
    (silenceFor t own)[p] = if t.entries[p].member = true ∧ p ≠ own then some 0 else none := by
  unfold silenceFor
  rw [foldl_set_get, if_pos (List.mem_finRange p)]
  simp

/-! ## The installed table before its shed plan -/

/-- The installed table taken with its hand-offs and timers: all that installation does before the shed plan (R63 steps 1 to 3). -/
def State.installed (s : State) (h : ImageHeader) (t : Table) (rs : List Replayed) : State :=
  let u := rs.foldl replayCap (rs.foldl postReplayed { s with table := t })
  let u := { u with lease := { u.lease with code := h.lease, silence := silenceFor t u.address } }
  let u := rs.foldl replayFreeze (u.installFreeze h)
  { u with member := u.member.foundOrInstalled }

theorem State.install_eq (s : State) (h : ImageHeader) (t : Table) (rs : List Replayed) :
    s.install h t rs = (s.installed h t rs).shedIfOverCap.reconcile := rfl

theorem State.installed_frame (s : State) (h : ImageHeader) (t : Table) (rs : List Replayed) :
    (s.installed h t rs).table = t ∧ (s.installed h t rs).address = s.address ∧ (s.installed h t rs).settings = s.settings
      ∧ (s.installed h t rs).loads = s.loads := by
  simp [State.installed]

/-- The lease in force is the header's, and the silence timers are those of the installed table (R63). -/
theorem State.install_lease (s : State) (h : ImageHeader) (t : Table) (rs : List Replayed) :
    (s.install h t rs).lease.code = h.lease ∧ (s.install h t rs).lease.silence = silenceFor t s.address := by
  simp [State.install_eq, State.installed]

/-! ## Reconciliation -/

/-- Composition moves no unit: a claim occupies what its load occupied before. -/
theorem LoadState.composedTo.units {a b : LoadState} (h : a.composedTo b) (c : LoadSettings) : b.units c = a.units c := by
  rcases h with rfl | ⟨rfl, rfl⟩ | ⟨rfl, rfl⟩ <;> rfl

theorem State.settle_latchedUnits (s : State) : s.settle.demand.latchedUnits = s.demand.latchedUnits := by
  rw [State.settle_demand, State.compose_demand]

theorem State.settle_occupiedIn (s : State) (k : ClassIx) : s.settle.occupiedIn k = s.occupiedIn k := by
  have cfg (x : LoadIx) : s.settle.cfg x = s.cfg x := by simp [State.cfg]
  unfold State.occupiedIn State.occupied
  congr 2
  funext x
  rw [cfg, (s.settle_load x).2.units]

/-- With the own entry MEMBER the loads and the account are those that the classes in turn leave. -/
theorem State.reconcileMember_loads (s : State) : s.reconcileMember.loads = (allClasses.foldl State.reconcileClass s).loads
    ∧ s.reconcileMember.demand.openUnits = (allClasses.foldl State.reconcileClass s).demand.openUnits
    ∧ s.reconcileMember.demand.latchedUnits = (allClasses.foldl State.reconcileClass s).demand.latchedUnits := by
  unfold State.reconcileMember
  simp [State.reachActive_openUnits]

/-- A reconciled member: nothing is latched, and where the grant list holds the energized loads, they lie within the own holdings and
the open account is the rest (R64). -/
theorem State.reconcileMember_balance (s : State) : s.reconcileMember.demand.latchedUnits = .replicate 4 0
    ∧ (s.granted → ∀ k : ClassIx, s.reconcileMember.occupiedIn k ≤ s.table.entries[s.address].held[k]
      ∧ s.reconcileMember.demand.openUnits[k] + s.reconcileMember.occupiedIn k = s.table.entries[s.address].held[k]) := by
  obtain ⟨loads, openUnits, latchedUnits⟩ := s.reconcileMember_loads
  have kept {β : Type} (p : State → β) (h : ∀ (u : State) (k : ClassIx), p (u.reconcileClass k) = p u) :
      p (allClasses.foldl State.reconcileClass s) = p s := foldl_keeps _ p h _ _
  have table := kept State.table fun u k => by simp
  have address := kept State.address fun u k => by simp
  have settings := kept State.settings fun u k => by simp
  have occupied (k : ClassIx) : s.reconcileMember.occupiedIn k = (allClasses.foldl State.reconcileClass s).occupiedIn k :=
    State.occupiedIn_congr _ _ k (by rw [loads]) (by simp [settings])
  refine ⟨?_, fun granted k => ?_⟩
  · rw [latchedUnits]
    ext k hk
    exact (s.reconciled_accounted ⟨k, hk⟩).2.trans (by simp)
  · have account := (s.reconciled_accounted k).1
    have within := State.reconciled_withinHolding granted k
    unfold State.withinHolding at within
    simp only [table, address] at account within
    rw [openUnits, occupied, account]
    exact ⟨within, Nat.sub_add_cancel within⟩

theorem State.compareCap_keeps_has {s : State} {k : FrameKind} (h : s.bus.has k = true) : s.compareCap.bus.has k = true := by
  unfold State.compareCap
  split
  · split
    · exact h
    · exact State.send_keeps_has h _
  · exact h

/-- With the own entry ABSENT every load is off, a JOIN item stands, and the account is empty (R65). -/
theorem State.reconcileAbsent_off (s : State) : s.reconcileAbsent.bus.has .join = true
    ∧ s.reconcileAbsent.demand.openUnits = .replicate 4 0 ∧ s.reconcileAbsent.demand.latchedUnits = .replicate 4 0
    ∧ s.reconcileAbsent.loads = s.disconnectAll.loads := by
  unfold State.reconcileAbsent
  dsimp only
  refine ⟨State.compareCap_keeps_has ?_, ?_, ?_, ?_⟩
  · simp only [State.postPhase_frame]
    exact State.send_has _ _ rfl
  all_goals split <;> simp [State.clearAccount]

/-! ## The end of a collection (R61) -/

/-- The collection with its last segment stored. -/
def Collection.filled (c : Collection) (rows : Vector WireEntry 4) : Collection :=
  { c with entries := storeRows c.entries 7 rows, next := c.next + 1 }

theorem State.storeSegment_last (s : State) {c : Collection} (next : c.next = 8) (rows : Vector WireEntry 4) :
    s.storeSegment c 7 rows = s.finishCollection (c.filled rows) := by
  simp [State.storeSegment, next, Collection.filled]

/-- Segment 8 of the collection's source ends the collection (R59, R61). -/
theorem exec_last_segment {s : State} (running : s.power.running = true) {q : Station} (other : q ≠ s.address)
    (line : s.bus.line = .idle) (seeking : s.member.participation = .seeking) {c : Collection} (collecting : s.member.collection = some c)
    (source : c.source = q) (next : c.next = 8) (rows : Vector WireEntry 4) : exec (.imageFrame q (.entries 7 rows)) s =
      .next ((s.received .image q).finishCollection (c.filled rows)).settle := by
  have member := State.received_member_of_counting seeking (k := .image) nofun q
  have row := exec_seeking_imageFrame running other line seeking (.entries 7 rows)
  have collected : (s.received .image q).collect q (.entries 7 rows) = (s.received .image q).storeSegment c 7 rows := by
    rw [State.collect, member]
    simp [collecting, source]
  rwa [collected, State.storeSegment_last _ next] at row

theorem State.finishCollection_of_replayed {s : State} {c : Collection} (agrees : c.table.check = c.header.check) {t : Table}
    {rs : List Replayed} (replayed : replay s.member.changes c.table = some (t, rs)) :
    s.finishCollection c = s.install c.header t rs := by
  rw [State.finishCollection, if_pos agrees, replayed]

theorem State.finishCollection_of_differing {s : State} {c : Collection} (differs : c.table.check ≠ c.header.check) :
    s.finishCollection c = s.abandon .check := by
  rw [State.finishCollection, if_neg differs]

theorem State.finishCollection_of_failing {s : State} {c : Collection} (agrees : c.table.check = c.header.check)
    (fails : replay s.member.changes c.table = none) : s.finishCollection c = s.abandon .replay := by
  rw [State.finishCollection, if_pos agrees, fails]

/-! ## The installation -/

/-- Reconciliation goes by the own entry of the installed table. -/
theorem State.install_own (s : State) (h : ImageHeader) (t : Table) (rs : List Replayed) :
    s.install h t rs = if t.entries[s.address].member = true then (s.installed h t rs).shedIfOverCap.reconcileMember
      else (s.installed h t rs).shedIfOverCap.reconcileAbsent := by
  obtain ⟨table, address, -, -⟩ := s.installed_frame h t rs
  rw [State.install_eq, State.reconcile]
  simp only [State.shedIfOverCap_frame, table, address]

/-- Installed with the own entry MEMBER: nothing latched, the loads within the own holdings, and the open account the rest (R64). -/
theorem State.install_of_member {s : State} {h : ImageHeader} {t : Table} {rs : List Replayed}
    (member : t.entries[s.address].member = true) : (s.install h t rs).demand.latchedUnits = .replicate 4 0
      ∧ (s.granted → ∀ k : ClassIx, (s.install h t rs).occupiedIn k ≤ t.entries[s.address].held[k]
        ∧ (s.install h t rs).demand.openUnits[k] + (s.install h t rs).occupiedIn k = t.entries[s.address].held[k]) := by
  obtain ⟨table, address, -, loads⟩ := s.installed_frame h t rs
  have balance := (s.installed h t rs).shedIfOverCap.reconcileMember_balance
  simp only [State.shedIfOverCap_frame, table, address] at balance
  rw [State.install_own, if_pos member]
  exact ⟨balance.1, fun hs => balance.2 (State.shedIfOverCap_granted (State.granted_congr loads hs))⟩

/-- Installed with the own entry ABSENT: a JOIN item stands, the account is empty, and every load is off (R65). -/
theorem State.install_of_absent {s : State} {h : ImageHeader} {t : Table} {rs : List Replayed}
    (absent : t.entries[s.address].member = false) : (s.install h t rs).bus.has .join = true
      ∧ (s.install h t rs).demand.openUnits = .replicate 4 0 ∧ (s.install h t rs).demand.latchedUnits = .replicate 4 0
      ∧ ∀ x, ((s.install h t rs).load x).state.energized = false := by
  obtain ⟨join, openUnits, latchedUnits, loads⟩ := (s.installed h t rs).shedIfOverCap.reconcileAbsent_off
  rw [State.install_own, if_neg (Bool.eq_false_iff.mp absent)]
  refine ⟨join, openUnits, latchedUnits, fun x => ?_⟩
  rw [State.load, loads]
  exact ((s.installed h t rs).shedIfOverCap.disconnectAll_load x).1

/-- Settles O40: segment 8 installs the replayed table or leaves the stale one, and replay goes by distance. -/
theorem installationTakesReplayedTable : Obligations.InstallationTakesReplayedTable := by
  unfold Obligations.InstallationTakesReplayedTable
  refine ⟨fun s q c rows running other line seeking collecting source next =>
    ⟨(c.filled rows).table, rfl, fun agrees table rs replayed => ?installs, fun differs => ?differs, fun agrees fails => ?fails⟩,
    replay_by_distance⟩
  all_goals
    have row := exec_last_segment running other line seeking collecting source next rows
    have heard := State.received_member_of_counting seeking (k := .image) nofun q
    have still_seeking : (s.received .image q).member.participation = .seeking := by rw [heard]; exact seeking
  case installs =>
    rw [State.finishCollection_of_replayed agrees (by rw [heard]; exact replayed),
      show (c.filled rows).header = c.header from rfl] at row
    have address : (s.received .image q).address = s.address := by simp
    have granted (lists : s.listsSound) : (s.received .image q).granted :=
      State.granted_congr (by simp) (State.granted_of_listsSound lists)
    refine ⟨_, row, ?_⟩
    simp only [State.settle_frame, State.install_table, State.install_lease, State.install_member, silenceFor_get, address,
      State.settle_openUnits, State.settle_latchedUnits, State.settle_occupiedIn]
    refine ⟨trivial, trivial, fun _ => trivial, rfl, rfl, rfl, rfl, fun own => ?member, fun own => ?absent⟩
    case member =>
      have installed := State.install_of_member (s := s.received .image q) (h := c.header) (t := table) (rs := rs)
      simp only [address] at installed
      obtain ⟨latched, balance⟩ := installed own
      exact ⟨if_pos own, latched, fun lists _ => balance (granted lists)⟩
    case absent =>
      have installed := State.install_of_absent (s := s.received .image q) (h := c.header) (t := table) (rs := rs)
      simp only [address] at installed
      obtain ⟨join, openUnits, latched, off⟩ := installed own
      have joining : ((s.received .image q).install c.header table rs).member.participation = .joining := by
        simp only [State.install_member, address]
        exact if_neg (Bool.eq_false_iff.mp own)
      refine ⟨if_neg (Bool.eq_false_iff.mp own), State.settle_keeps_has join, openUnits, latched, fun x => ?_⟩
      rw [State.load, State.settle_loads_of_not_active (by rw [joining]; exact nofun)]
      exact off x
  case differs =>
    rw [State.finishCollection_of_differing differs] at row
    exact ⟨_, row, by simp, by simp [State.abandon_member, still_seeking], s.received_abandon_port ..⟩
  case fails =>
    rw [State.finishCollection_of_failing agrees (by rw [heard]; exact fails)] at row
    exact ⟨_, row, by simp, by simp [State.abandon_member, still_seeking], s.received_abandon_port ..⟩

end Sys2Proof.Machine
end

section
/-! SUPPORT. Load records that agree with themselves, and the demand queue and the grant list in step with the load states (R87, R88,
R108): the moves that a load can make between states and lists, then what each operation of the blocks makes of them. -/

namespace Sys2Proof.Machine

/-! ## One load's place in a list -/

/-- A list that held a load or not holds it now where `inside` says so, once, and every other load as before. -/
def places (x : LoadIx) (inside : Bool) (l l' : List LoadIx) : Prop :=
  (∀ y, x ≠ y → (y ∈ l' ↔ y ∈ l)) ∧ (l.Nodup → l'.Nodup ∧ (x ∈ l' ↔ inside = true))

theorem places_same {x : LoadIx} {inside : Bool} {l : List LoadIx} (h : x ∈ l ↔ inside = true) : places x inside l l :=
  ⟨fun _ _ => Iff.rfl, fun distinct => ⟨distinct, h⟩⟩

theorem places_erase (x : LoadIx) (l : List LoadIx) : places x false l (l.erase x) :=
  ⟨fun _ h => List.mem_erase_of_ne (Ne.symm h), fun distinct => ⟨distinct.erase x, by simpa using distinct.not_mem_erase⟩⟩

theorem places_consErase (x : LoadIx) (l : List LoadIx) : places x true l (x :: l.erase x) := by
  refine ⟨fun y h => ?_, fun distinct => ⟨List.nodup_cons.mpr ⟨distinct.not_mem_erase, distinct.erase x⟩, by simp⟩⟩
  simp [Ne.symm h, List.mem_erase_of_ne (Ne.symm h)]

theorem places_enqueueBy (cls : LoadIx → ClassIx) {x : LoadIx} {l : List LoadIx} (absent : x ∉ l) :
    places x true l (enqueueBy cls x l) := by
  refine ⟨fun y h => ?_, fun distinct => ⟨nodup_enqueueBy cls x l distinct absent, by simp [mem_enqueueBy]⟩⟩
  simp [mem_enqueueBy, Ne.symm h]

/-! ## The order of the queue (R108) -/

/-- The demand queue is ordered by class. -/
def State.queueOrdered (s : State) : Prop := s.demand.queue.Pairwise fun x y => (s.cfg x).cls ≤ (s.cfg y).cls

/-- Queue entry keeps an ordered queue ordered: behind its class, ahead of every higher one. -/
theorem pairwise_enqueueBy (cls : LoadIx → ClassIx) (x : LoadIx) : ∀ {q : List LoadIx},
    q.Pairwise (fun a b => cls a ≤ cls b) → (enqueueBy cls x q).Pairwise fun a b => cls a ≤ cls b
  | [], _ => List.pairwise_singleton ..
  | y :: q, ordered => by
    obtain ⟨first, rest⟩ := List.pairwise_cons.mp ordered
    by_cases ahead : cls y ≤ cls x
    · have entered : enqueueBy cls x (y :: q) = y :: enqueueBy cls x q := by simp [enqueueBy, ahead]
      refine entered ▸ List.pairwise_cons.mpr ⟨fun z hz => ?_, pairwise_enqueueBy cls x rest⟩
      rcases (mem_enqueueBy cls x z q).mp hz with rfl | old
      · exact ahead
      · exact first z old
    · have entered : enqueueBy cls x (y :: q) = x :: y :: q := by simp [enqueueBy, ahead]
      have behind : cls x ≤ cls y := le_of_not_ge ahead
      refine entered ▸ List.pairwise_cons.mpr ⟨fun z hz => ?_, ordered⟩
      rcases List.mem_cons.mp hz with rfl | old
      · exact behind
      · exact behind.trans (first z old)

/-! ## What a handling keeps of records and lists -/

/-- The load records agree with themselves and with the two lists. -/
def State.loadsSound (s : State) : Prop := s.recordsSound ∧ s.listsSound

/-- What the claims about records and lists speak of. -/
def State.loadView (s : State) : Settings × Participation × Vector LoadRecord 8 × List LoadIx × List LoadIx :=
  (s.settings, s.member.participation, s.loads.records, s.loads.grants, s.demand.queue)

/-- The settings stand, SETUP is not entered, and sound loads and an ordered queue stay so. -/
structure State.keepsLoads (s u : State) : Prop where
  settings : u.settings = s.settings
  started : u.member.participation = .setup → s.member.participation = .setup
  sound : s.loadsSound → u.loadsSound
  ordered : s.queueOrdered → u.queueOrdered

theorem State.load_of_records {s u : State} (h : u.loads.records = s.loads.records) (x : LoadIx) : u.load x = s.load x := by
  rw [State.load, State.load, h]

theorem State.loadsSound_of_same {s u : State} (h : s.loadsSound) (records : u.loads.records = s.loads.records)
    (grants : u.loads.grants = s.loads.grants) (queue : u.demand.queue = s.demand.queue) : u.loadsSound := by
  unfold State.loadsSound State.recordsSound State.listsSound
  simp only [State.load_of_records records, grants, queue]
  exact h

theorem State.queueOrdered_of_same {s u : State} (h : s.queueOrdered) (settings : u.settings = s.settings)
    (queue : u.demand.queue = s.demand.queue) : u.queueOrdered := by
  unfold State.queueOrdered
  simp only [State.cfg, settings, queue]
  exact h

theorem State.queueOrdered.sublist {s u : State} (h : s.queueOrdered) (settings : u.settings = s.settings)
    (queue : u.demand.queue.Sublist s.demand.queue) : u.queueOrdered := by
  unfold State.queueOrdered
  simp only [State.cfg, settings]
  exact List.Pairwise.sublist queue h

/-- One load takes a record and its places in the two lists, and everything else stays. -/
theorem State.loadsSound.move {s u : State} (h : s.loadsSound) {x : LoadIx} {r : LoadRecord}
    (records : u.loads.records = (s.setLoad x r).loads.records) (sound : (s.load x).sound → r.sound)
    (queue : (x ∈ s.demand.queue ↔ (s.load x).state.queued = true) → places x r.state.queued s.demand.queue u.demand.queue)
    (grants : (x ∈ s.loads.grants ↔ (s.load x).state.energized = true) → places x r.state.energized s.loads.grants u.loads.grants) :
    u.loadsSound := by
  obtain ⟨sounds, once, once', listed⟩ := h
  obtain ⟨others, self⟩ := queue (listed x).1
  obtain ⟨others', self'⟩ := grants (listed x).2
  have load (y : LoadIx) : u.load y = if x = y then r else s.load y := (State.load_of_records records y).trans (s.load_setLoad x y r)
  have ⟨once_after, queued⟩ := self once
  have ⟨once_after', energized⟩ := self' once'
  refine ⟨fun y => ?record, once_after, once_after', fun y => ?lists⟩ <;> rw [load y] <;> split
  case record.isTrue => exact sound (sounds x)
  case record.isFalse => exact sounds y
  case lists.isTrue e => exact e ▸ ⟨queued, energized⟩
  case lists.isFalse e => exact ⟨(others y e).trans (listed y).1, (others' y e).trans (listed y).2⟩

namespace State.keepsLoads

variable {s u v : State}

theorem refl (s : State) : s.keepsLoads s := ⟨rfl, id, id, id⟩

theorem trans (h : s.keepsLoads u) (h' : u.keepsLoads v) : s.keepsLoads v :=
  ⟨h'.settings.trans h.settings, h.started ∘ h'.started, h'.sound ∘ h.sound, h'.ordered ∘ h.ordered⟩

/-- An update of other blocks. -/
theorem elsewhere (h : s.keepsLoads u) (same : v.loadView = u.loadView) : s.keepsLoads v := by
  simp only [State.loadView, Prod.mk.injEq] at same
  obtain ⟨settings, participation, records, grants, queue⟩ := same
  exact h.trans ⟨settings, fun setup => participation ▸ setup, fun hu => State.loadsSound_of_same hu records grants queue,
    fun hu => State.queueOrdered_of_same hu settings queue⟩

/-- A change of the participation state but to SETUP. -/
theorem entering (h : s.keepsLoads u) (settings : v.settings = u.settings) (loads : v.loads = u.loads)
    (queue : v.demand.queue = u.demand.queue) (started : v.member.participation ≠ .setup) : s.keepsLoads v :=
  h.trans ⟨settings, fun setup => absurd setup started,
    fun hu => State.loadsSound_of_same hu (by rw [loads]) (by rw [loads]) queue, fun hu => State.queueOrdered_of_same hu settings queue⟩

theorem foldl {α : Type} {f : State → α → State} (hf : ∀ (v : State) (a : α), v.keepsLoads (f v a)) :
    ∀ (l : List α) {u : State}, s.keepsLoads u → s.keepsLoads (l.foldl f u)
  | [], _, h => h
  | a :: l, u, h => foldl hf l (h.trans (hf u a))

end State.keepsLoads

/-! ## The moves of a load -/

section moves

variable {s : State} {x : LoadIx} {r : LoadRecord}

/-- A record alone changes. -/
theorem State.setLoad_keepsLoads (sound : (s.load x).sound → r.sound) (queued : r.state.queued = (s.load x).state.queued)
    (energized : r.state.energized = (s.load x).state.energized) : s.keepsLoads (s.setLoad x r) :=
  ⟨rfl, id, fun h => h.move rfl sound (fun listed => places_same (queued ▸ listed)) fun listed => places_same (energized ▸ listed), id⟩

/-- A load leaves both lists. -/
theorem State.leaveLists_keepsLoads (sound : (s.load x).sound → r.sound) (queued : r.state.queued = false)
    (energized : r.state.energized = false) : s.keepsLoads (((s.setLoad x r).ungrant x).dequeue x) :=
  ⟨rfl, id, fun h => h.move rfl sound (fun _ => queued ▸ places_erase ..) fun _ => energized ▸ places_erase ..,
    fun h => h.sublist rfl List.erase_sublist⟩

/-- A load enters the queue and stays where it was in the grant list. -/
theorem State.setLoad_enqueue_keepsLoads (sound : (s.load x).sound → r.sound) (absent : (s.load x).state.queued = false)
    (queued : r.state.queued = true) (energized : r.state.energized = (s.load x).state.energized) :
    s.keepsLoads ((s.setLoad x r).enqueue x) :=
  ⟨rfl, id,
    fun h => h.move rfl sound (fun listed => queued ▸ places_enqueueBy _ fun present => by simp [listed.mp present] at absent)
      fun listed => places_same (energized ▸ listed),
    fun h => pairwise_enqueueBy (fun y => (s.cfg y).cls) x h⟩

/-- A load leaves the queue and stays where it was in the grant list. -/
theorem State.setLoad_dequeue_keepsLoads (sound : (s.load x).sound → r.sound) (queued : r.state.queued = false)
    (energized : r.state.energized = (s.load x).state.energized) : s.keepsLoads ((s.setLoad x r).dequeue x) :=
  ⟨rfl, id, fun h => h.move rfl sound (fun _ => queued ▸ places_erase ..) fun listed => places_same (energized ▸ listed),
    fun h => h.sublist rfl List.erase_sublist⟩

/-- A load leaves the grant list and stays where it was in the queue. -/
theorem State.setLoad_ungrant_keepsLoads (sound : (s.load x).sound → r.sound) (queued : r.state.queued = (s.load x).state.queued)
    (energized : r.state.energized = false) : s.keepsLoads ((s.setLoad x r).ungrant x) :=
  ⟨rfl, id, fun h => h.move rfl sound (fun listed => places_same (queued ▸ listed)) fun _ => energized ▸ places_erase .., id⟩

/-- A load goes from the queue to the front of the grant list. -/
theorem State.setLoad_grant_keepsLoads (sound : (s.load x).sound → r.sound) (queued : r.state.queued = false)
    (energized : r.state.energized = true) : s.keepsLoads (((s.setLoad x r).dequeue x).grantFirst x) :=
  ⟨rfl, id, fun h => h.move rfl sound (fun _ => queued ▸ places_erase ..) fun _ => energized ▸ places_consErase ..,
    fun h => h.sublist rfl List.erase_sublist⟩

end moves

end Sys2Proof.Machine
end

section
/-! SUPPORT. What each operation of the blocks makes of the load records and the two lists (R87, R88, R92 to R104, R108, R133). -/

namespace Sys2Proof.Machine

/-! ## Records that stay sound -/

/-- A load that leaves every list: nothing of its state is left but a fault's cause. -/
theorem LoadRecord.sound.leave {r : LoadRecord} (h : r.sound) {l : LoadState} (target : l = .fault ∨ l = .off ∧ r.state ≠ .fault) :
    { r with state := l, ramp := none }.sound := by
  obtain ⟨-, -, -, -, cause⟩ := h
  rcases target with rfl | ⟨rfl, not_fault⟩
  · simp [LoadRecord.sound]
  · have no_cause : r.cause = .none := by
      by_contra some_cause
      exact not_fault (cause some_cause)
    simp [LoadRecord.sound, no_cause]

/-- A load in a state that is neither OFF nor FAULT is not inhibited and has no fault cause. -/
theorem LoadRecord.sound.active {r : LoadRecord} (h : r.sound) (off : r.state ≠ .off) (fault : r.state ≠ .fault) :
    r.inhibited = false ∧ r.cause = .none := by
  obtain ⟨inhibited, -, -, -, cause⟩ := h
  refine ⟨?_, ?_⟩
  · by_contra flag
    rcases inhibited (by simpa using flag) with e | e
    · exact off e
    · exact fault e
  · by_contra some_cause
    exact fault (cause some_cause)

/-- A load that is neither inhibited nor faulted is sound in a state whose wish fits, with the ramp timer of RAMPING alone. -/
theorem LoadRecord.sound_of_active {r : LoadRecord} (flags : r.inhibited = false ∧ r.cause = .none)
    (keep : r.state = .keep → r.wish = .keep) (raise : r.state = .raiseWait ∨ r.state = .raiseClaim → r.wish = .full)
    (ramp : r.ramp.isSome = true → r.state = .ramping) : r.sound := by
  obtain ⟨inhibited, cause⟩ := flags
  exact ⟨by simp [inhibited], keep, raise, ramp, by simp [cause]⟩

theorem State.setLoad_setLoad (s : State) (x : LoadIx) (r r' : LoadRecord) : (s.setLoad x r).setLoad x r' = s.setLoad x r' := by
  simp [State.setLoad]

theorem State.setLoad_load (s : State) (x : LoadIx) : s.setLoad x (s.load x) = s := by
  simp [State.setLoad, State.load]

theorem State.setLoadState_setLoad (s : State) (x : LoadIx) (r : LoadRecord) (l : LoadState) :
    (s.setLoad x r).setLoadState x l = s.setLoad x { r with state := l } := by
  rw [State.setLoadState, State.load_setLoad_self, State.setLoad_setLoad]

theorem State.freeUnits_loadView (s : State) (k : ClassIx) (n : Nat) : (s.freeUnits k n).loadView = s.loadView := by
  simp [State.loadView, State.freeUnits_demand]

theorem State.endClaim_loadView (s : State) (x : LoadIx) : (s.endClaim x).loadView = s.loadView := by
  have queue : (s.endClaim x).demand.queue = s.demand.queue := by
    unfold State.endClaim
    (repeat' split) <;> simp [State.setSlot]
  simp [State.loadView, queue]

/-- As far as records and lists see it, a dropped load leaves both lists. -/
theorem State.dropLoad_loadView (s : State) (x : LoadIx) (l : LoadState) :
    (s.dropLoad x l).loadView = (((s.setLoad x { s.load x with state := l, ramp := none }).ungrant x).dequeue x).loadView := by
  unfold State.dropLoad
  dsimp only
  rw [State.freeUnits_loadView]
  split
  · rw [State.endClaim_loadView]
  · rfl

/-! ## Loads -/

namespace State.keepsLoads

variable {s u v : State}

/-- A record alone changes, in a sound way. -/
theorem setLoad (h : s.keepsLoads u) {x : LoadIx} {r : LoadRecord} (sound : (u.load x).sound → r.sound)
    (queued : r.state.queued = (u.load x).state.queued) (energized : r.state.energized = (u.load x).state.energized) :
    s.keepsLoads (u.setLoad x r) :=
  h.trans (State.setLoad_keepsLoads sound queued energized)

theorem post (h : s.keepsLoads u) (c : EventCode) (a : Byte) : s.keepsLoads (u.post c a) := h.elsewhere (by simp [State.loadView])

/-- A load dropped with its other fields changed before: inhibited, or no longer wanted. -/
theorem dropLoad_setLoad (h : s.keepsLoads u) {x : LoadIx} {r : LoadRecord} {l : LoadState}
    (sound : (u.load x).sound → { r with state := l, ramp := none }.sound) (target : l.queued = false ∧ l.energized = false) :
    s.keepsLoads ((u.setLoad x r).dropLoad x l) := by
  refine (h.trans (State.leaveLists_keepsLoads (s := u) sound target.1 target.2)).elsewhere ?_
  rw [State.dropLoad_loadView, State.load_setLoad_self, State.setLoad_setLoad]

theorem dropLoad (h : s.keepsLoads u) {x : LoadIx} {l : LoadState} (target : l = .fault ∨ l = .off ∧ (u.load x).state ≠ .fault) :
    s.keepsLoads (u.dropLoad x l) := by
  have dropped := h.dropLoad_setLoad (x := x) (r := u.load x) (l := l) (fun hu => hu.leave target)
    (by rcases target with rfl | ⟨rfl, -⟩ <;> exact ⟨rfl, rfl⟩)
  rwa [State.setLoad_load] at dropped

theorem turnOff (h : s.keepsLoads u) (x : LoadIx) : s.keepsLoads (u.turnOff x) := by
  unfold State.turnOff
  split
  · exact h
  · exact h
  next not_fault => exact h.dropLoad (.inr ⟨rfl, not_fault⟩)

theorem faultLoad (h : s.keepsLoads u) (x : LoadIx) (c : FaultCause) : s.keepsLoads (u.faultLoad x c) := by
  have dropped : (u.dropLoad x .fault).load x = { u.load x with state := .fault, ramp := none } := by
    rw [State.load, State.dropLoad_loads]
    exact u.load_setLoad_self x _
  refine ((h.dropLoad (.inl rfl)).setLoad (fun hr => ?_) ?_ ?_).post _ _ <;> rw [dropped] at *
  obtain ⟨inhibited, keep, raise, ramp, -⟩ := hr
  exact ⟨inhibited, keep, raise, ramp, fun _ => rfl⟩

/-- A load of OFF goes to WAITING at the back of its class (R94). -/
theorem enterQueue (h : s.keepsLoads u) (x : LoadIx) : s.keepsLoads (u.enterQueue x) := by
  unfold State.enterQueue
  split
  next enters =>
    obtain ⟨off, -, permitted⟩ := enters
    refine h.trans (State.setLoad_enqueue_keepsLoads (fun hr => ?_) (by rw [off]; rfl) rfl (by rw [off]; rfl))
    obtain ⟨-, -, -, ramp, cause⟩ := hr
    refine LoadRecord.sound_of_active ⟨permitted, ?_⟩ nofun nofun fun running => by simp [ramp running] at off
    by_contra some_cause
    simp [cause some_cause] at off
  · exact h

/-- The ramp stopped, full − keep freed (R95): with the wish KEEP. -/
theorem lowerToKeep (h : s.keepsLoads u) {x : LoadIx} (wish : (u.load x).wish = .keep) : s.keepsLoads (u.lowerToKeep x) := by
  unfold State.lowerToKeep
  dsimp only
  split
  next lowers =>
    obtain ⟨high, -⟩ := lowers
    refine (h.setLoad (fun hr => ?_) ?_ ?_).elsewhere (State.freeUnits_loadView ..)
    · refine LoadRecord.sound_of_active (r := { u.load x with state := .keep, ramp := none }) (hr.active ?_ ?_) (fun _ => wish) nofun nofun
      all_goals rcases high with e | e <;> simp [e]
    all_goals rcases high with e | e <;> rw [e] <;> rfl
  · exact h

/-- A load of KEEP with the wish FULL goes to RAISE_WAIT at the back of its class (R96). -/
theorem raiseFromKeep (h : s.keepsLoads u) {x : LoadIx} (wish : (u.load x).wish = .full) : s.keepsLoads (u.raiseFromKeep x) := by
  unfold State.raiseFromKeep
  split
  next keep =>
    refine h.trans (State.setLoad_enqueue_keepsLoads (fun hr => ?_) (by rw [keep]; rfl) rfl (by rw [keep]; rfl))
    obtain ⟨-, -, -, ramp, -⟩ := id hr
    exact LoadRecord.sound_of_active (r := { u.load x with state := .raiseWait }) (hr.active (by simp [keep]) (by simp [keep])) nofun
      (fun _ => wish) fun running => by simp [ramp running] at keep
  · exact h

theorem wishKeep (h : s.keepsLoads u) (x : LoadIx) : s.keepsLoads (u.wishKeep x) := by
  have self (r : LoadRecord) : (u.setLoad x r).load x = r := u.load_setLoad_self x r
  have wished (not_raising : (u.load x).state ≠ .raiseWait ∧ (u.load x).state ≠ .raiseClaim) :
      s.keepsLoads (u.setLoad x { u.load x with wish := .keep }) := by
    refine h.setLoad (fun hr => ?_) rfl rfl
    obtain ⟨inhibited, -, -, ramp, cause⟩ := hr
    exact ⟨inhibited, fun _ => rfl, fun raising => absurd raising (not_or.mpr not_raising), ramp, cause⟩
  have lowered (raising : (u.load x).state = .raiseWait ∨ (u.load x).state = .raiseClaim) :
      s.keepsLoads (((u.setLoad x { u.load x with wish := .keep }).setLoadState x .keep).dequeue x) := by
    rw [State.setLoadState_setLoad]
    refine h.trans (State.setLoad_dequeue_keepsLoads (fun hr => ?_) rfl ?_)
    · obtain ⟨-, -, -, ramp, -⟩ := id hr
      refine LoadRecord.sound_of_active (r := { u.load x with wish := .keep, state := .keep }) (hr.active ?_ ?_) (fun _ => rfl) nofun
        fun running => ?_
      all_goals rcases raising with e | e <;> simp [e]
      all_goals simp [ramp running] at e
    · rcases raising with e | e <;> rw [e] <;> rfl
  unfold State.wishKeep
  dsimp only
  rw [self]
  split
  · exact h
  · split
    next ramping => exact (wished (by rw [show (u.load x).state = _ from ramping]; exact ⟨nofun, nofun⟩)).lowerToKeep (by rw [self])
    next on => exact (wished (by rw [show (u.load x).state = _ from on]; exact ⟨nofun, nofun⟩)).lowerToKeep (by rw [self])
    next waits => exact lowered (.inl waits)
    next claims => exact (lowered (.inr claims)).elsewhere (State.endClaim_loadView ..)
    next not_waiting not_claiming => exact wished ⟨not_waiting, not_claiming⟩

theorem wishFull (h : s.keepsLoads u) (x : LoadIx) : s.keepsLoads (u.wishFull x) := by
  have self (r : LoadRecord) : (u.setLoad x r).load x = r := u.load_setLoad_self x r
  unfold State.wishFull State.raiseFromKeep
  rw [self]
  split
  · exact h
  · split
    next keep =>
      replace keep : (u.load x).state = .keep := keep
      rw [State.setLoadState_setLoad]
      refine h.trans (State.setLoad_enqueue_keepsLoads (fun hr => ?_) (by rw [keep]; rfl) rfl (by rw [keep]; rfl))
      obtain ⟨-, -, -, ramp, -⟩ := id hr
      exact LoadRecord.sound_of_active (r := { u.load x with wish := .full, state := .raiseWait })
        (hr.active (by simp [keep]) (by simp [keep])) nofun (fun _ => rfl) fun running => by simp [ramp running] at keep
    next not_keep =>
      refine h.setLoad (fun hr => ?_) rfl rfl
      obtain ⟨inhibited, -, -, ramp, cause⟩ := hr
      exact ⟨inhibited, fun keep => absurd keep not_keep, fun _ => rfl, ramp, cause⟩

theorem wishLevel (h : s.keepsLoads u) (x : LoadIx) (l : Level) : s.keepsLoads (u.wishLevel x l) := by
  cases l with
  | full => exact h.wishFull x
  | keep => exact h.wishKeep x

theorem wantLoad (h : s.keepsLoads u) (x : LoadIx) : s.keepsLoads (u.wantLoad x) := by
  unfold State.wantLoad
  dsimp only
  split
  · exact h.wishFull x
  · refine State.keepsLoads.enterQueue ?_ x
    exact (h.wishFull x).setLoad id rfl rfl

theorem unwantLoad (h : s.keepsLoads u) (x : LoadIx) : s.keepsLoads (u.unwantLoad x) := by
  unfold State.unwantLoad
  split
  · refine State.keepsLoads.turnOff ?_ x
    exact h.setLoad id rfl rfl
  · exact h

/-- The flag and the load's leaving are one move: between the two the record of a load that is on does not agree with itself (R103). -/
theorem inhibitLoad (h : s.keepsLoads u) (x : LoadIx) : s.keepsLoads (u.inhibitLoad x) := by
  have flagged (off : (u.load x).state = .off ∨ (u.load x).state = .fault) :
      s.keepsLoads (u.setLoad x { u.load x with inhibited := true }) := by
    refine h.setLoad (fun hr => ?_) rfl rfl
    obtain ⟨-, keep, raise, ramp, cause⟩ := hr
    exact ⟨fun _ => off, keep, raise, ramp, cause⟩
  unfold State.inhibitLoad State.turnOff
  rw [u.load_setLoad_self x]
  split
  · exact h
  · split
    next off => exact flagged (.inl off)
    next fault => exact flagged (.inr fault)
    next not_fault =>
      refine h.dropLoad_setLoad (fun hr => ?_) ⟨rfl, rfl⟩
      obtain ⟨-, keep, raise, ramp, cause⟩ := hr.leave (.inr ⟨rfl, not_fault⟩)
      exact ⟨fun _ => .inl rfl, keep, raise, ramp, cause⟩

theorem permitLoad (h : s.keepsLoads u) (x : LoadIx) : s.keepsLoads (u.permitLoad x) := by
  unfold State.permitLoad
  split
  · refine State.keepsLoads.enterQueue ?_ x
    refine h.setLoad (fun hr => ?_) rfl rfl
    obtain ⟨-, keep, raise, ramp, cause⟩ := hr
    exact ⟨nofun, keep, raise, ramp, cause⟩
  · exact h

theorem clearFaultLoad (h : s.keepsLoads u) {x : LoadIx} (fault : (u.load x).state = .fault) : s.keepsLoads (u.clearFaultLoad x) := by
  refine (h.setLoad (fun hr => ?_) (by rw [fault]; rfl) (by rw [fault]; rfl)).enterQueue x
  obtain ⟨-, -, -, ramp, -⟩ := hr
  exact ⟨fun _ => .inl rfl, nofun, nofun, fun running => by simp [ramp running] at fault, fun h => absurd rfl h⟩

theorem grantLoad (h : s.keepsLoads u) (x : LoadIx) : s.keepsLoads (u.grantLoad x) := by
  unfold State.grantLoad
  dsimp only
  split
  next claims =>
    have ramping : s.keepsLoads (((u.setLoad x
        { u.load x with state := .ramping, ramp := some (durationMs (u.cfg x).ramp) }).dequeue x).grantFirst x) :=
      h.trans (State.setLoad_grant_keepsLoads (fun hr => LoadRecord.sound_of_active
        (r := { u.load x with state := .ramping, ramp := some (durationMs (u.cfg x).ramp) })
        (hr.active (fun e => by simp [e, LoadState.claims] at claims) fun e => by simp [e, LoadState.claims] at claims)
        nofun nofun fun _ => rfl) rfl rfl)
    split
    next wish => exact ramping.lowerToKeep wish
    next => exact ramping
  · exact h

theorem endRamp (h : s.keepsLoads u) {x : LoadIx} (ramping : (u.load x).state = .ramping) : s.keepsLoads (u.endRamp x) := by
  unfold State.endRamp
  split
  · exact h.faultLoad x .ramp
  · refine (h.setLoad (fun hr => ?_) (by rw [ramping]; rfl) (by rw [ramping]; rfl)).post _ _
    exact LoadRecord.sound_of_active (r := { u.load x with state := .on, ramp := none })
      (hr.active (by simp [ramping]) (by simp [ramping])) nofun nofun nofun

/-! ### Every load off -/

theorem disconnectLoad (h : s.keepsLoads u) (x : LoadIx) : s.keepsLoads (u.disconnectLoad x) := by
  have off (output : (u.load x).state = .ramping ∨ (u.load x).state = .on ∨ (u.load x).state = .keep) :
      s.keepsLoads (((u.setLoad x { u.load x with state := .off, ramp := none }).ungrant x).enterQueue x) := by
    refine (h.trans (State.setLoad_ungrant_keepsLoads (fun hr => hr.leave (.inr ⟨rfl, ?_⟩)) ?_ rfl)).enterQueue x
    all_goals rcases output with e | e | e <;> simp [e, LoadState.queued]
  have waits (active : (u.load x).state ≠ .off ∧ (u.load x).state ≠ .fault ∧ (u.load x).state ≠ .ramping)
      (hr : (u.load x).sound) : { u.load x with state := .waiting }.sound := by
    obtain ⟨not_off, not_fault, not_ramping⟩ := active
    obtain ⟨-, -, -, ramp, -⟩ := id hr
    exact LoadRecord.sound_of_active (r := { u.load x with state := .waiting }) (hr.active not_off not_fault) nofun nofun
      fun running => absurd (ramp running) not_ramping
  unfold State.disconnectLoad
  split
  next e => exact off (.inl e)
  next e => exact off (.inr (.inl e))
  next e => exact off (.inr (.inr e))
  next e => exact h.trans (State.setLoad_ungrant_keepsLoads (waits (by simp [e])) (by rw [e]; rfl) rfl)
  next e => exact h.trans (State.setLoad_ungrant_keepsLoads (waits (by simp [e])) (by rw [e]; rfl) rfl)
  next e => exact h.setLoad (waits (by simp [e])) (by rw [e]; rfl) (by rw [e]; rfl)
  all_goals exact h

theorem disconnectAll (h : s.keepsLoads u) : s.keepsLoads u.disconnectAll := foldl (fun v x => (refl v).disconnectLoad x) _ h

/-! ### Shedding (R133, R134) -/

end State.keepsLoads

theorem State.load_of_loadView {v w : State} (same : v.loadView = w.loadView) (x : LoadIx) : v.load x = w.load x := by
  simp only [State.loadView, Prod.mk.injEq] at same
  obtain ⟨-, -, records, -, -⟩ := same
  exact State.load_of_records records x

/-- The return to the queue sees of a state what the claims about records and lists see. -/
theorem State.raiseFromKeep_loadView_congr {v w : State} (same : v.loadView = w.loadView) (x : LoadIx) :
    (v.raiseFromKeep x).loadView = (w.raiseFromKeep x).loadView := by
  have record := State.load_of_loadView same x
  simp only [State.loadView, Prod.mk.injEq] at same
  unfold State.raiseFromKeep
  rw [record]
  split <;> simp [State.loadView, State.setLoadState, State.setLoad, State.cfg, record, same]

namespace State.keepsLoads

variable {s u v : State}

/-- With the wish FULL the drop to KEEP and the return to the queue are one move. -/
theorem shedToKeep (h : s.keepsLoads u) (x : LoadIx) : s.keepsLoads (u.shedToKeep x) := by
  have posted (v : State) : (v.post .shed (argOf x.val)).loadView = v.loadView := by simp [State.loadView]
  unfold State.shedToKeep
  dsimp only
  rw [State.load_of_loadView (posted _) x]
  by_cases lowers : ((u.load x).state = .ramping ∨ (u.load x).state = .on) ∧ 0 < (u.cfg x).keep.toNat
  · have lowered : (u.lowerToKeep x).loadView = (u.setLoad x { u.load x with state := .keep, ramp := none }).loadView := by
      unfold State.lowerToKeep
      dsimp only
      rw [if_pos lowers, State.freeUnits_loadView]
    rw [State.load_of_loadView lowered, State.load_setLoad_self]
    split
    next full =>
      have raised : s.keepsLoads ((u.setLoad x { u.load x with state := .raiseWait, ramp := none }).enqueue x) := by
        obtain ⟨high, -⟩ := lowers
        refine h.trans (State.setLoad_enqueue_keepsLoads (fun hr => ?_) ?_ rfl ?_)
        · refine LoadRecord.sound_of_active (r := { u.load x with state := .raiseWait, ramp := none }) (hr.active ?_ ?_) nofun
            (fun _ => full) nofun
          all_goals rcases high with e | e <;> simp [e]
        all_goals rcases high with e | e <;> rw [e] <;> rfl
      refine raised.elsewhere ((State.raiseFromKeep_loadView_congr ((posted _).trans lowered) x).trans ?_)
      rw [State.raiseFromKeep, State.load_setLoad_self, if_pos rfl, State.setLoadState_setLoad]
    next not_full =>
      have keep : (u.load x).wish = .keep := by
        cases e : (u.load x).wish with
        | full => exact absurd e not_full
        | keep => rfl
      exact (h.lowerToKeep keep).post _ _
  · have stays : u.lowerToKeep x = u := if_neg lowers
    rw [stays]
    split
    next full => exact (h.post _ _).raiseFromKeep (by rw [State.load_of_loadView (posted u) x]; exact full)
    next => exact h.post _ _

theorem shedOff (h : s.keepsLoads u) {x : LoadIx} (output : (u.load x).state.energized = true) : s.keepsLoads (u.shedOff x) := by
  have not_fault : (u.load x).state ≠ .fault := fun e => by rw [e] at output; cases output
  exact ((h.dropLoad (.inr ⟨rfl, not_fault⟩)).post _ _).enterQueue x

theorem shedKeeps (k : ClassIx) (n : Nat) : ∀ (l : List LoadIx) {u : State}, s.keepsLoads u → s.keepsLoads (shedKeeps k n l u)
  | [], _, h => h
  | x :: xs, u, h => by
    unfold Machine.shedKeeps
    (repeat' split)
    · exact h
    · exact shedKeeps k n xs (h.shedToKeep x)
    · exact shedKeeps k n xs h

theorem shedOffs (k : ClassIx) (n : Nat) : ∀ (l : List LoadIx) {u : State}, s.keepsLoads u → s.keepsLoads (shedOffs k n l u)
  | [], _, h => h
  | x :: xs, u, h => by
    unfold Machine.shedOffs
    (repeat' split)
    · exact h
    next output => exact shedOffs k n xs (h.shedOff (Bool.and_eq_true_iff.mp output).2)
    · exact shedOffs k n xs h

theorem shedClass (h : s.keepsLoads u) (k : ClassIx) (n : Nat) : s.keepsLoads (u.shedClass k n) := shedOffs k n _ (shedKeeps k n _ h)

theorem shedIfOverCap (h : s.keepsLoads u) : s.keepsLoads u.shedIfOverCap := by
  unfold State.shedIfOverCap
  split
  · refine h.trans (foldl (fun v k => ?_) _ (refl u))
    dsimp only
    split
    · exact (refl v).shedClass k _
    · exact refl v
  · exact h

/-! ### The claim slot and the end of a handling -/

/-- A load moves between two queued states, both with the output on or both with it off. -/
theorem requeue (h : s.keepsLoads u) {x : LoadIx} {l : LoadState} (was : (u.load x).state.queued = true) (queued : l.queued = true)
    (energized : l.energized = (u.load x).state.energized) : s.keepsLoads (u.setLoadState x l) := by
  have other {l' : LoadState} (idle : l'.queued = false) : (u.load x).state ≠ l' := fun e => by simp [e, idle] at was
  refine h.setLoad (fun hr => ?_) (queued.trans was.symm) energized
  obtain ⟨-, -, raise, ramp, -⟩ := id hr
  refine LoadRecord.sound_of_active (r := { u.load x with state := l }) (hr.active (other rfl) (other rfl)) (fun e => ?keep)
    (fun raising => raise ?raise) fun running => absurd (ramp running) (other rfl)
  case keep =>
    rw [show l = .keep from e] at queued
    cases queued
  case raise =>
    have output : (u.load x).state.energized = true := by
      rw [← energized]
      rcases raising with e | e <;> rw [show l = _ from e] <;> rfl
    generalize (u.load x).state = l' at was output
    cases l' with
    | raiseWait => exact .inl rfl
    | raiseClaim => exact .inr rfl
    | off | fault | ramping | on | keep => cases was
    | waiting | claiming => cases output

theorem setSlot (h : s.keepsLoads u) (c : Option ClaimSlot) : s.keepsLoads (u.setSlot c) := h.elsewhere rfl

theorem returnLoad (h : s.keepsLoads u) (x : LoadIx) : s.keepsLoads (u.returnLoad x) := by
  unfold State.returnLoad
  split
  next e => exact h.requeue (by rw [e]; rfl) rfl (by rw [e]; rfl)
  next e => exact h.requeue (by rw [e]; rfl) rfl (by rw [e]; rfl)
  next => exact h

theorem emptySlot (h : s.keepsLoads u) : s.keepsLoads u.emptySlot := by
  unfold State.emptySlot
  split
  · refine State.keepsLoads.setSlot ?_ none
    split
    · exact h
    · exact h.returnLoad _
  · exact h

theorem send (h : s.keepsLoads u) (k : FrameKind) : s.keepsLoads (u.send k) := h.elsewhere (by simp [State.loadView])

theorem dropItem (h : s.keepsLoads u) (k : FrameKind) : s.keepsLoads (u.dropItem k) := h.elsewhere rfl

theorem withdrawItem (h : s.keepsLoads u) (k : FrameKind) : s.keepsLoads (u.withdrawItem k) := h.elsewhere (by simp [State.loadView])

theorem setLine (h : s.keepsLoads u) (l : Line) : s.keepsLoads (u.setLine l) := h.elsewhere rfl

theorem fillSlot (h : s.keepsLoads u) (x : LoadIx) : s.keepsLoads (u.fillSlot x) := by
  unfold State.fillSlot
  dsimp only
  refine (State.keepsLoads.setSlot ?_ _).send .claim
  split
  next e => exact h.requeue (by rw [e]; rfl) rfl (by rw [e]; rfl)
  next e => exact h.requeue (by rw [e]; rfl) rfl (by rw [e]; rfl)
  next => exact h

theorem compose (h : s.keepsLoads u) : s.keepsLoads u.compose := by
  rcases u.compose_cases with ⟨b, e⟩ | ⟨x, -, -, -, -, e⟩
  · exact e ▸ h.elsewhere (by rfl)
  · exact e ▸ State.keepsLoads.fillSlot (h.elsewhere (by rfl)) x

theorem settle (h : s.keepsLoads u) : s.keepsLoads u.settle := h.compose.elsewhere (by simp [State.loadView, State.settle])

end State.keepsLoads
end Sys2Proof.Machine
end

section
/-! SUPPORT. Load records and lists through the Group Unit, the Membership Controller and the ends of frames (R53, R63 to
R69, R83, R114 to R119, R149). -/

namespace Sys2Proof.Machine

namespace State.keepsLoads

variable {s u v : State}

/-- A new participation state other than SETUP. -/
theorem setParticipation (h : s.keepsLoads u) {p : Participation} (started : p ≠ .setup) : s.keepsLoads (u.setParticipation p) :=
  h.entering rfl rfl rfl started

theorem postPhase (h : s.keepsLoads u) : s.keepsLoads u.postPhase := h.post _ _

theorem sendSeek (h : s.keepsLoads u) : s.keepsLoads u.sendSeek := h.elsewhere (by simp [State.loadView])

theorem freezeClaim (h : s.keepsLoads u) : s.keepsLoads u.freezeClaim := by
  unfold State.freezeClaim
  (repeat' split)
  · exact h
  · exact h.emptySlot.withdrawItem .claim
  · exact h

/-! ## Group codes -/

theorem act (h : s.keepsLoads u) (x : LoadIx) (a : Action) : s.keepsLoads (u.act x a) := by
  cases a with
  | inhibit => exact h.inhibitLoad x
  | keep => exact h.wishKeep x
  | withdraw =>
    change s.keepsLoads (if (u.cfg x).source = .soft then u.unwantLoad x else u)
    split
    · exact h.unwantLoad x
    · exact h
  | permit => exact h.permitLoad x
  | request =>
    change s.keepsLoads (if (u.cfg x).source = .soft then u.wantLoad x else u)
    split
    · exact h.wantLoad x
    · exact h

theorem applyCode (h : s.keepsLoads u) (c : Byte) : s.keepsLoads (u.applyCode c) := by
  unfold State.applyCode
  split
  · refine foldl (fun v x => ?_) _ (h.post .groupMatched c)
    unfold State.actOn
    split
    · exact (refl v).act x _
    · exact refl v
  · exact h

/-! ## Membership -/

theorem enterSeeking (h : s.keepsLoads u) (c : StepCause) : s.keepsLoads (u.enterSeeking c) := by
  have emptied := h.emptySlot
  refine emptied.entering (by simp) ?_ ?_ (by simp [Membership.cleared])
  · simp [State.enterSeeking]
  · simp [State.enterSeeking, State.reopenAccount]

theorem enterDetached (h : s.keepsLoads u) : s.keepsLoads u.enterDetached := by
  refine h.disconnectAll.entering (by simp) ?_ ?_ (by simp [Membership.cleared])
  · simp [State.enterDetached]
  · simp [State.enterDetached, State.clearAccount]

theorem outOfStep (h : s.keepsLoads u) (c : StepCause) : s.keepsLoads (u.outOfStep c) := by
  unfold State.outOfStep
  split
  · exact h.enterSeeking c
  · exact h.enterSeeking c
  · exact h.enterDetached
  all_goals exact h

theorem selfEvict (h : s.keepsLoads u) : s.keepsLoads u.selfEvict := by
  refine h.disconnectAll.entering (by simp) ?_ ?_ (by simp)
  · simp [State.selfEvict]
  · simp [State.selfEvict, State.clearAccount, State.setSlot]

theorem reachActive (h : s.keepsLoads u) : s.keepsLoads u.reachActive :=
  h.elsewhere (by simp [State.loadView, State.reachActive, State.setBlocked])

theorem joined (h : s.keepsLoads u) : s.keepsLoads u.joined := (h.setParticipation (p := .active) nofun).postPhase.reachActive

theorem found (h : s.keepsLoads u) : s.keepsLoads u.found := by
  unfold State.found
  refine State.keepsLoads.reachActive (State.keepsLoads.postPhase (State.keepsLoads.shedIfOverCap ?_))
  exact h.entering (by simp) (by simp) (by simp [State.clearAccount]) (by simp)

theorem reconcile (h : s.keepsLoads u) : s.keepsLoads u.reconcile := by
  unfold State.reconcile
  split
  · have classes : s.keepsLoads (allClasses.foldl State.reconcileClass u) :=
      foldl (fun v k => ((refl v).shedClass k _).elsewhere (by rfl)) _ h
    exact (State.keepsLoads.elsewhere (classes.setParticipation (p := .active) nofun) (by simp [State.loadView])).postPhase.reachActive
  · refine h.disconnectAll.entering (by simp) ?_ ?_ ?_
    all_goals
      unfold State.reconcileAbsent
      dsimp only
      split <;> simp [State.clearAccount]

/-- Installation sheds and reconciles; the replay itself moves no load (R63). -/
theorem install (h : s.keepsLoads u) (header : ImageHeader) (t : Table) (rs : List Replayed) :
    s.keepsLoads (u.install header t rs) := by
  unfold State.install
  refine State.keepsLoads.reconcile (State.keepsLoads.shedIfOverCap (h.elsewhere ?_))
  simp [State.loadView, Membership.foundOrInstalled, Membership.cleared]

theorem abandon (h : s.keepsLoads u) (c : AbandonCause) : s.keepsLoads (u.abandon c) :=
  h.elsewhere (by simp [State.loadView, State.abandon_member])

theorem collect (h : s.keepsLoads u) (q : Station) (seg : Segment) : s.keepsLoads (u.collect q seg) := by
  unfold State.collect State.storeSegment State.startCollection State.finishCollection
  dsimp only
  (repeat' split)
  · exact h.abandon .order
  · exact h.install _ _ _
  · exact h.abandon .replay
  · exact h.abandon .check
  · exact h.elsewhere rfl
  · exact h.abandon .order
  · exact h
  · exact h.elsewhere rfl
  · exact h
  · exact h

theorem record (h : s.keepsLoads u) (r : ChangeRecord) : s.keepsLoads (u.record r) := by
  unfold State.record
  (repeat' split)
  · exact h
  · exact h.elsewhere rfl
  · exact h.elsewhere rfl
  · exact h.abandon .overflow

theorem startNode (h : s.keepsLoads u) : s.keepsLoads u.startNode := by
  have want (v : State) (x : LoadIx) : v.keepsLoads (v.wantAsserted x) := by
    unfold State.wantAsserted
    split
    · exact (refl v).wantLoad x
    · exact refl v
  have seeking : s.keepsLoads { (u.setLine .integrating).startLease with member := .cleared .seeking } :=
    h.entering rfl rfl rfl nofun
  have wanted := foldl want allLoads seeking.sendSeek
  exact (wanted.elsewhere (v := State.askLimit _) (by simp [State.loadView])).postPhase

theorem enterLeaving (h : s.keepsLoads u) : s.keepsLoads u.enterLeaving := by
  have accounted : s.keepsLoads u.accountOccupied := h.elsewhere (by rfl)
  have left {v : State} (hv : s.keepsLoads v) : s.keepsLoads ((v.disconnectAll.setParticipation .leaving).send .leave).postPhase :=
    ((hv.disconnectAll.setParticipation (p := .leaving) nofun).send .leave).postPhase
  unfold State.enterLeaving
  dsimp only
  split
  · exact left (accounted.elsewhere (State.endClaim_loadView ..))
  · exact left accounted

/-! ## Ends of frames -/

theorem claimGranted (h : s.keepsLoads u) (k : ClassIx) (n : Nat) (tag : LoadIx) : s.keepsLoads (u.claimGranted k n tag) := by
  unfold State.claimGranted
  (repeat' split)
  · exact (h.setSlot none).elsewhere (State.freeUnits_loadView ..)
  · exact ((h.post _ _).grantLoad _).setSlot none
  · exact h

theorem claimDenied (h : s.keepsLoads u) (tag : LoadIx) : s.keepsLoads (u.claimDenied tag) := by
  have returned (x : LoadIx) : s.keepsLoads (((u.returnLoad x).post .denied (argOf tag.val)).setSlot none) :=
    ((h.returnLoad x).post _ _).setSlot none
  unfold State.claimDenied
  dsimp only
  (repeat' split)
  · exact h.setSlot none
  · exact (returned _).elsewhere (by rfl)
  · exact returned _
  · exact h

theorem handRemoval (h : s.keepsLoads u) (q : Station) (byEvict : Bool) : s.keepsLoads (u.handRemoval q byEvict) := by
  have removed : s.keepsLoads (u.memberRemoved q) := h.elsewhere (by simp [State.loadView])
  unfold State.handRemoval
  dsimp only
  (repeat' split)
  · exact removed.selfEvict
  · exact removed.enterDetached
  · exact removed
  · exact removed

theorem handOff (h : s.keepsLoads u) (before : Table) (q : Station) (c : Change) : s.keepsLoads (u.handOff before q c) := by
  cases c with
  | cap w => exact State.keepsLoads.shedIfOverCap (h.elsewhere (by simp [State.loadView]))
  | evict target =>
    unfold State.handOff
    dsimp only
    split
    · exact h.handRemoval _ true
    · exact h
  | release a => exact h
  | leave =>
    unfold State.handOff
    dsimp only
    split <;> split
    · exact (h.handRemoval _ false).enterDetached
    · exact h.handRemoval _ false
    · exact h.enterDetached
    · exact h
  | join =>
    unfold State.handOff
    dsimp only
    split <;> split
    · exact State.keepsLoads.joined (h.elsewhere (by rfl))
    · exact h.elsewhere (by rfl)
    · exact h.joined
    · exact h
  | freeze d =>
    have frozen : s.keepsLoads (u.freezeApplied d) := h.elsewhere (by simp [State.loadView])
    unfold State.handOff
    dsimp only
    split
    · exact frozen
    · exact frozen.freezeClaim
  | thaw =>
    unfold State.handOff
    dsimp only
    split
    · exact h.elsewhere (by simp [State.loadView, State.setBlocked])
    · exact h
  | claim k n tag =>
    unfold State.handOff
    dsimp only
    (repeat' split)
    · exact h.claimGranted k _ tag
    · exact h.claimDenied tag
    · exact h

theorem applyFrame (h : s.keepsLoads u) (q : Station) (c : Change) : s.keepsLoads (u.applyFrame q c) := by
  have events : s.keepsLoads ({ u with table := u.table.apply q c }.postTableEvents u.table q c) := h.elsewhere (by simp [State.loadView])
  have handed := events.handOff u.table q c
  unfold State.applyFrame
  dsimp only
  split
  · exact handed.elsewhere (by rfl)
  · exact handed

theorem afterCap (h : s.keepsLoads u) (c : Change) : s.keepsLoads (u.afterCap c) := h.elsewhere (by simp [State.loadView])

theorem toldLost (h : s.keepsLoads u) (c : Change) : s.keepsLoads (u.toldLost c) := by
  cases c with
  | claim k n tag => exact h.emptySlot
  | _ => exact h.elsewhere (by rfl)

theorem afterUnheard (h : s.keepsLoads u) (c : Change) : s.keepsLoads (u.afterUnheard c) := by
  unfold State.afterUnheard
  dsimp only
  (repeat' split)
  · exact h.compose
  · exact h.compose.dropItem .claim
  · exact h
  · exact h.dropItem .release
  · exact h.elsewhere (by simp [State.loadView])
  all_goals exact h

theorem ownChange (h : s.keepsLoads u) (c : Change) (slots : Slots) : s.keepsLoads (u.ownChange c slots) := by
  have completed : s.keepsLoads (u.completeOwn c.kind) := h.elsewhere (by simp [State.loadView])
  have retired : s.keepsLoads ((u.completeOwn c.kind).retire c.kind) := completed.elsewhere (by simp [State.loadView])
  have told : s.keepsLoads (((u.completeOwn c.kind).retire c.kind).toldAccepted c) := by
    refine retired.elsewhere ?_
    unfold State.toldAccepted
    (repeat' split) <;> rfl
  unfold State.ownChange
  dsimp only
  (repeat' split)
  · exact (told.applyFrame _ c).afterCap c
  · exact ((retired.toldLost c).outOfStep _).afterCap c
  · exact (State.keepsLoads.toldLost (completed.elsewhere (by rfl)) c).afterUnheard c
  · exact ((retired.toldLost c).outOfStep _).afterCap c

theorem countFailure (h : s.keepsLoads u) (k : FrameKind) : s.keepsLoads (u.countFailure k) := by
  unfold State.countFailure
  dsimp only
  split
  · exact h.elsewhere (by rfl)
  · refine State.keepsLoads.enterDetached (State.keepsLoads.post ?_ _ _)
    exact h.elsewhere (by rfl)

theorem received (h : s.keepsLoads u) (k : FrameKind) (q : Station) : s.keepsLoads (u.received k q) := by
  obtain ⟨participation, -⟩ := u.received_sameSeeking k q
  exact h.elsewhere (by simp [State.loadView, participation])

theorem otherChange (h : s.keepsLoads u) (q : Station) (b : Base) (c : Change) (slots : Slots) :
    s.keepsLoads (u.otherChange q b c slots) := by
  have received := h.received c.kind q
  unfold State.otherChange
  dsimp only
  (repeat' split)
  · exact received.applyFrame q c
  · exact received.outOfStep .objected
  · exact received
  · exact received
  · exact received.record _
  · exact received

theorem frameEnd (h : s.keepsLoads u) (k : FrameKind) (q : Station) {own : FrameBody → State → State} {other : State → State}
    (hown : ∀ body, s.keepsLoads (own body u)) (hother : s.keepsLoads (other u)) : s.keepsLoads (u.frameEnd k q own other) :=
  State.frameEnd_keeps h (fun body _ => (hown body).settle) (fun _ => (h.setLine .gap).countFailure k) fun _ _ => hother.settle

theorem changeEnd (h : s.keepsLoads u) (q : Station) (b : Base) (c : Change) (slots : Slots) :
    s.keepsLoads (u.changeEnd q b c slots) := by
  refine h.frameEnd _ _ (fun body => ?_) (h.otherChange q b c slots)
  split
  · exact h.ownChange _ slots
  · exact h

theorem ownSegment (h : s.keepsLoads u) (body : FrameBody) : s.keepsLoads (u.ownSegment body) := by
  have retired : s.keepsLoads ((u.completeOwn .image).retire .image) := h.elsewhere (by simp [State.loadView])
  unfold State.ownSegment
  dsimp only
  (repeat' split)
  · exact retired.elsewhere (by simp [State.loadView, (State.advanceTrain_sameSeeking _ _).1])
  · exact retired
  · exact retired

theorem otherSegment (h : s.keepsLoads u) (q : Station) (seg : Segment) : s.keepsLoads (u.otherSegment q seg) := by
  have received := h.received .image q
  unfold State.otherSegment
  dsimp only
  (repeat' split)
  · exact received.collect q seg
  · exact received.elsewhere (by simp [State.loadView, (State.noteSegmentZero_sameSeeking _).1])
  · exact received
  · exact received

theorem ownGroup (h : s.keepsLoads u) (body : FrameBody) : s.keepsLoads (u.ownGroup body) := by
  have completed : s.keepsLoads (u.completeOwn .group) := h.elsewhere (by simp [State.loadView])
  unfold State.ownGroup
  dsimp only
  split
  · refine State.keepsLoads.applyCode ?_ _
    exact completed.elsewhere (by rfl)
  · exact completed

theorem latch (h : s.keepsLoads u) (k : FrameKind) : s.keepsLoads (u.latch k) := by
  unfold State.latch
  split
  next body _ =>
    refine State.keepsLoads.elsewhere (u := u.toldLatched body) (h.elsewhere ?_) (by rfl)
    unfold State.toldLatched
    split <;> rfl
  · exact h

theorem takeHeldWithdrawal (h : s.keepsLoads u) (k : FrameKind) : s.keepsLoads (u.takeHeldWithdrawal k) := by
  have dropped : s.keepsLoads ({ u with bus := { u.bus with withdrawHeld := false } }.dropItem k) := h.elsewhere (by rfl)
  unfold State.takeHeldWithdrawal
  dsimp only
  (repeat' split)
  · exact dropped.emptySlot
  · exact dropped
  · exact h

theorem contentionOver (h : s.keepsLoads u) (k : FrameKind) : s.keepsLoads (u.contentionOver k) :=
  (h.takeHeldWithdrawal k).elsewhere (by
    unfold State.contentionOver
    dsimp only
    split <;> simp [State.loadView])

theorem undoLatch (h : s.keepsLoads u) (body : FrameBody) : s.keepsLoads (u.undoLatch body) := by
  unfold State.undoLatch
  (repeat' split)
  · exact (h.setSlot none).dropItem .claim
  · exact h.setSlot _
  · exact h
  · exact h.elsewhere (by simp [State.loadView])
  · exact h.toldLost _
  · exact h.elsewhere (by rfl)
  all_goals exact h

theorem failTransmit (h : s.keepsLoads u) : s.keepsLoads u.failTransmit := by
  unfold State.failTransmit
  split
  next k _ => exact (((h.setLine .integrating).contentionOver k).countFailure k).settle
  next body _ =>
    refine ((State.keepsLoads.undoLatch ?_ body).countFailure body.kind).settle
    exact h.elsewhere (by rfl)
  all_goals exact h

end State.keepsLoads
end Sys2Proof.Machine
end

section
/-! SUPPORT. Load records, lists and the order of the queue row by row; in SETUP the queue stays empty and the line is not followed. -/

namespace Sys2Proof.Machine

/-! ## SETUP (R23, R154) -/

/-- In SETUP, with no load queued and the line not followed. -/
def State.unstarted (s : State) : Prop := s.member.participation = .setup ∧ s.demand.queue = [] ∧ s.bus.line = .off

namespace State.unstarted

variable {s u : State}

theorem of_same (h : s.unstarted) (participation : u.member.participation = s.member.participation)
    (queue : u.demand.queue = s.demand.queue) (line : u.bus.line = s.bus.line) : u.unstarted := by
  unfold State.unstarted
  rw [participation, queue, line]
  exact h

theorem not_inStep (h : s.unstarted) : s.member.participation.inStep = false := by rw [h.1]; rfl

theorem send (h : s.unstarted) (k : FrameKind) : (s.send k).unstarted := by
  rw [s.send_of_not_allowed k (Participation.not_allows_of_off_line (by rw [h.1]; rfl) k)]
  exact h

theorem withdrawItem (h : s.unstarted) (k : FrameKind) : (s.withdrawItem k).unstarted :=
  h.of_same (by simp) (by simp) (by rw [s.withdrawItem_eq k])

theorem settle (h : s.unstarted) : s.settle.unstarted := by
  obtain ⟨bus, -⟩ := State.settle_of_not_inStep h.not_inStep
  exact h.of_same (by simp) (by rw [State.settle_demand, State.compose_demand]) (by rw [bus])

theorem endClaim (h : s.unstarted) (x : LoadIx) : (s.endClaim x).unstarted := by
  have slot (u : State) (hu : u.unstarted) (c : Option ClaimSlot) : (u.setSlot c).unstarted := hu.of_same rfl rfl rfl
  unfold State.endClaim
  (repeat' split)
  · exact slot _ h _
  · exact h.withdrawItem _
  · exact slot _ (h.withdrawItem _) _
  · exact h
  · exact h

theorem freeUnits (h : s.unstarted) (k : ClassIx) (n : Nat) : (s.freeUnits k n).unstarted := by
  unfold State.freeUnits
  split
  · exact h
  · refine State.unstarted.send ?_ _
    exact h

theorem dropLoad (h : s.unstarted) (x : LoadIx) (l : LoadState) : (s.dropLoad x l).unstarted := by
  have left : (((s.setLoad x { s.load x with state := l, ramp := none }).ungrant x).dequeue x).unstarted :=
    h.of_same rfl (by simp [h.2.1]) rfl
  unfold State.dropLoad
  dsimp only
  refine State.unstarted.freeUnits ?_ _ _
  split
  · exact left.endClaim x
  · exact left

theorem faultLoad (h : s.unstarted) (x : LoadIx) (c : FaultCause) : (s.faultLoad x c).unstarted :=
  (h.dropLoad x .fault).of_same (by simp [State.faultLoad]) (by simp [State.faultLoad]) (by simp [State.faultLoad])

theorem endRamp (h : s.unstarted) (x : LoadIx) : (s.endRamp x).unstarted := by
  unfold State.endRamp
  split
  · exact h.faultLoad x .ramp
  · exact h.of_same (by simp) (by simp) (by simp)

theorem abandon (h : s.unstarted) (c : AbandonCause) : (s.abandon c).unstarted := by
  unfold State.abandon State.sendSeek
  exact State.unstarted.send (h.of_same (by simp) (by simp) (by simp)) _

theorem frameEnd (h : s.unstarted) {k : FrameKind} {q : Station} {own : FrameBody → State → State} {other : State → State} :
    (s.frameEnd k q own other).unstarted := by
  rw [State.frameEnd, h.2.2]
  exact h

/-- A load command is REFUSED. -/
theorem loadCommand (h : s.unstarted) (code arg : Byte) (f : LoadIx → State → State) :
    (s.whenRunning fun s => (s.storeCommand code arg).loadCommand arg f).unstarted :=
  State.whenRunning_keeps h fun _ => State.loadCommand_keeps (fun _ => h) fun _ started => absurd h.1 started

end State.unstarted

/-- Rows that keep the settings and the load records: those but a reset, a setting written and a register stored. -/
def keepsSettings : Instr → Bool
  | .powerOnReset _ | .rstnReleased | .resetStation _ | .settingDataWrite _ | .registerWrite _ _ => false
  | _ => true

/-- What happens to a part in SETUP that does not start. -/
theorem exec_unstarted {c : Instr} {s t : State} (hc : keepsSettings c = true) (h : s.unstarted) (he : exec c s = .next t)
    (setup : t.member.participation = .setup) : t.unstarted := by
  have ⟨participation, queue, line⟩ := h
  have taken (row : Instr) : (s.taken row).unstarted := h
  cases c with
  | start arg =>
    obtain rfl := Host.Outcome.next.inj he
    revert setup
    refine State.whenRunning_keeps (P := fun t => t.member.participation = .setup → t.unstarted) (fun _ => h) fun _ => ?_
    unfold State.startCommand
    (repeat' split)
    · exact fun _ => h
    · intro setup
      simp [State.startNode, foldl_wantAsserted_frame, Membership.cleared] at setup
    · exact fun _ => h
  | powerOnResetBegin =>
    obtain rfl := Host.Outcome.next.inj he
    exact ⟨participation, queue, rfl⟩
  | rstnAsserted =>
    obtain rfl := Host.Outcome.next.inj he
    split
    · exact h
    · exact ⟨participation, queue, rfl⟩
  | request arg | withdraw arg | setLevel arg | inhibit arg | permit arg | clearFault arg =>
    obtain rfl := Host.Outcome.next.inj he
    exact h.loadCommand _ _ _
  | sendGroup arg =>
    obtain rfl := Host.Outcome.next.inj he
    refine State.whenRunning_keeps h fun _ => ?_
    have off_line : s.member.participation.onLine = false := by rw [participation]; rfl
    dsimp only
    split
    next => exact h
    next on_line => exact absurd off_line (by simpa using on_line)
  | setCap arg | freeze arg =>
    obtain rfl := Host.Outcome.next.inj he
    refine State.whenRunning_keeps h fun _ => ?_
    dsimp only
    split
    next active => exact absurd (active.symm.trans participation) nofun
    next => exact h
  | detach arg =>
    obtain rfl := Host.Outcome.next.inj he
    refine State.whenRunning_keeps h fun _ => ?_
    unfold State.detachCommand
    split
    · exact h
    · exact h
    all_goals
      next e => exact absurd (participation.symm.trans e) nofun
  | rejoin arg =>
    obtain rfl := Host.Outcome.next.inj he
    refine State.whenRunning_keeps h fun _ => ?_
    unfold State.rejoinCommand
    split
    next detached => exact absurd (detached.symm.trans participation) nofun
    next => exact h
  | unassignedCommand code arg =>
    obtain rfl := Host.Outcome.next.inj he
    exact State.whenRunning_keeps h fun _ => h
  | eventARead e =>
    obtain rfl := Host.Outcome.next.inj he
    refine State.whenRunning_keeps h fun _ => ?_
    (repeat' split) <;> exact h
  | statusWrite v =>
    obtain rfl := Host.Outcome.next.inj he
    refine State.whenRunning_keeps h fun _ => ?_
    unfold State.writeStatus
    split <;> exact h
  | contention | arbitrationLost | itemLatch | lineError | integrationComplete | frameDiscarded | ackObjSlotDrive =>
    obtain rfl := Host.Outcome.next.inj he
    exact State.whenRunning_keeps h fun _ => by simpa [line, Line.free, Line.receives] using h
  | transmitFailure =>
    obtain rfl := Host.Outcome.next.inj he
    refine State.whenRunning_keeps h fun _ => ?_
    rw [State.failTransmit, line]
    exact h
  | capFrame q b v slots | evictFrame q b v slots | releaseFrame q b v slots | leaveFrame q b slots | freezeFrame q b v slots
  | thawFrame q b slots | joinFrame q b slots | claimFrame q b k u tag slots | aliveFrame q | seekFrame q | imageFrame q seg
  | groupFrame q code =>
    obtain rfl := Host.Outcome.next.inj he
    exact State.whenRunning_keeps h fun _ => h.frameEnd
  | fairGapExpiry =>
    obtain rfl := Host.Outcome.next.inj he
    exact State.whenRunning_keeps h fun _ => State.takeRow_keeps (taken _) h
  | seekWaitExpiry =>
    obtain rfl := Host.Outcome.next.inj he
    refine State.whenRunning_keeps h fun _ => State.takeRow_keeps (taken _) ?_
    split
    · rw [State.endSeekWait_without_effect _ (.inl (by rw [(taken _).1]; nofun))]
      exact h
    · exact taken _
  | imageGapExpiry =>
    obtain rfl := Host.Outcome.next.inj he
    refine State.whenRunning_keeps h fun _ => State.takeRow_keeps (taken _) ?_
    split
    · exact (taken _).abandon .gap
    · exact taken _
  | silenceTimerExpiry q =>
    obtain rfl := Host.Outcome.next.inj he
    refine State.whenRunning_keeps h fun _ => State.takeRow_keeps (taken _) ?_
    unfold State.standEvict
    dsimp only
    (repeat' split)
    · refine State.unstarted.send ?_ _
      exact h
    · exact h
    · exact taken _
  | quietTimerExpiry =>
    obtain rfl := Host.Outcome.next.inj he
    refine State.whenRunning_keeps h fun _ => State.takeRow_keeps (taken _) ?_
    split
    · refine State.unstarted.send ?_ _
      exact h
    · exact taken _
  | freezeTimerExpiry =>
    obtain rfl := Host.Outcome.next.inj he
    refine State.whenRunning_keeps h fun _ => State.takeRow_keeps (taken _) ?_
    unfold State.standThaw
    dsimp only
    (repeat' split)
    · refine State.unstarted.send ?_ _
      exact h
    · exact h
    · exact taken _
  | rampTimerExpiry x =>
    obtain rfl := Host.Outcome.next.inj he
    refine State.whenRunning_keeps h fun _ => State.takeRow_keeps (taken _) ?_
    split
    · exact ((taken _).endRamp x).settle
    · exact taken _
  | reqDebouncedChange x b =>
    obtain rfl := Host.Outcome.next.inj he
    refine State.whenRunning_keeps h fun _ => State.takeRow_keeps (taken _) ?_
    unfold State.reqChanged
    split
    · exact taken _
    · rw [if_neg fun starts => by simp [participation, Participation.started, State.setReq] at starts]
      exact h
  | rdyDebouncedChange x b =>
    obtain rfl := Host.Outcome.next.inj he
    refine State.whenRunning_keeps h fun _ => State.takeRow_keeps (taken _) ?_
    have changed : ((s.taken (.rdyDebouncedChange x b)).setRdy x b).unstarted := h
    unfold State.rdyDropped
    (repeat' split)
    · exact taken _
    · exact changed
    · exact (changed.faultLoad x .dropout).settle
    · exact changed
  | limitDebouncedChange b =>
    obtain rfl := Host.Outcome.next.inj he
    refine State.whenRunning_keeps h fun _ => State.takeRow_keeps (taken _) ?_
    unfold State.limitChanged
    split
    · exact taken _
    · rw [if_neg fun starts => by simp [participation, Participation.started, State.setLimit] at starts]
      exact h
  | trgDebouncedAssertion i =>
    obtain rfl := Host.Outcome.next.inj he
    refine State.whenRunning_keeps h fun _ => State.takeRow_keeps (taken _) ?_
    unfold State.triggered
    (repeat' split)
    · exact h
    · exact State.unstarted.of_same (u := State.post _ _ _) h (by simp) (by simp) (by simp)
    · exact h
  | powerOnReset | rstnReleased | resetStation | settingDataWrite | registerWrite => cases hc

/-! ## Rows that keep the settings -/

theorem State.command_keepsLoads {s t : State} {code arg : Byte} {f : State → State} (hf : ∀ u : State, u.keepsLoads (f u))
    (he : s.command code arg f = .next t) : s.keepsLoads t := by
  obtain rfl := Host.Outcome.next.inj he
  exact State.whenRunning_keeps (.refl s) fun _ =>
    State.keepsLoads.trans ((State.keepsLoads.refl s).elsewhere (by rfl)) (hf (s.storeCommand code arg))

theorem State.setResult_keepsLoads (s : State) (r : CommandResult) (bad : Byte) : s.keepsLoads (s.setResult r bad) :=
  (State.keepsLoads.refl s).elsewhere (by rfl)

theorem State.loadCommand_keepsLoads {s t : State} {code arg : Byte} {f : LoadIx → State → State}
    (hf : ∀ (x : LoadIx) (u : State), u.keepsLoads (f x u)) (he : s.command code arg (State.loadCommand · arg f) = .next t) :
    s.keepsLoads t :=
  State.command_keepsLoads (fun u => State.loadCommand_keeps (fun _ => u.setResult_keepsLoads _ _) fun x _ => hf x u) he

theorem State.softOnly_keepsLoads {s : State} (x : LoadIx) {f : State → State} (hf : s.keepsLoads (f s)) :
    s.keepsLoads (s.softOnly x f) := by
  unfold State.softOnly
  split
  · exact s.setResult_keepsLoads _ _
  · exact hf

theorem State.takeRow_keepsLoads {s : State} {row : Instr} {stands : Bool} {f : State → State}
    (hf : (s.taken row).keepsLoads (f (s.taken row))) : s.keepsLoads (s.takeRow row stands f) :=
  State.takeRow_keeps ((State.keepsLoads.refl s).elsewhere (by rfl))
    (State.keepsLoads.trans ((State.keepsLoads.refl s).elsewhere (by rfl)) hf)

theorem exec_keepsLoads {c : Instr} {s t : State} (hc : keepsSettings c = true) (he : exec c s = .next t) : s.keepsLoads t := by
  have same := State.keepsLoads.refl s
  have done (u : State) : u.keepsLoads (u.setResult .done) := u.setResult_keepsLoads _ _
  cases c with
  | powerOnResetBegin =>
    obtain rfl := Host.Outcome.next.inj he
    exact same.elsewhere (by rfl)
  | rstnAsserted =>
    obtain rfl := Host.Outcome.next.inj he
    split
    · exact same
    · exact same.elsewhere (by rfl)
  | start arg =>
    refine State.command_keepsLoads (f := State.startCommand) (fun u => ?_) he
    unfold State.startCommand
    (repeat' split)
    · exact u.setResult_keepsLoads _ _
    · exact (done u).startNode
    · exact u.setResult_keepsLoads _ _
  | request arg =>
    exact State.loadCommand_keepsLoads
      (fun x u => State.softOnly_keepsLoads x (f := fun s => ((s.setResult .done).wantLoad x).settle) ((done u).wantLoad x).settle) he
  | withdraw arg =>
    exact State.loadCommand_keepsLoads
      (fun x u => State.softOnly_keepsLoads x (f := fun s => ((s.setResult .done).unwantLoad x).settle) ((done u).unwantLoad x).settle) he
  | setLevel arg =>
    refine State.loadCommand_keepsLoads (fun x u => ?_) he
    split
    · exact ((done u).wishLevel x _).settle
    · exact u.setResult_keepsLoads _ _
  | inhibit arg => exact State.loadCommand_keepsLoads (fun x u => ((done u).inhibitLoad x).settle) he
  | permit arg => exact State.loadCommand_keepsLoads (fun x u => ((done u).permitLoad x).settle) he
  | clearFault arg =>
    refine State.loadCommand_keepsLoads (fun x u => ?_) he
    split
    next fault => exact ((done u).clearFaultLoad fault).settle
    next => exact u.setResult_keepsLoads _ _
  | sendGroup arg =>
    simp only [exec, execSendGroup] at he
    refine State.command_keepsLoads (fun u => ?_) he
    (repeat' split)
    all_goals exact (State.keepsLoads.refl u).elsewhere (by rfl)
  | setCap arg =>
    simp only [exec, execSetCap] at he
    refine State.command_keepsLoads (fun u => ?_) he
    split
    · exact (done u).elsewhere (by simp [State.loadView])
    · exact u.setResult_keepsLoads _ _
  | freeze arg =>
    simp only [exec, execFreeze] at he
    refine State.command_keepsLoads (fun u => ?_) he
    (repeat' split)
    · refine State.keepsLoads.send ?_ .freeze
      exact (done u).elsewhere (by rfl)
    · exact u.setResult_keepsLoads _ _
    · exact u.setResult_keepsLoads _ _
  | detach arg =>
    refine State.command_keepsLoads (f := State.detachCommand) (fun u => ?_) he
    unfold State.detachCommand
    split
    · exact u.setResult_keepsLoads _ _
    · exact u.setResult_keepsLoads _ _
    · exact (done u).enterDetached
    · exact (done u).enterDetached
    · exact (done u).enterLeaving.settle
    · exact done u
  | rejoin arg =>
    refine State.command_keepsLoads (f := State.rejoinCommand) (fun u => ?_) he
    unfold State.rejoinCommand
    split
    · exact (State.keepsLoads.refl u).entering (by simp) (by simp) (by simp) (by simp [Membership.cleared])
    · exact u.setResult_keepsLoads _ _
  | unassignedCommand code arg =>
    exact State.command_keepsLoads (f := fun s => s.setResult .badArg) (fun u => u.setResult_keepsLoads _ _) he
  | eventARead empty =>
    obtain rfl := Host.Outcome.next.inj he
    refine State.whenRunning_keeps same fun _ => ?_
    (repeat' split)
    all_goals exact same.elsewhere (by rfl)
  | statusWrite v =>
    obtain rfl := Host.Outcome.next.inj he
    refine State.whenRunning_keeps same fun _ => ?_
    unfold State.writeStatus
    split
    all_goals exact same.elsewhere (by rfl)
  | contention | lineError | integrationComplete | ackObjSlotDrive =>
    obtain rfl := Host.Outcome.next.inj he
    refine State.whenRunning_keeps same fun _ => ?_
    (repeat' split)
    all_goals exact same.elsewhere (by rfl)
  | arbitrationLost =>
    obtain rfl := Host.Outcome.next.inj he
    refine State.whenRunning_keeps same fun _ => ?_
    split
    · exact ((same.setLine _).contentionOver _).settle
    all_goals exact same
  | itemLatch =>
    obtain rfl := Host.Outcome.next.inj he
    refine State.whenRunning_keeps same fun _ => ?_
    split
    · exact same.latch _
    all_goals exact same
  | transmitFailure =>
    obtain rfl := Host.Outcome.next.inj he
    exact State.whenRunning_keeps same fun _ => same.failTransmit
  | frameDiscarded why =>
    obtain rfl := Host.Outcome.next.inj he
    refine State.whenRunning_keeps same fun _ => ?_
    unfold State.reportDiscard
    (repeat' split)
    · exact (same.setLine _).abandon .lost
    · exact same.setLine _
    · exact same
  | capFrame q b v slots | evictFrame q b v slots | releaseFrame q b v slots | leaveFrame q b slots | freezeFrame q b v slots
  | thawFrame q b slots | joinFrame q b slots | claimFrame q b k u tag slots =>
    obtain rfl := Host.Outcome.next.inj he
    exact State.whenRunning_keeps same fun _ => same.changeEnd _ _ _ _
  | aliveFrame q =>
    obtain rfl := Host.Outcome.next.inj he
    exact State.whenRunning_keeps same fun _ =>
      same.frameEnd _ _ (fun _ => same.elsewhere (by simp [State.loadView])) (same.received .alive q)
  | seekFrame q =>
    obtain rfl := Host.Outcome.next.inj he
    refine State.whenRunning_keeps same fun _ => same.frameEnd _ _ (fun _ => ?_) ?_
    · refine same.elsewhere ?_
      unfold State.ownSeek
      dsimp only
      split <;> simp [State.loadView]
    · dsimp only
      split
      · exact (same.received .seek q).elsewhere (by rfl)
      · exact same.received .seek q
  | imageFrame q seg =>
    obtain rfl := Host.Outcome.next.inj he
    exact State.whenRunning_keeps same fun _ => same.frameEnd _ _ (fun body => same.ownSegment body) (same.otherSegment q seg)
  | groupFrame q code =>
    obtain rfl := Host.Outcome.next.inj he
    exact State.whenRunning_keeps same fun _ => same.frameEnd _ _ (fun body => same.ownGroup body) ((same.received .group q).applyCode code)
  | fairGapExpiry =>
    obtain rfl := Host.Outcome.next.inj he
    exact State.whenRunning_keeps same fun _ => State.takeRow_keepsLoads ((State.keepsLoads.refl _).elsewhere (by rfl))
  | seekWaitExpiry =>
    obtain rfl := Host.Outcome.next.inj he
    refine State.whenRunning_keeps same fun _ => State.takeRow_keepsLoads ?_
    have waited (u : State) : u.keepsLoads { u with member := { u.member with seekWait := none } } :=
      (State.keepsLoads.refl u).elsewhere (by rfl)
    unfold State.endSeekWait
    dsimp only
    (repeat' split)
    · exact waited _
    · exact (waited _).sendSeek
    · exact (waited _).found.settle
    · exact .refl _
  | imageGapExpiry =>
    obtain rfl := Host.Outcome.next.inj he
    refine State.whenRunning_keeps same fun _ => State.takeRow_keepsLoads ?_
    split
    · exact (State.keepsLoads.refl _).abandon .gap
    · exact .refl _
  | silenceTimerExpiry | quietTimerExpiry | freezeTimerExpiry =>
    obtain rfl := Host.Outcome.next.inj he
    refine State.whenRunning_keeps same fun _ => State.takeRow_keepsLoads ((State.keepsLoads.refl _).elsewhere ?_)
    split <;> simp [State.loadView]
  | rampTimerExpiry x =>
    obtain rfl := Host.Outcome.next.inj he
    refine State.whenRunning_keeps same fun _ => State.takeRow_keepsLoads ?_
    split
    next ramping => exact ((State.keepsLoads.refl _).endRamp ramping).settle
    next => exact .refl _
  | reqDebouncedChange x asserted =>
    obtain rfl := Host.Outcome.next.inj he
    refine State.whenRunning_keeps same fun _ => State.takeRow_keepsLoads ?_
    have changed (u : State) : u.keepsLoads (u.setReq x asserted) := (State.keepsLoads.refl u).elsewhere (by rfl)
    unfold State.reqChanged
    (repeat' split)
    · exact .refl _
    · exact ((changed _).wantLoad x).settle
    · exact ((changed _).unwantLoad x).settle
    · exact changed _
  | rdyDebouncedChange x asserted =>
    obtain rfl := Host.Outcome.next.inj he
    refine State.whenRunning_keeps same fun _ => State.takeRow_keepsLoads ?_
    have changed (u : State) : u.keepsLoads (u.setRdy x asserted) := (State.keepsLoads.refl u).elsewhere (by rfl)
    unfold State.rdyDropped
    (repeat' split)
    · exact .refl _
    · exact changed _
    · exact ((changed _).faultLoad x .dropout).settle
    · exact changed _
  | limitDebouncedChange asserted =>
    obtain rfl := Host.Outcome.next.inj he
    refine State.whenRunning_keeps same fun _ => State.takeRow_keepsLoads ((State.keepsLoads.refl _).elsewhere ?_)
    unfold State.limitChanged
    (repeat' split) <;> simp [State.loadView, State.setLimit]
  | trgDebouncedAssertion i =>
    obtain rfl := Host.Outcome.next.inj he
    refine State.whenRunning_keeps same fun _ => State.takeRow_keepsLoads ((State.keepsLoads.refl _).elsewhere ?_)
    unfold State.triggered
    (repeat' split) <;> simp [State.loadView, State.setTrg]
  | powerOnReset | rstnReleased | resetStation | settingDataWrite | registerWrite => cases hc

/-! ## Resets, settings and the time base -/

/-- What the steps keep of records, lists and the order of the queue. -/
def State.keepsClaims (s t : State) : Prop := (s.loadsSound → t.loadsSound) ∧ (s.queueSound → t.queueSound)

theorem exec_keepsClaims_of_settings {c : Instr} {s t : State} (hc : keepsSettings c = true) (he : exec c s = .next t) :
    s.keepsClaims t := by
  obtain ⟨-, started, sound, ordered⟩ := exec_keepsLoads hc he
  refine ⟨sound, fun ⟨order, off⟩ => ⟨ordered order, fun setup => ?_⟩⟩
  obtain ⟨-, queue, line⟩ := exec_unstarted hc ⟨started setup, off (started setup)⟩ he setup
  exact ⟨queue, line⟩

theorem LoadRecord.reset_sound : LoadRecord.reset.sound := by simp [LoadRecord.sound, LoadRecord.reset]

/-- A reset leaves every load off and both lists empty (R160, R161). -/
theorem State.resetBlocks_keepsClaims (s u : State) (enables : BitVec 18) (cause : ResetCause) :
    s.keepsClaims (u.resetBlocks enables cause) := by
  have loads : (u.resetBlocks enables cause).loads = .reset := by simp [State.resetBlocks]
  have demand : (u.resetBlocks enables cause).demand = .reset := by simp [State.resetBlocks]
  have bus : (u.resetBlocks enables cause).bus = .stopped := by simp [State.resetBlocks]
  have record (x : LoadIx) : (u.resetBlocks enables cause).load x = .reset := by
    simp [State.load, loads, Loads.reset]
  refine ⟨fun _ => ⟨fun x => record x ▸ LoadRecord.reset_sound, ?_⟩, fun _ => ⟨?_, fun _ => ?_⟩⟩
  · unfold State.listsSound
    simp only [record, demand, loads]
    simp [Demand.reset, Loads.reset, LoadRecord.reset, LoadState.queued, LoadState.energized]
  · simp [demand, Demand.reset]
  · simp [demand, bus, Demand.reset, Bus.stopped]

/-- A setting is written in SETUP, where no load is queued; a debouncer counts no load (R154). -/
theorem State.writeSetting_keepsClaims (s : State) (v : Word16) : s.keepsClaims (s.writeSetting v) := by
  have recheck (u : State) (x : LoadIx) : ((u.recheckReq x).bus, (u.recheckReq x).loads.records, (u.recheckReq x).loads.grants,
      (u.recheckReq x).demand) = (u.bus, u.loads.records, u.loads.grants, u.demand) := by
    unfold State.recheckReq; dsimp only; split <;> rfl
  have rechecked (u : State) : (allLoads.foldl State.recheckReq u).bus = u.bus
      ∧ (allLoads.foldl State.recheckReq u).loads.records = u.loads.records
      ∧ (allLoads.foldl State.recheckReq u).loads.grants = u.loads.grants ∧ (allLoads.foldl State.recheckReq u).demand = u.demand := by
    simpa using foldl_keeps State.recheckReq (fun u => (u.bus, u.loads.records, u.loads.grants, u.demand)) recheck allLoads u
  unfold State.writeSetting
  split
  next setup =>
    split
    next k _ =>
      obtain ⟨bus, records, grants, demand⟩ := rechecked { s with settings := s.settings.write v k }
      refine ⟨fun h => State.loadsSound_of_same h records grants (by rw [demand]), fun ⟨_, off⟩ => ?_⟩
      obtain ⟨queue, line⟩ := off setup
      have empty : (allLoads.foldl State.recheckReq { s with settings := s.settings.write v k }).demand.queue = [] := by
        rw [demand]
        exact queue
      exact ⟨empty ▸ List.Pairwise.nil, fun _ => ⟨empty, by rw [bus]; exact line⟩⟩
    · exact ⟨id, id⟩
  next => exact ⟨id, id⟩

/-- A millisecond counts the ramp timers that run, and ends the gap after a frame (R25, R98). -/
theorem State.tick_keepsClaims (s : State) : s.keepsClaims s.tick := by
  refine State.whenRunning_keeps ⟨id, id⟩ fun _ => ⟨fun ⟨sounds, once, once', listed⟩ => ?_, fun ⟨order, off⟩ => ⟨order, fun setup => ?_⟩⟩
  · have record (x : LoadIx) : (s.loads.tick s.pins).records[x] = { s.load x with ramp := countDown (s.load x).ramp } := by
      simp [Loads.tick, State.load]
    refine ⟨fun x => ?_, once, once', fun x => ?_⟩
    · obtain ⟨inhibited, keep, raise, ramp, cause⟩ := sounds x
      rw [State.load, record]
      exact ⟨inhibited, keep, raise, fun running => ramp (by simpa [countDown] using running), cause⟩
    · rw [State.load, record]
      exact listed x
  · obtain ⟨queue, line⟩ := off setup
    exact ⟨queue, by simp [line, Line.afterGap]⟩

theorem exec_keepsClaims {c : Instr} {s t : State} (he : exec c s = .next t) : s.keepsClaims t := by
  refine exec_keeps_of_rows (P := s.keepsClaims) (fun c t hc he => ?_) (fun p => ⟨id, id⟩) c t he
  cases c with
  | powerOnReset straps =>
    obtain rfl := Host.Outcome.next.inj he
    dsimp only
    split
    · exact ⟨id, fun ⟨order, off⟩ => ⟨order, fun setup => ⟨(off setup).1, rfl⟩⟩⟩
    · exact State.resetBlocks_keepsClaims _ _ _ _
  | rstnReleased =>
    obtain rfl := Host.Outcome.next.inj he
    (repeat' split)
    · exact State.resetBlocks_keepsClaims _ _ _ _
    · exact State.resetBlocks_keepsClaims _ _ _ _
    · exact ⟨id, id⟩
    · exact ⟨id, id⟩
  | resetStation arg =>
    obtain rfl := Host.Outcome.next.inj he
    exact State.whenRunning_keeps ⟨id, id⟩ fun _ => State.resetBlocks_keepsClaims _ _ _ _
  | settingDataWrite v =>
    obtain rfl := Host.Outcome.next.inj he
    exact State.whenRunning_keeps ⟨id, id⟩ fun _ => s.writeSetting_keepsClaims v
  | registerWrite a v => exact absurd rfl (hc a v)
  | _ => exact exec_keepsClaims_of_settings rfl he

/-- Settles O59: row by row each load moves between the lists as its state does, entering the queue behind its class; settings are written
in SETUP alone, where nothing is queued; a reset empties both lists. -/
theorem loadsAndListsStaySound : Obligations.LoadsAndListsStaySound := by
  unfold Obligations.LoadsAndListsStaySound
  intro s t step_eq
  have ⟨sound, queue⟩ : s.keepsClaims t := by
    unfold step at step_eq
    split at step_eq
    · obtain rfl := Host.Outcome.next.inj step_eq
      exact s.tick_keepsClaims
    next c rest _ => exact exec_keepsClaims (s := { s with pending := rest }) step_eq
  exact ⟨fun records lists => sound ⟨records, lists⟩, queue⟩

end Sys2Proof.Machine
end

section
/-! SUPPORT. The load commands (Table 5.5): which of them a part takes for a load, and with what result. -/

namespace Sys2Proof.Machine

section rows

variable {s : State}

theorem State.loadCommand_of_setup (setup : s.member.participation = .setup) (arg : Byte) (f : LoadIx → State → State) :
    s.loadCommand arg f = s.setResult .refused := if_pos setup

theorem State.loadCommand_of_none (started : s.member.participation ≠ .setup) {arg : Byte} (number : loadNumber arg = none)
    (f : LoadIx → State → State) : s.loadCommand arg f = s.setResult .badArg := by
  rw [State.loadCommand, if_neg started, number]

theorem State.loadCommand_of_some (started : s.member.participation ≠ .setup) {arg : Byte} {x : LoadIx}
    (number : loadNumber arg = some x) (f : LoadIx → State → State) : s.loadCommand arg f = f x s := by
  rw [State.loadCommand, if_neg started, number]

/-- A load command of a running part. -/
theorem State.command_loadCommand (running : s.power.running = true) (code arg : Byte) (f : LoadIx → State → State) :
    s.command code arg (State.loadCommand · arg f) = .next ((s.storeCommand code arg).loadCommand arg f) :=
  State.command_of_running running ..

theorem State.command_loadCommand_of_setup (running : s.power.running = true) (setup : s.member.participation = .setup)
    (code arg : Byte) (f : LoadIx → State → State) :
    s.command code arg (State.loadCommand · arg f) = .next (s.answered code arg .refused 0) := by
  rw [State.command_loadCommand running, State.loadCommand_of_setup (by exact setup)]
  rfl

theorem State.command_loadCommand_of_none (running : s.power.running = true) (started : s.member.participation ≠ .setup)
    {arg : Byte} (number : loadNumber arg = none) (code : Byte) (f : LoadIx → State → State) :
    s.command code arg (State.loadCommand · arg f) = .next (s.answered code arg .badArg 0) := by
  rw [State.command_loadCommand running, State.loadCommand_of_none (by exact started) number]
  rfl

theorem State.command_loadCommand_of_some (running : s.power.running = true) (started : s.member.participation ≠ .setup)
    {arg : Byte} {x : LoadIx} (number : loadNumber arg = some x) (code : Byte) (f : LoadIx → State → State) :
    s.command code arg (State.loadCommand · arg f) = .next (f x (s.storeCommand code arg)) := by
  rw [State.command_loadCommand running, State.loadCommand_of_some (by exact started) number]

theorem State.softOnly_of_pin {x : LoadIx} (pin : (s.cfg x).source = .pin) (f : State → State) :
    s.softOnly x f = s.setResult .wrongSource := if_pos pin

theorem State.softOnly_of_soft {x : LoadIx} (soft : (s.cfg x).source = .soft) (f : State → State) : s.softOnly x f = f s :=
  if_neg (by rw [soft]; nofun)

theorem levelArgument_eq_none {v : Word16} (full : v ≠ 0) (keep : v ≠ 1) : levelArgument v = none := by
  rw [levelArgument, if_neg full, if_neg keep]

variable {arg : Byte} {x : LoadIx}

/-! ## The commands taken for a load -/

theorem exec_request (running : s.power.running = true) (started : s.member.participation ≠ .setup)
    (number : loadNumber arg = some x) (soft : (s.cfg x).source = .soft) :
    exec (.request arg) s = .next ((s.answered 0x02 arg .done 0).wantLoad x).settle :=
  (State.command_loadCommand_of_some running started number ..).trans
    (congrArg Host.Outcome.next (State.softOnly_of_soft (by exact soft) _))

theorem exec_withdraw (running : s.power.running = true) (started : s.member.participation ≠ .setup)
    (number : loadNumber arg = some x) (soft : (s.cfg x).source = .soft) :
    exec (.withdraw arg) s = .next ((s.answered 0x03 arg .done 0).unwantLoad x).settle :=
  (State.command_loadCommand_of_some running started number ..).trans
    (congrArg Host.Outcome.next (State.softOnly_of_soft (by exact soft) _))

/-- SET_LEVEL by what COMMAND_ARG names. -/
theorem exec_setLevel_eq (running : s.power.running = true) (started : s.member.participation ≠ .setup)
    (number : loadNumber arg = some x) :
    exec (.setLevel arg) s = .next ((levelArgument s.port.commandArg).elim (s.answered 0x04 arg .badArg 0)
      fun l => ((s.answered 0x04 arg .done 0).wishLevel x l).settle) := by
  have word : (s.storeCommand 0x04 arg).port.commandArg = s.port.commandArg := rfl
  refine (State.command_loadCommand_of_some running started number ..).trans (congrArg Host.Outcome.next ?_)
  rw [word]
  cases levelArgument s.port.commandArg <;> rfl

theorem exec_setLevel (running : s.power.running = true) (started : s.member.participation ≠ .setup)
    (number : loadNumber arg = some x) {l : Level} (level : levelArgument s.port.commandArg = some l) :
    exec (.setLevel arg) s = .next ((s.answered 0x04 arg .done 0).wishLevel x l).settle := by
  rw [exec_setLevel_eq running started number, level, Option.elim_some]

theorem exec_inhibit (running : s.power.running = true) (started : s.member.participation ≠ .setup)
    (number : loadNumber arg = some x) :
    exec (.inhibit arg) s = .next ((s.answered 0x05 arg .done 0).inhibitLoad x).settle :=
  State.command_loadCommand_of_some running started number ..

theorem exec_permit (running : s.power.running = true) (started : s.member.participation ≠ .setup)
    (number : loadNumber arg = some x) :
    exec (.permit arg) s = .next ((s.answered 0x06 arg .done 0).permitLoad x).settle :=
  State.command_loadCommand_of_some running started number ..

theorem exec_clearFault (running : s.power.running = true) (started : s.member.participation ≠ .setup)
    (number : loadNumber arg = some x) (fault : (s.load x).state = .fault) :
    exec (.clearFault arg) s = .next ((s.answered 0x07 arg .done 0).clearFaultLoad x).settle :=
  (State.command_loadCommand_of_some running started number ..).trans (congrArg Host.Outcome.next (if_pos fault))

end rows

/-- Settles O11: each refusal is a branch of the command's meaning that writes the result alone. -/
theorem loadCommandRefusals : Obligations.LoadCommandRefusals := by
  unfold Obligations.LoadCommandRefusals
  refine fun s arg running => ⟨fun c hc => ⟨fun setup => ?setup, fun started number => ?number⟩,
    fun started x number => ⟨fun pin => ⟨?request, ?withdraw⟩, fun full keep => ?level, fun not_fault => ?fault⟩⟩
  case setup =>
    simp only [List.mem_cons, List.not_mem_nil, or_false] at hc
    rcases hc with rfl | rfl | rfl | rfl | rfl | rfl <;> exact State.command_loadCommand_of_setup running setup ..
  case number =>
    simp only [List.mem_cons, List.not_mem_nil, or_false] at hc
    rcases hc with rfl | rfl | rfl | rfl | rfl | rfl <;> exact State.command_loadCommand_of_none running started number ..
  case request | withdraw =>
    exact (State.command_loadCommand_of_some running started number ..).trans
      (congrArg Host.Outcome.next (State.softOnly_of_pin (by exact pin) _))
  case level => rw [exec_setLevel_eq running started number, levelArgument_eq_none full keep, Option.elim_none]
  case fault =>
    exact (State.command_loadCommand_of_some running started number ..).trans (congrArg Host.Outcome.next (if_neg not_fault))

end Sys2Proof.Machine
end

section
/-! SUPPORT. Requests and permits: what queue entry and the end of a handling change, and the load that is queued (R92 to R94, R101, R104,
R111). -/

namespace Sys2Proof.Machine

/-! ## What queue entry and composition leave alone -/

/-- States that differ in load records, the Demand Scheduler and the items of the send list alone. -/
def State.queuesOnly (s u : State) : Prop :=
  u = { s with loads := { s.loads with records := u.loads.records }, demand := u.demand, bus := { s.bus with items := u.bus.items } }

namespace State.queuesOnly

variable {s u v : State}

theorem refl (s : State) : s.queuesOnly s := rfl

theorem trans (h : s.queuesOnly u) (h' : u.queuesOnly v) : s.queuesOnly v := by
  unfold State.queuesOnly at h h' ⊢
  refine h'.trans ?_
  rw [h]

theorem setLoad (h : s.queuesOnly u) (x : LoadIx) (r : LoadRecord) : s.queuesOnly (u.setLoad x r) := h.trans rfl

theorem setLoadState (h : s.queuesOnly u) (x : LoadIx) (l : LoadState) : s.queuesOnly (u.setLoadState x l) := h.trans rfl

theorem enqueue (h : s.queuesOnly u) (x : LoadIx) : s.queuesOnly (u.enqueue x) := h.trans rfl

theorem setSlot (h : s.queuesOnly u) (c : Option ClaimSlot) : s.queuesOnly (u.setSlot c) := h.trans rfl

theorem setBlocked (h : s.queuesOnly u) (x : Option LoadIx) : s.queuesOnly (u.setBlocked x) := h.trans rfl

theorem send (h : s.queuesOnly u) (k : FrameKind) : s.queuesOnly (u.send k) := by
  have loads : (u.send k).loads = u.loads := by simp
  have demand : (u.send k).demand = u.demand := by simp
  exact h.trans (by rw [State.queuesOnly, loads, demand]; exact u.send_eq k)

theorem fillSlot (h : s.queuesOnly u) (x : LoadIx) : s.queuesOnly (u.fillSlot x) := by
  unfold State.fillSlot
  dsimp only
  refine (State.queuesOnly.setSlot ?_ _).send .claim
  split
  · exact h.setLoadState x _
  · exact h.setLoadState x _
  · exact h

theorem compose (h : s.queuesOnly u) : s.queuesOnly u.compose := by
  rcases u.compose_cases with ⟨b, e⟩ | ⟨x, -, -, -, -, e⟩
  · exact e ▸ h.setBlocked b
  · exact e ▸ (h.setBlocked none).fillSlot x

theorem settle (h : s.queuesOnly u) : s.queuesOnly u.settle := by
  have stand {v : State} (hv : s.queuesOnly v) (b : Bool) (k : FrameKind) : s.queuesOnly (if b then v.send k else v) := by
    split
    · exact hv.send k
    · exact hv
  exact stand (stand (stand h.compose _ .evict) _ .thaw) _ .image

theorem enterQueue (h : s.queuesOnly u) (x : LoadIx) : s.queuesOnly (u.enterQueue x) := by
  unfold State.enterQueue
  split
  · exact (h.setLoadState x _).enqueue x
  · exact h

theorem wishFull (h : s.queuesOnly u) (x : LoadIx) : s.queuesOnly (u.wishFull x) := by
  have wished := h.setLoad x { u.load x with wish := .full }
  unfold State.wishFull State.raiseFromKeep
  (repeat' split)
  · exact h
  · exact (wished.setLoadState x _).enqueue x
  · exact wished

theorem wantLoad (h : s.queuesOnly u) (x : LoadIx) : s.queuesOnly (u.wantLoad x) := by
  unfold State.wantLoad
  dsimp only
  split
  · exact h.wishFull x
  · exact ((h.wishFull x).setLoad x _).enterQueue x

theorem permitLoad (h : s.queuesOnly u) (x : LoadIx) : s.queuesOnly (u.permitLoad x) := by
  unfold State.permitLoad
  split
  · exact (h.setLoad x _).enterQueue x
  · exact h

theorem clearFaultLoad (h : s.queuesOnly u) (x : LoadIx) : s.queuesOnly (u.clearFaultLoad x) := (h.setLoad x _).enterQueue x

/-- After a command: the port is the answered one, and nothing else beside loads and demand changes. -/
theorem of_answered {code arg : Byte} {r : CommandResult} {bad : Byte} {a : State} (answered : s.answered code arg r bad = a)
    (h : a.queuesOnly u) :
    u.port = { s.port with command := code ++ arg, result := r, badIndex := bad }
      ∧ u = { s with
          port := u.port, loads := { s.loads with records := u.loads.records }, demand := u.demand
          bus := { s.bus with items := u.bus.items } } := by
  subst answered
  have port : u.port = (s.answered code arg r bad).port := by
    unfold State.queuesOnly at h
    rw [h]
  exact ⟨port, Eq.trans h (by rw [port]; rfl)⟩

end State.queuesOnly

/-! ## The load that enters the queue -/

section entry

variable {s : State} {x : LoadIx}

theorem State.enterQueue_of_enters (h : (s.load x).state = .off ∧ (s.load x).wanted = true ∧ (s.load x).inhibited = false) :
    s.enterQueue x = (s.setLoad x { s.load x with state := .waiting }).enqueue x := if_pos h

theorem State.enterQueue_of_stays (h : ¬((s.load x).state = .off ∧ (s.load x).wanted = true ∧ (s.load x).inhibited = false)) :
    s.enterQueue x = s := if_neg h

/-- The wish of a load that is not in KEEP is its wish alone. -/
theorem State.wishFull_of_not_keep (h : (s.load x).state ≠ .keep) : s.wishFull x = s.setLoad x { s.load x with wish := .full } := by
  unfold State.wishFull
  split
  next full =>
    rw [show ({ s.load x with wish := .full } : LoadRecord) = s.load x by rw [← full], State.setLoad_load]
  next => rw [State.raiseFromKeep, State.load_setLoad_self, if_neg h]

/-- A load in KEEP with the wish KEEP goes back to the queue as a raising load (R96). -/
theorem State.wishFull_of_keep (state : (s.load x).state = .keep) (wish : (s.load x).wish = .keep) :
    s.wishFull x = (s.setLoad x { s.load x with wish := .full, state := .raiseWait }).enqueue x := by
  rw [State.wishFull, if_neg (by rw [wish]; nofun), State.raiseFromKeep, State.load_setLoad_self, if_pos state, State.setLoadState_setLoad]

/-- A load in OFF, not inhibited and not wanted before, is queued (R92, R94). -/
theorem State.wantLoad_of_off (state : (s.load x).state = .off) (permitted : (s.load x).inhibited = false)
    (unwanted : (s.load x).wanted = false) :
    s.wantLoad x = (s.setLoad x { s.load x with wanted := true, wish := .full, state := .waiting }).enqueue x := by
  have wished := State.wishFull_of_not_keep (s := s) (x := x) (by rw [state]; nofun)
  have not_wanted : ¬((s.setLoad x { s.load x with wish := .full }).load x).wanted = true := by
    rw [State.load_setLoad_self]
    simp [unwanted]
  rw [State.wantLoad, wished, if_neg not_wanted, State.load_setLoad_self, State.setLoad_setLoad, State.enterQueue_of_enters,
    State.load_setLoad_self, State.setLoad_setLoad]
  rw [State.load_setLoad_self]
  exact ⟨state, rfl, permitted⟩

/-- A wanted load takes the wish only (R93). -/
theorem State.wantLoad_of_wanted (wanted : ((s.wishFull x).load x).wanted = true) : s.wantLoad x = s.wishFull x := if_pos wanted

/-! ## The queued load at the end of the handling -/

theorem State.settle_queue (s : State) : s.settle.demand.queue = s.demand.queue := by rw [State.settle_demand, State.compose_demand]

/-- A load that has just been queued waits at the end of the handling, or claims, at the back of its class. -/
theorem State.settle_of_queued {r : LoadRecord} (waits : r.state = .waiting) :
    (((((s.setLoad x r).enqueue x).settle).load x).state = .waiting ∨ ((((s.setLoad x r).enqueue x).settle).load x).state = .claiming)
      ∧ ((s.setLoad x r).enqueue x).settle.demand.queue = enqueueBy (fun y => (s.cfg y).cls) x s.demand.queue := by
  refine ⟨?_, State.settle_queue _⟩
  obtain ⟨-, composed⟩ := ((s.setLoad x r).enqueue x).settle_load x
  rw [State.enqueue_load, State.load_setLoad_self, waits] at composed
  rcases composed with e | ⟨-, e⟩ | ⟨e, -⟩
  · exact .inl e
  · exact .inr e
  · cases e

/-- The same for a load queued to be raised. -/
theorem State.settle_of_raising {r : LoadRecord} (waits : r.state = .raiseWait) :
    (((((s.setLoad x r).enqueue x).settle).load x).state = .raiseWait
        ∨ ((((s.setLoad x r).enqueue x).settle).load x).state = .raiseClaim)
      ∧ ((s.setLoad x r).enqueue x).settle.demand.queue = enqueueBy (fun y => (s.cfg y).cls) x s.demand.queue := by
  refine ⟨?_, State.settle_queue _⟩
  obtain ⟨-, composed⟩ := ((s.setLoad x r).enqueue x).settle_load x
  rw [State.enqueue_load, State.load_setLoad_self, waits] at composed
  rcases composed with e | ⟨e, -⟩ | ⟨-, e⟩
  · exact .inl e
  · cases e
  · exact .inr e

end entry

/-- Settles O12: the request queues the load from OFF, or raises it from KEEP; the end of the handling adds a claim at most. -/
theorem requestQueuesLoad : Obligations.RequestQueuesLoad := by
  unfold Obligations.RequestQueuesLoad
  intro s arg x running started number soft
  have row := exec_request running started number soft
  generalize hu : s.answered 0x02 arg .done 0 = u at row
  have load (y : LoadIx) : u.load y = s.load y := by rw [← hu]; rfl
  have cfg : u.cfg = s.cfg := by rw [← hu]; rfl
  have queue : u.demand.queue = s.demand.queue := by rw [← hu]; rfl
  obtain ⟨port, rest⟩ := State.queuesOnly.of_answered hu ((State.queuesOnly.refl u).wantLoad x).settle
  obtain ⟨wanted, wish⟩ := u.wantLoad_load_self x
  obtain ⟨self, -⟩ := (u.wantLoad x).settle_load x
  refine ⟨_, row, port, by rw [self]; exact wanted, by rw [self]; exact wish, fun off permitted unwanted => ?off,
    fun keep wish wanted => ?keep, fun y hy => ?others, rest⟩
  case off =>
    rw [← load x] at off permitted unwanted
    rw [State.wantLoad_of_off off permitted unwanted, ← cfg, ← queue]
    exact State.settle_of_queued rfl
  case keep =>
    rw [← load x] at keep wish wanted
    have raised := State.wishFull_of_keep keep wish
    rw [State.wantLoad_of_wanted (by rw [raised, State.enqueue_load, State.load_setLoad_self]; exact wanted), raised, ← cfg, ← queue]
    exact State.settle_of_raising rfl
  case others =>
    obtain ⟨other, -⟩ := (u.wantLoad x).settle_load y
    rwa [u.wantLoad_load_of_ne (Ne.symm hy), load] at other

/-- What the end of a handling leaves of a load record but its state. -/
theorem State.settle_load_field {α : Type} {s : State} (f : LoadRecord → α) (hf : ∀ r l, f { r with state := l } = f r) (x : LoadIx) :
    f (s.settle.load x) = f (s.load x) := by
  rw [(s.settle_load x).1, hf]

/-- What queue entry leaves of a load record but its state. -/
theorem State.enterQueue_load_field {α : Type} {s : State} (f : LoadRecord → α) (hf : ∀ r l, f { r with state := l } = f r)
    (x y : LoadIx) : f ((s.enterQueue x).load y) = f (s.load y) := by
  rcases s.enterQueue_load x y with e | e
  · rw [e]
  · rw [e, hf]

theorem State.settle_enterQueue_load_field {α : Type} {s : State} {x : LoadIx} {r : LoadRecord} (record : s.load x = r)
    (f : LoadRecord → α) (hf : ∀ r l, f { r with state := l } = f r) : f ((s.enterQueue x).settle.load x) = f r := by
  rw [State.settle_load_field f hf, State.enterQueue_load_field f hf, record]

/-- A load that enters the queue from OFF waits or claims at the end of the handling, at the back of its class. -/
theorem State.settle_enterQueue_of_enters {s : State} {x : LoadIx}
    (h : (s.load x).state = .off ∧ (s.load x).wanted = true ∧ (s.load x).inhibited = false) :
    (((s.enterQueue x).settle.load x).state = .waiting ∨ ((s.enterQueue x).settle.load x).state = .claiming)
      ∧ (s.enterQueue x).settle.demand.queue = enqueueBy (fun y => (s.cfg y).cls) x s.demand.queue := by
  rw [State.enterQueue_of_enters h]
  exact State.settle_of_queued rfl

/-- A load in OFF or FAULT that does not enter the queue stays there. -/
theorem State.settle_enterQueue_of_stays {s : State} {x : LoadIx}
    (h : ¬((s.load x).state = .off ∧ (s.load x).wanted = true ∧ (s.load x).inhibited = false))
    (idle : (s.load x).state = .off ∨ (s.load x).state = .fault) :
    ((s.enterQueue x).settle.load x).state = (s.load x).state ∧ (s.enterQueue x).settle.demand.queue = s.demand.queue := by
  rw [State.enterQueue_of_stays h, State.settle_queue, State.settle_load_of_not_waiting]
  · exact ⟨rfl, rfl⟩
  all_goals rcases idle with e | e <;> rw [e] <;> nofun

theorem State.permitLoad_of_inhibited {s : State} {x : LoadIx} (inhibited : (s.load x).inhibited = true) :
    s.permitLoad x = (s.setLoad x { s.load x with inhibited := false }).enterQueue x := if_pos inhibited

/-! ## The end of a handling reads no register of the port -/

/-- A part with another Local Port. -/
def State.withPort (s : State) (p : Port) : State := { s with port := p }

theorem State.send_withPort (s : State) (p : Port) (k : FrameKind) : (s.withPort p).send k = (s.send k).withPort p := by
  unfold State.send State.withPort
  dsimp only
  (repeat' split) <;> rfl

theorem State.fillSlot_withPort (s : State) (p : Port) (x : LoadIx) : (s.withPort p).fillSlot x = (s.fillSlot x).withPort p := by
  have record : (s.withPort p).load x = s.load x := rfl
  unfold State.fillSlot
  dsimp only
  rw [← State.send_withPort, record]
  split <;> rfl

theorem State.compose_withPort (s : State) (p : Port) : (s.withPort p).compose = s.compose.withPort p := by
  have cleared : (s.withPort p).clearStaleBlock = s.clearStaleBlock.withPort p := by
    unfold State.clearStaleBlock State.withPort
    dsimp only
    (repeat' split) <;> rfl
  unfold State.compose
  dsimp only
  rw [cleared]
  generalize s.clearStaleBlock = v
  have units (x : LoadIx) : (v.withPort p).claimUnits x = v.claimUnits x := rfl
  have may : (v.withPort p).mayCompose = v.mayCompose := rfl
  have table : (v.withPort p).table = v.table := rfl
  have queue : (v.withPort p).demand = v.demand := rfl
  rw [queue]
  split
  · rfl
  · rw [may, table, units]
    (repeat' split)
    · rfl
    · exact v.fillSlot_withPort p _
    · rfl

theorem State.settle_withPort (s : State) (p : Port) : (s.withPort p).settle = s.settle.withPort p := by
  have stand (v : State) (b : Bool) (k : FrameKind) :
      (if b then (v.withPort p).send k else v.withPort p) = (if b then v.send k else v).withPort p := by
    split
    · exact v.send_withPort p k
    · rfl
  unfold State.settle
  rw [State.compose_withPort]
  have evict : (s.compose.withPort p).standEvict = s.compose.standEvict.withPort p := stand _ _ _
  rw [evict]
  have thaw : (s.compose.standEvict.withPort p).standThaw = s.compose.standEvict.standThaw.withPort p := stand _ _ _
  rw [thaw]
  exact stand _ _ _

/-- A part that is settled stays so with the answer of a command in its port. -/
theorem State.settle_answered {s : State} (settled : s.settle = s) (code arg : Byte) (r : CommandResult) (bad : Byte) :
    (s.answered code arg r bad).settle = s.answered code arg r bad :=
  (s.settle_withPort _).trans (congrArg (State.withPort · (s.answered code arg r bad).port) settled)

/-- Settles O14: a flag or a fault cleared, and queue entry where the load is in OFF, wanted and not inhibited. -/
theorem permitAndClearFaultRequeue : Obligations.PermitAndClearFaultRequeue := by
  unfold Obligations.PermitAndClearFaultRequeue
  refine fun s arg x running started number => ⟨fun inhibited => ?permit, fun permitted => ?permitted, fun fault => ?clear⟩
  case permitted =>
    have row : exec (.permit arg) s = .next (s.answered 0x06 arg .done 0).settle := by
      rw [exec_permit running started number, State.permitLoad, if_neg]
      exact fun inhibited => absurd (permitted.symm.trans inhibited) nofun
    exact ⟨row, fun settled => by rw [row, State.settle_answered settled]⟩
  case permit =>
    have row := exec_permit running started number
    generalize hu : s.answered 0x06 arg .done 0 = u at row
    have record : u.load x = s.load x := by rw [← hu]; rfl
    have cfg : u.cfg = s.cfg := by rw [← hu]; rfl
    have queue : u.demand.queue = s.demand.queue := by rw [← hu]; rfl
    obtain ⟨port, rest⟩ := State.queuesOnly.of_answered hu ((State.queuesOnly.refl u).permitLoad x).settle
    have permits := State.permitLoad_of_inhibited (record ▸ inhibited)
    have cleared : (u.setLoad x { u.load x with inhibited := false }).load x = { s.load x with inhibited := false } := by
      rw [State.load_setLoad_self, record]
    refine ⟨_, row, by rw [port], ?flag, ?wanted, fun off wanted => ?enters, fun stays => ?stays, rest⟩ <;> rw [permits]
    case flag => exact State.settle_enterQueue_load_field cleared (·.inhibited) fun _ _ => rfl
    case wanted => exact State.settle_enterQueue_load_field cleared (·.wanted) fun _ _ => rfl
    case enters =>
      rw [← cfg, ← queue]
      exact State.settle_enterQueue_of_enters (by rw [cleared]; exact ⟨off, wanted, rfl⟩)
    case stays =>
      rw [← queue, show (s.load x).state = ((u.setLoad x { u.load x with inhibited := false }).load x).state by rw [cleared]]
      refine State.settle_enterQueue_of_stays ?_ ?_ <;> rw [cleared]
      · rintro ⟨off, wanted, -⟩
        rcases stays with e | ⟨-, e⟩
        · exact absurd (e.symm.trans off) nofun
        · exact absurd (e.symm.trans wanted) nofun
      · rcases stays with e | ⟨e, -⟩
        · exact .inr e
        · exact .inl e
  case clear =>
    have row := exec_clearFault running started number fault
    generalize hu : s.answered 0x07 arg .done 0 = u at row
    have record : u.load x = s.load x := by rw [← hu]; rfl
    have cfg : u.cfg = s.cfg := by rw [← hu]; rfl
    have queue : u.demand.queue = s.demand.queue := by rw [← hu]; rfl
    obtain ⟨port, rest⟩ := State.queuesOnly.of_answered hu ((State.queuesOnly.refl u).clearFaultLoad x).settle
    have cleared : (u.setLoad x { u.load x with state := .off, cause := .none }).load x
        = { s.load x with state := .off, cause := .none } := by rw [State.load_setLoad_self, record]
    refine ⟨_, row, by rw [port], ?cause, ?wanted, ?queued, rest⟩ <;> rw [State.clearFaultLoad]
    case cause => exact State.settle_enterQueue_load_field cleared (·.cause) fun _ _ => rfl
    case wanted => exact State.settle_enterQueue_load_field cleared (·.wanted) fun _ _ => rfl
    case queued =>
      split
      next enters =>
        rw [← cfg, ← queue]
        exact State.settle_enterQueue_of_enters (by rw [cleared]; exact ⟨rfl, enters⟩)
      next stays =>
        rw [← queue]
        have idle := State.settle_enterQueue_of_stays (s := u.setLoad x { u.load x with state := .off, cause := .none }) (x := x)
          (by rw [cleared]; exact fun enters => stays enters.2) (by rw [cleared]; exact .inl rfl)
        rwa [cleared] at idle

end Sys2Proof.Machine
end

section
/-! SUPPORT. A load that leaves its state: the record and the units it leaves behind (Table 5.6, R95, R100, R102, R103, R120). -/

namespace Sys2Proof.Machine

/-! ## What a load's leaving does not touch -/

/-- States that differ in load records, the grant list, the Demand Scheduler, the Bus Controller and the port alone. -/
def State.loadsOnly (s u : State) : Prop :=
  u = { s with
    port := u.port, loads := { s.loads with records := u.loads.records, grants := u.loads.grants }, demand := u.demand, bus := u.bus }

namespace State.loadsOnly

variable {s u v : State}

theorem refl (s : State) : s.loadsOnly s := rfl

theorem trans (h : s.loadsOnly u) (h' : u.loadsOnly v) : s.loadsOnly v := by
  unfold State.loadsOnly at h h' ⊢
  refine h'.trans ?_
  rw [h]

theorem of_queuesOnly (h : s.queuesOnly u) : s.loadsOnly u := by
  unfold State.queuesOnly at h
  unfold State.loadsOnly
  rw [h]

theorem req (h : s.loadsOnly u) : u.loads.req = s.loads.req := by
  unfold State.loadsOnly at h
  rw [h]

theorem setLoad (h : s.loadsOnly u) (x : LoadIx) (r : LoadRecord) : s.loadsOnly (u.setLoad x r) := h.trans rfl

theorem setSlot (h : s.loadsOnly u) (c : Option ClaimSlot) : s.loadsOnly (u.setSlot c) := h.trans rfl

theorem withdrawItem (h : s.loadsOnly u) (k : FrameKind) : s.loadsOnly (u.withdrawItem k) := by
  refine h.trans ?_
  unfold State.withdrawItem
  (repeat' split) <;> rfl

theorem freeUnits (h : s.loadsOnly u) (k : ClassIx) (n : Nat) : s.loadsOnly (u.freeUnits k n) := by
  unfold State.freeUnits
  split
  · exact h
  · refine h.trans (of_queuesOnly (State.queuesOnly.send ?_ .release))
    exact rfl

theorem endClaim (h : s.loadsOnly u) (x : LoadIx) : s.loadsOnly (u.endClaim x) := by
  unfold State.endClaim
  (repeat' split)
  · exact h.setSlot _
  · exact h.withdrawItem .claim
  · exact (h.withdrawItem .claim).setSlot none
  · exact h
  · exact h

theorem dropLoad (h : s.loadsOnly u) (x : LoadIx) (l : LoadState) : s.loadsOnly (u.dropLoad x l) := by
  have left : s.loadsOnly (((u.setLoad x { u.load x with state := l, ramp := none }).ungrant x).dequeue x) := h.trans rfl
  unfold State.dropLoad
  dsimp only
  refine State.loadsOnly.freeUnits ?_ _ _
  split
  · exact left.endClaim x
  · exact left

theorem turnOff (h : s.loadsOnly u) (x : LoadIx) : s.loadsOnly (u.turnOff x) := by
  unfold State.turnOff
  split
  · exact h
  · exact h
  · exact h.dropLoad x .off

theorem settle (h : s.loadsOnly u) : s.loadsOnly u.settle := h.trans (of_queuesOnly (State.queuesOnly.refl u).settle)

end State.loadsOnly

/-! ## The load and its units -/

theorem addAt_zero (v : Vector Nat 4) (k : ClassIx) : addAt v k 0 = v := by
  refine Vector.ext fun i hi => ?_
  have entry := addAt_get v k ⟨i, hi⟩ 0
  simpa using entry

theorem State.cfg_congr {s u : State} (settings : u.settings = s.settings) (x : LoadIx) : u.cfg x = s.cfg x := by
  rw [State.cfg, State.cfg, settings]

section leaving

variable {s : State} {x : LoadIx}

theorem State.dropLoad_load (s : State) (x y : LoadIx) (l : LoadState) :
    (s.dropLoad x l).load y = if x = y then { s.load x with state := l, ramp := none } else s.load y := by
  rw [State.load, State.dropLoad_loads]
  exact s.load_setLoad x y _

/-- A dropped load leaves the units it occupied in the open part of its class (R120). -/
theorem State.dropLoad_openUnits (s : State) (x : LoadIx) (l : LoadState) :
    (s.dropLoad x l).demand.openUnits = addAt s.demand.openUnits (s.cfg x).cls (s.occupied x) := by
  unfold State.dropLoad
  dsimp only
  rw [State.freeUnits_demand]
  split
  · obtain ⟨openUnits, -⟩ :=
      (((s.setLoad x { s.load x with state := l, ramp := none }).ungrant x).dequeue x).endClaim_account x
    rw [openUnits, State.cfg_congr (s := s) (by simp) x]
    rfl
  · rfl

theorem State.occupied_of_not_energized (off : (s.load x).state.energized = false) : s.occupied x = 0 :=
  LoadState.units_of_not_energized off _

theorem State.turnOff_of_idle (idle : (s.load x).state = .off ∨ (s.load x).state = .fault) : s.turnOff x = s := by
  unfold State.turnOff
  rcases idle with e | e <;> rw [e]

theorem State.turnOff_of_active (off : (s.load x).state ≠ .off) (fault : (s.load x).state ≠ .fault) :
    s.turnOff x = s.dropLoad x .off := by
  unfold State.turnOff
  split
  next e => exact absurd e off
  next e => exact absurd e fault
  next => rfl

theorem State.turnOff_load_of_ne {y : LoadIx} (h : x ≠ y) : (s.turnOff x).load y = s.load y := by
  unfold State.turnOff
  split
  · rfl
  · rfl
  · rw [State.dropLoad_load, if_neg h]

/-- A load turned off is off, or in FAULT still; its wish, its flags and its request stand. -/
theorem State.turnOff_load_self (s : State) (x : LoadIx) : ∃ ramp, (s.turnOff x).load x =
    { s.load x with state := if (s.load x).state = .fault then .fault else .off, ramp := ramp } := by
  by_cases fault : (s.load x).state = .fault
  · rw [State.turnOff_of_idle (.inr fault), if_pos fault, ← fault]
    exact ⟨_, rfl⟩
  · rw [if_neg fault]
    by_cases off : (s.load x).state = .off
    · rw [State.turnOff_of_idle (.inl off), ← off]
      exact ⟨_, rfl⟩
    · rw [State.turnOff_of_active off fault, State.dropLoad_load, if_pos rfl]
      exact ⟨_, rfl⟩

theorem State.turnOff_openUnits (s : State) (x : LoadIx) :
    (s.turnOff x).demand.openUnits = addAt s.demand.openUnits (s.cfg x).cls (s.occupied x) := by
  have none_freed (off : (s.load x).state.energized = false) :
      s.demand.openUnits = addAt s.demand.openUnits (s.cfg x).cls (s.occupied x) := by
    rw [State.occupied_of_not_energized off, addAt_zero]
  unfold State.turnOff
  split
  next e => exact none_freed (by rw [e]; rfl)
  next e => exact none_freed (by rw [e]; rfl)
  next => exact s.dropLoad_openUnits x .off

/-- What the end of a handling shows of a load turned off with a flag or a request of its record changed before. -/
structure State.TurnedOff (s : State) (x : LoadIx) (r : LoadRecord) (t : State) : Prop where
  wanted : (t.load x).wanted = r.wanted
  inhibited : (t.load x).inhibited = r.inhibited
  state : (t.load x).state = if (s.load x).state = .fault then .fault else .off
  openUnits : t.demand.openUnits = addAt s.demand.openUnits (s.cfg x).cls (s.occupied x)
  others : ∀ y, y ≠ x → t.load y = { s.load y with state := (t.load y).state }
  rest : s.loadsOnly t

theorem State.settle_turnOff (s : State) (x : LoadIx) {r : LoadRecord} (same : r.state = (s.load x).state) :
    s.TurnedOff x r ((s.setLoad x r).turnOff x).settle := by
  have occupied : (s.setLoad x r).occupied x = s.occupied x := by
    rw [State.occupied_setLoad, if_pos rfl, same]
    rfl
  obtain ⟨ramp, record⟩ := (s.setLoad x r).turnOff_load_self x
  rw [State.load_setLoad_self, same] at record
  have settled : ((s.setLoad x r).turnOff x).settle.load x = ((s.setLoad x r).turnOff x).load x := by
    refine State.settle_load_of_not_waiting ?_ ?_ <;> rw [record] <;> dsimp only <;> split <;> nofun
  rw [record] at settled
  refine ⟨by rw [settled], by rw [settled], by rw [settled], ?_, fun y hy => ?_, ?_⟩
  · rw [State.settle_openUnits, State.turnOff_openUnits, occupied]
    rfl
  · obtain ⟨other, -⟩ := ((s.setLoad x r).turnOff x).settle_load y
    rwa [State.turnOff_load_of_ne (Ne.symm hy), State.load_setLoad_of_ne _ _ (Ne.symm hy)] at other
  · exact (((State.loadsOnly.refl s).setLoad x r).turnOff x).settle

end leaving

/-- Settles O13: the load turned off with its request cleared or its flag set; where there is nothing to clear or set, the end of the
handling alone. -/
theorem withdrawAndInhibitTurnOff : Obligations.WithdrawAndInhibitTurnOff := by
  unfold Obligations.WithdrawAndInhibitTurnOff
  refine fun s arg x running started number => ⟨fun soft wanted => ?withdraw, fun soft unwanted => ?unwanted,
    fun inhibited => ?inhibited, fun permitted => ?inhibit⟩
  case unwanted =>
    have row : exec (.withdraw arg) s = .next (s.answered 0x03 arg .done 0).settle := by
      rw [exec_withdraw running started number soft, State.unwantLoad, if_neg]
      exact fun wanted => absurd (unwanted.symm.trans wanted) nofun
    exact ⟨row, fun settled => by rw [row, State.settle_answered settled]⟩
  case inhibited =>
    have row : exec (.inhibit arg) s = .next (s.answered 0x05 arg .done 0).settle := by
      rw [exec_inhibit running started number, State.inhibitLoad, if_pos]
      exact inhibited
    exact ⟨row, fun settled => by rw [row, State.settle_answered settled]⟩
  case withdraw =>
    have row := exec_withdraw running started number soft
    have same : (s.answered 0x03 arg .done 0).load x = s.load x := rfl
    rw [State.unwantLoad, if_pos (by rw [same]; exact wanted)] at row
    have off := (s.answered 0x03 arg .done 0).settle_turnOff x (r := { s.load x with wanted := false }) rfl
    exact ⟨_, row, by simp [State.answered], off.wanted, off.inhibited, off.state, off.openUnits, off.others,
      (State.loadsOnly.trans (by rfl) off.rest : s.loadsOnly _)⟩
  case inhibit =>
    have row := exec_inhibit running started number
    have same : (s.answered 0x05 arg .done 0).load x = s.load x := rfl
    rw [State.inhibitLoad, if_neg (by rw [same, permitted]; nofun)] at row
    have off := (s.answered 0x05 arg .done 0).settle_turnOff x (r := { s.load x with inhibited := true }) rfl
    exact ⟨_, row, by simp [State.answered], off.wanted, off.inhibited, off.state, off.openUnits, off.others,
      (State.loadsOnly.trans (by rfl) off.rest : s.loadsOnly _)⟩

/-! ## The balance of units freed (R120) -/

/-- Where one load changes, what its class occupies changes by what it occupies. -/
theorem State.occupiedIn_of_load {s u : State} {x : LoadIx} (settings : u.settings = s.settings)
    (others : ∀ y, x ≠ y → u.load y = s.load y) (k : ClassIx) :
    u.occupiedIn k + (if (s.cfg x).cls = k then s.occupied x else 0) = s.occupiedIn k + (if (s.cfg x).cls = k then u.occupied x else 0) := by
  have cfg : u.cfg = s.cfg := funext (State.cfg_congr settings)
  have split_off (v : State) (hv : v.cfg = s.cfg) : v.occupiedIn k = (if (s.cfg x).cls = k then v.occupied x else 0)
      + ((allLoads.erase x).map fun y => if (s.cfg y).cls = k then v.occupied y else 0).sum := by
    rw [List.sum_map_erase (fun y => if (s.cfg y).cls = k then v.occupied y else 0) (List.mem_finRange x), State.occupiedIn, hv]
  have rest : (allLoads.erase x).map (fun y => if (s.cfg y).cls = k then u.occupied y else 0)
      = (allLoads.erase x).map fun y => if (s.cfg y).cls = k then s.occupied y else 0 := by
    refine List.map_congr_left fun y hy => ?_
    have differ : x ≠ y := fun e => (List.nodup_finRange 8).not_mem_erase (e ▸ hy)
    rw [State.occupied, State.occupied, others y differ, cfg]
  rw [split_off u cfg, split_off s rfl, rest]
  omega

/-- Units that one load no longer occupies, put into the open part of its class, keep the balance. -/
theorem State.balance_of_freed {s u : State} {x : LoadIx} {n : Nat} (settings : u.settings = s.settings)
    (others : ∀ y, x ≠ y → u.load y = s.load y) (freed : u.occupied x + n = s.occupied x)
    (account : u.demand.openUnits = addAt s.demand.openUnits (s.cfg x).cls n) (k : ClassIx) :
    u.occupiedIn k + u.demand.openUnits[k] = s.occupiedIn k + s.demand.openUnits[k] := by
  have moved := State.occupiedIn_of_load settings others k
  rw [account, addAt_get]
  split at moved
  next cls =>
    rw [if_pos cls]
    omega
  next other =>
    rw [if_neg other]
    omega

theorem State.lowerToKeep_of_high {s : State} {x : LoadIx}
    (lowers : ((s.load x).state = .ramping ∨ (s.load x).state = .on) ∧ 0 < (s.cfg x).keep.toNat) :
    s.lowerToKeep x = (s.setLoad x { s.load x with state := .keep, ramp := none }).freeUnits (s.cfg x).cls
      ((s.cfg x).full.toNat - (s.cfg x).keep.toNat) := if_pos lowers

theorem State.faultLoad_load (s : State) (x y : LoadIx) (cause : FaultCause) : (s.faultLoad x cause).load y =
    if x = y then { s.load x with state := .fault, ramp := none, cause := cause } else s.load y := by
  have posted : (s.faultLoad x cause).load y
      = ((s.dropLoad x .fault).setLoad x { (s.dropLoad x .fault).load x with cause := cause }).load y := by
    rw [State.load, State.faultLoad]
    simp only [State.post_frame]
    rfl
  rw [posted, State.load_setLoad, State.dropLoad_load, if_pos rfl, State.dropLoad_load]
  split <;> rfl

theorem State.faultLoad_openUnits (s : State) (x : LoadIx) (cause : FaultCause) :
    (s.faultLoad x cause).demand.openUnits = addAt s.demand.openUnits (s.cfg x).cls (s.occupied x) := by
  simp only [State.faultLoad, State.post_frame, State.setLoad_frame, State.dropLoad_openUnits]

theorem State.faultLoad_port (s : State) (x : LoadIx) (cause : FaultCause) :
    (s.faultLoad x cause).port = (s.post .faulted (argOf (x.val + if cause = .dropout then 8 else 0))).port :=
  State.post_port_congr (by simp) (by simp) _ _

/-- Settles O52: what the one load no longer occupies stands in the open part of its class. -/
theorem unitsFreedAreAccounted : Obligations.UnitsFreedAreAccounted := by
  unfold Obligations.UnitsFreedAreAccounted
  refine fun s x k fits => ⟨?keep, ?off, fun cause => ?fault⟩
  case keep =>
    by_cases lowers : ((s.load x).state = .ramping ∨ (s.load x).state = .on) ∧ 0 < (s.cfg x).keep.toNat
    · have load (y : LoadIx) : (s.lowerToKeep x).load y
          = if x = y then { s.load x with state := .keep, ramp := none } else s.load y := by
        rw [State.lowerToKeep_of_high lowers, State.load]
        simp only [State.freeUnits_frame]
        exact s.load_setLoad x y _
      refine State.balance_of_freed (x := x) (n := (s.cfg x).full.toNat - (s.cfg x).keep.toNat) (by simp)
        (fun y hy => by rw [load, if_neg hy]) ?_ (by rw [State.lowerToKeep_of_high lowers, State.freeUnits_demand]; rfl) k
      obtain ⟨high, -⟩ := lowers
      have before : s.occupied x = (s.cfg x).full.toNat := by
        unfold State.occupied
        rcases high with e | e <;> rw [e] <;> rfl
      have after : (s.lowerToKeep x).occupied x = (s.cfg x).keep.toNat := by
        rw [State.occupied, load, if_pos rfl, State.cfg_congr (s := s) (by simp) x]
        rfl
      rw [before, after]
      omega
    · rw [show s.lowerToKeep x = s from if_neg lowers]
  case off =>
    refine State.balance_of_freed (by simp) (fun y => State.turnOff_load_of_ne) ?_ (s.turnOff_openUnits x) k
    obtain ⟨ramp, record⟩ := s.turnOff_load_self x
    rw [State.occupied_of_not_energized, Nat.zero_add]
    rw [record]
    dsimp only
    split <;> rfl
  case fault =>
    refine State.balance_of_freed (by simp) (fun y hy => by rw [State.faultLoad_load, if_neg hy]) ?_ (s.faultLoad_openUnits x cause) k
    rw [State.occupied_of_not_energized, Nat.zero_add]
    rw [State.faultLoad_load, if_pos rfl]
    rfl

end Sys2Proof.Machine
end

section
/-! SUPPORT. The debounced inputs REQx and RDYx (R90 to R92, R99). -/

namespace Sys2Proof.Machine

theorem Debouncer.settled_of_le {d : Debouncer} {n : Nat} (h : n ≤ d.count) : d.settled n = true := decide_eq_true h

theorem Debouncer.settled_of_lt {d : Debouncer} {n : Nat} (h : d.count < n) : d.settled n = false := decide_eq_false (not_le.mpr h)

section rows

variable {s : State} {x : LoadIx} {b : Bool}

/-- A REQx change whose level differs, taken. -/
theorem exec_reqDebouncedChange (running : s.power.running = true)
    (stands : .reqDebouncedChange x b ∈ s.due → (s.cfg x).debounce.ms ≤ s.loads.req[x].count) (differs : s.loads.req[x].level ≠ b) :
    exec (.reqDebouncedChange x b) s = .next (((s.taken (.reqDebouncedChange x b)).setReq x b).reqChanged x b) := by
  change execReqDebouncedChange x b s = _
  rw [execReqDebouncedChange, State.whenRunning_of_running running,
    State.takeRow_of_stands _ _ _ _ fun due => Debouncer.settled_of_le (stands due)]
  exact congrArg Host.Outcome.next (if_neg differs)

/-- A REQx change that the time base has queued, and whose count has fallen since. -/
theorem exec_reqDebouncedChange_of_late (running : s.power.running = true) (due : .reqDebouncedChange x b ∈ s.due)
    (late : s.loads.req[x].count < (s.cfg x).debounce.ms) :
    exec (.reqDebouncedChange x b) s = .next (s.taken (.reqDebouncedChange x b)) := by
  change execReqDebouncedChange x b s = _
  rw [execReqDebouncedChange, State.whenRunning_of_running running,
    Debouncer.settled_of_lt late, State.takeRow_of_late _ _ _ due]

/-- A RDYx change whose level differs, taken. -/
theorem exec_rdyDebouncedChange (running : s.power.running = true)
    (stands : .rdyDebouncedChange x b ∈ s.due → 1 ≤ s.loads.rdy[x].count) (differs : s.loads.rdy[x].level ≠ b) :
    exec (.rdyDebouncedChange x b) s = .next (if b then (s.taken (.rdyDebouncedChange x b)).setRdy x b
      else ((s.taken (.rdyDebouncedChange x b)).setRdy x b).rdyDropped x) := by
  change execRdyDebouncedChange x b s = _
  rw [execRdyDebouncedChange, State.whenRunning_of_running running,
    State.takeRow_of_stands _ _ _ _ fun due => Debouncer.settled_of_le (n := Config.shortDebounceMs) (stands due)]
  exact congrArg Host.Outcome.next (if_neg differs)

theorem exec_rdyDebouncedChange_of_late (running : s.power.running = true) (due : .rdyDebouncedChange x b ∈ s.due)
    (late : s.loads.rdy[x].count = 0) :
    exec (.rdyDebouncedChange x b) s = .next (s.taken (.rdyDebouncedChange x b)) := by
  change execRdyDebouncedChange x b s = _
  rw [execRdyDebouncedChange, State.whenRunning_of_running running,
    Debouncer.settled_of_lt (n := Config.shortDebounceMs) (by rw [late]; decide), State.takeRow_of_late _ _ _ due]

theorem Participation.started_of_ne {p : Participation} (h : p ≠ .setup) : p.started = true := by
  cases p with
  | setup => exact absurd rfl h
  | seeking | joining | active | leaving | detached => rfl

/-- A PIN load in a started state follows its REQx (R92). -/
theorem State.reqChanged_of_pin (started : s.member.participation ≠ .setup) (pin : (s.cfg x).source = .pin) :
    s.reqChanged x b = (if b then s.wantLoad x else s.unwantLoad x).settle := if_pos ⟨Participation.started_of_ne started, pin⟩

theorem State.reqChanged_of_ignored (h : (s.cfg x).source = .soft ∨ s.member.participation = .setup) : s.reqChanged x b = s := by
  refine if_neg fun ⟨started, pin⟩ => ?_
  rcases h with soft | setup
  · exact absurd (soft.symm.trans pin) nofun
  · rw [setup] at started
    cases started

theorem State.rdyDropped_of_checked (used : (s.cfg x).readyUsed = true) (checked : (s.load x).state.checked = true) :
    s.rdyDropped x = (s.faultLoad x .dropout).settle := if_pos ⟨used, checked⟩

theorem State.rdyDropped_of_unchecked (h : (s.cfg x).readyUsed = false ∨ (s.load x).state.checked = false) : s.rdyDropped x = s := by
  refine if_neg fun ⟨used, checked⟩ => ?_
  rcases h with unused | unchecked
  · exact absurd (unused.symm.trans used) nofun
  · exact absurd (unchecked.symm.trans checked) nofun

end rows

/-- Settles O48: each input row by its debouncer's stand; what the level then asks for is a request, a withdrawal or a fault. -/
theorem requestAndReadyInputs : Obligations.RequestAndReadyInputs := by
  unfold Obligations.RequestAndReadyInputs
  refine fun s x running => ⟨fun stands => ⟨fun low pin started => ?request, fun high pin started => ?withdraw,
    fun b differs ignored => ?ignored⟩, fun b due late => exec_reqDebouncedChange_of_late running due late,
    fun stands => ⟨fun high used checked => ?dropout, fun b differs ignored => ?level⟩,
    fun b due late => exec_rdyDebouncedChange_of_late running due late⟩
  case request =>
    have row := exec_reqDebouncedChange running (stands true) (by rw [low]; nofun)
    generalize hu : (s.taken (.reqDebouncedChange x true)).setReq x true = u at row
    rw [State.reqChanged_of_pin (by rw [← hu]; exact started) (by rw [← hu]; exact pin), if_pos rfl] at row
    have record : u.load x = s.load x := by rw [← hu]; rfl
    have only : u.loadsOnly (u.wantLoad x).settle := .of_queuesOnly ((State.queuesOnly.refl u).wantLoad x).settle
    obtain ⟨wanted, wish⟩ := u.wantLoad_load_self x
    refine ⟨_, row, by rw [only.req, ← hu]; rfl, ?_, ?_, by simp [← hu, State.setReq], by simp [← hu, State.setReq],
      fun off permitted unwanted => ?_⟩
    · rw [State.settle_load_field (·.wanted) (fun _ _ => rfl)]
      exact wanted
    · rw [State.settle_load_field (·.wish) (fun _ _ => rfl)]
      exact wish
    · rw [← record] at off permitted unwanted
      rw [State.wantLoad_of_off off permitted unwanted]
      exact (State.settle_of_queued rfl).1
  case withdraw =>
    have row := exec_reqDebouncedChange running (stands false) (by rw [high]; nofun)
    generalize hu : (s.taken (.reqDebouncedChange x false)).setReq x false = u at row
    rw [State.reqChanged_of_pin (by rw [← hu]; exact started) (by rw [← hu]; exact pin), if_neg nofun] at row
    have record : u.load x = s.load x := by rw [← hu]; rfl
    have req : u.loads.req = s.loads.req.set x { level := false, count := 0 } := by rw [← hu]; rfl
    have others : u.table = s.table ∧ u.port = s.port := by rw [← hu]; exact ⟨rfl, rfl⟩
    by_cases wanted : (s.load x).wanted = true
    · have off := u.settle_turnOff x (r := { u.load x with wanted := false }) rfl
      rw [State.unwantLoad, if_pos (by rw [record]; exact wanted)] at row
      exact ⟨_, row, by rw [off.rest.req, req], off.wanted, by simp [others], by simp [others], fun _ => by rw [off.state, record]⟩
    · rw [State.unwantLoad, if_neg (by rw [record]; exact wanted)] at row
      refine ⟨_, row, by rw [((State.loadsOnly.refl u).settle).req, req], ?_, by simp [others], by simp [others],
        fun h => absurd h wanted⟩
      rw [State.settle_load_field (·.wanted) (fun _ _ => rfl), record]
      simpa using wanted
  case ignored =>
    rw [exec_reqDebouncedChange running (stands b) differs, State.reqChanged_of_ignored (by exact ignored)]
    rfl
  case dropout =>
    have row := exec_rdyDebouncedChange running (stands false) (by rw [high]; nofun)
    rw [if_neg nofun] at row
    generalize hu : (s.taken (.rdyDebouncedChange x false)).setRdy x false = u at row
    rw [State.rdyDropped_of_checked (by rw [← hu]; exact used) (by rw [← hu]; exact checked)] at row
    have record : u.load x = s.load x := by rw [← hu]; rfl
    have load := (State.faultLoad_load u x x .dropout).trans (if_pos rfl)
    have settled := State.settle_load_of_not_waiting (s := u.faultLoad x .dropout) (y := x) (by rw [load]; nofun) (by rw [load]; nofun)
    refine ⟨_, row, by rw [settled, load, record], ?port, by simp [← hu, State.setRdy], ?openUnits⟩
    case port =>
      have port : (u.faultLoad x .dropout).settle.port = (u.faultLoad x .dropout).port := by simp
      rw [port, State.faultLoad_port, if_pos rfl, ← hu]
      exact State.post_port_congr (s := s) (u := (s.taken (.rdyDebouncedChange x false)).setRdy x false) rfl rfl _ _
    case openUnits =>
      rw [State.settle_openUnits, State.faultLoad_openUnits, ← hu]
      rfl
  case level =>
    rw [exec_rdyDebouncedChange running (stands b) differs]
    cases b with
    | true => rfl
    | false =>
      rw [if_neg nofun, State.rdyDropped_of_unchecked (by exact ignored.resolve_left nofun)]
      rfl

end Sys2Proof.Machine
end

section
/-! SUPPORT. SET_LEVEL and the end of a claim (R95, R96, R113). -/

namespace Sys2Proof.Machine

/-! ## The end of a claim (R113) -/

section claim

variable {s : State} {x : LoadIx} {c : ClaimSlot}

theorem State.withdrawItem_of_contends {k : FrameKind} (contends : s.bus.contends k = true) (item : s.bus.has k = true) :
    s.withdrawItem k = { s with bus := { s.bus with withdrawHeld := true } } := by
  rw [State.withdrawItem, if_pos contends, if_pos item]

theorem State.withdrawItem_of_waiting {k : FrameKind} (idle : s.bus.contends k = false) (not_sent : s.bus.latched k = false) :
    s.withdrawItem k = s.dropItem k := by
  rw [State.withdrawItem, idle, not_sent, if_neg nofun, if_neg nofun]

theorem State.endClaim_of_latched (slot : s.demand.slot = some c) (load : c.load = x) (latched : c.latched = true) :
    s.endClaim x = s.setSlot (some { c with orphaned := true }) := by
  rw [State.endClaim, slot]
  dsimp only
  rw [if_pos load, if_pos latched]

theorem State.endClaim_of_contends (slot : s.demand.slot = some c) (load : c.load = x) (unlatched : c.latched = false)
    (contends : s.bus.contends .claim = true) : s.endClaim x = s.withdrawItem .claim := by
  rw [State.endClaim, slot]
  dsimp only
  rw [if_pos load, unlatched, if_neg nofun, if_pos contends]

theorem State.endClaim_of_posted (slot : s.demand.slot = some c) (load : c.load = x) (unlatched : c.latched = false)
    (contends : s.bus.contends .claim = false) : s.endClaim x = (s.withdrawItem .claim).setSlot none := by
  rw [State.endClaim, slot]
  dsimp only
  rw [if_pos load, unlatched, contends, if_neg nofun, if_neg nofun]

/-- A filled slot stays at the end of a handling. -/
theorem State.settle_slot_of_filled (slot : s.demand.slot = some c) : s.settle.demand.slot = some c := by
  obtain ⟨b, composed⟩ := State.compose_of_slot slot
  rw [State.settle_demand, composed]
  exact slot

/-- The end of a handling claims for no load but the head of the queue. -/
theorem State.settle_slot_load (slot : s.demand.slot = none) (filled : s.settle.demand.slot = some c) : c.load ∈ s.demand.queue := by
  rw [State.settle_demand] at filled
  rcases s.compose_cases with ⟨b, e⟩ | ⟨y, -, -, -, head, e⟩
  · rw [e] at filled
    exact absurd (slot.symm.trans filled) nofun
  · rw [e, State.fillSlot_demand] at filled
    obtain rfl := Option.some.inj filled
    exact List.mem_of_head? head

/-- Beside composition no posting at the end of a handling is a CLAIM. -/
theorem State.settle_has_claim (s : State) : s.settle.bus.has .claim = s.compose.bus.has .claim := by
  have stand (v : State) (b : Bool) {k : FrameKind} (hk : FrameKind.claim ≠ k) :
      (if b then v.send k else v).bus.has .claim = v.bus.has .claim := by
    split
    · exact v.send_has_of_ne hk
    · rfl
  exact ((stand _ _ (by decide)).trans (stand _ _ (by decide))).trans (stand _ _ (by decide))

/-- A slot that stays empty gets no CLAIM item. -/
theorem State.settle_no_claim (slot : s.demand.slot = none) (item : s.bus.has .claim = false) (empty : s.settle.demand.slot = none) :
    s.settle.bus.has .claim = false := by
  rw [State.settle_demand] at empty
  rcases State.compose_of_empty slot with ⟨-, bus⟩ | ⟨⟨c, filled, -⟩, -⟩
  · rw [State.settle_has_claim, bus, item]
  · exact absurd (filled.symm.trans empty) nofun

theorem State.settle_withdrawHeld (s : State) : s.settle.bus.withdrawHeld = s.bus.withdrawHeld := by
  have only : s.queuesOnly s.settle := (State.queuesOnly.refl s).settle
  unfold State.queuesOnly at only
  rw [only]

end claim

/-! ## The level wish (R95, R96) -/

section wish

variable {s : State} {x : LoadIx}

theorem State.wishKeep_of_high (wish : (s.load x).wish = .full) (high : (s.load x).state = .ramping ∨ (s.load x).state = .on)
    (units : 0 < (s.cfg x).keep.toNat) : s.wishKeep x = (s.setLoad x { s.load x with wish := .keep, state := .keep, ramp := none }).freeUnits
      (s.cfg x).cls ((s.cfg x).full.toNat - (s.cfg x).keep.toNat) := by
  have lowered : (s.setLoad x { s.load x with wish := .keep }).lowerToKeep x = _ :=
    State.lowerToKeep_of_high ⟨by rw [State.load_setLoad_self]; exact high, units⟩
  rw [State.load_setLoad_self, State.setLoad_setLoad] at lowered
  unfold State.wishKeep
  rw [if_neg (by rw [wish]; nofun)]
  dsimp only
  rw [State.load_setLoad_self]
  split
  case h_1 | h_2 => exact lowered
  case h_3 e | h_4 e => rcases high with h | h <;> exact absurd (h.symm.trans e) nofun
  case h_5 ramping on _ _ =>
    rcases high with h | h
    · exact absurd h ramping
    · exact absurd h on

theorem State.wishKeep_of_raiseWait (wish : (s.load x).wish = .full) (raising : (s.load x).state = .raiseWait) :
    s.wishKeep x = (s.setLoad x { s.load x with wish := .keep, state := .keep }).dequeue x := by
  rw [State.wishKeep, if_neg (by rw [wish]; nofun)]
  dsimp only
  rw [State.load_setLoad_self, State.setLoadState_setLoad]
  dsimp only
  rw [raising]

theorem State.wishKeep_of_raiseClaim (wish : (s.load x).wish = .full) (raising : (s.load x).state = .raiseClaim) :
    s.wishKeep x = ((s.setLoad x { s.load x with wish := .keep, state := .keep }).dequeue x).endClaim x := by
  rw [State.wishKeep, if_neg (by rw [wish]; nofun)]
  dsimp only
  rw [State.load_setLoad_self, State.setLoadState_setLoad]
  dsimp only
  rw [raising]

theorem State.lowerToKeep_load_self (s : State) (x : LoadIx) :
    ∃ l ramp, (s.lowerToKeep x).load x = { s.load x with state := l, ramp := ramp } := by
  unfold State.lowerToKeep
  dsimp only
  split
  · refine ⟨.keep, none, ?_⟩
    rw [State.load]
    simp only [State.freeUnits_frame]
    exact s.load_setLoad_self x _
  · exact ⟨_, _, rfl⟩

theorem State.endClaim_load (s : State) (x y : LoadIx) : (s.endClaim x).load y = s.load y :=
  State.load_of_loadView (s.endClaim_loadView x) y

theorem State.endClaim_queue (s : State) (x : LoadIx) : (s.endClaim x).demand.queue = s.demand.queue := by
  have view := s.endClaim_loadView x
  simp only [State.loadView, Prod.mk.injEq] at view
  obtain ⟨-, -, -, -, queue⟩ := view
  exact queue

/-- The wish KEEP, and the request as it was. -/
theorem State.wishKeep_load_self (s : State) (x : LoadIx) :
    ((s.wishKeep x).load x).wish = .keep ∧ ((s.wishKeep x).load x).wanted = (s.load x).wanted := by
  have wished := s.load_setLoad_self x { s.load x with wish := .keep }
  have lowered : ∃ l ramp, ((s.setLoad x { s.load x with wish := .keep }).lowerToKeep x).load x =
      { s.load x with wish := .keep, state := l, ramp := ramp } := by
    have lower := (s.setLoad x { s.load x with wish := .keep }).lowerToKeep_load_self x
    rwa [wished] at lower
  have kept : (((s.setLoad x { s.load x with wish := .keep }).setLoadState x .keep).dequeue x).load x =
      { s.load x with wish := .keep, state := .keep } := by
    rw [State.setLoadState_setLoad]
    exact s.load_setLoad_self x _
  unfold State.wishKeep
  dsimp only
  rw [wished]
  split
  next keep => exact ⟨keep, rfl⟩
  next =>
    split
    case h_1 | h_2 =>
      obtain ⟨l, ramp, e⟩ := lowered
      rw [e]
      exact ⟨rfl, rfl⟩
    case h_3 =>
      rw [kept]
      exact ⟨rfl, rfl⟩
    case h_4 =>
      rw [State.endClaim_load, kept]
      exact ⟨rfl, rfl⟩
    case h_5 =>
      rw [wished]
      exact ⟨rfl, rfl⟩

theorem State.wishFull_wanted (s : State) (x : LoadIx) : ((s.wishFull x).load x).wanted = (s.load x).wanted := by
  unfold State.wishFull State.raiseFromKeep
  (repeat' split)
  · rfl
  · rw [State.enqueue_load, State.setLoadState_load, State.load_setLoad_self]
  · rw [State.load_setLoad_self]

/-! ### The level KEEP at the end of the handling -/

/-- A load of the full level goes to KEEP, and its ramp stops; full − keep is freed (R95). -/
theorem State.settle_wishKeep_of_high (wish : (s.load x).wish = .full) (high : (s.load x).state = .ramping ∨ (s.load x).state = .on)
    (units : 0 < (s.cfg x).keep.toNat) :
    ((s.wishKeep x).settle.load x).state = .keep ∧ ((s.wishKeep x).settle.load x).ramp = none
      ∧ (s.wishKeep x).settle.loads.grants = s.loads.grants
      ∧ (s.wishKeep x).settle.demand.openUnits
          = addAt s.demand.openUnits (s.cfg x).cls ((s.cfg x).full.toNat - (s.cfg x).keep.toNat) := by
  rw [State.wishKeep_of_high wish high units]
  generalize hv : (s.setLoad x { s.load x with wish := .keep, state := .keep, ramp := none }).freeUnits (s.cfg x).cls
    ((s.cfg x).full.toNat - (s.cfg x).keep.toNat) = v
  have loads : v.loads = (s.setLoad x { s.load x with wish := .keep, state := .keep, ramp := none }).loads := by simp [← hv]
  have record : v.load x = { s.load x with wish := .keep, state := .keep, ramp := none } := by
    rw [State.load, loads]
    exact s.load_setLoad_self x _
  rw [State.settle_load_of_not_waiting (by rw [record]; nofun) (by rw [record]; nofun), record, State.settle_grants, loads,
    State.settle_openUnits, ← hv, State.freeUnits_demand]
  exact ⟨rfl, rfl, rfl, rfl⟩

/-- What leaves a raising load when its wish becomes KEEP, but for its claim. -/
def State.keptFromRaising (s : State) (x : LoadIx) : State :=
  (s.setLoad x { s.load x with wish := .keep, state := .keep }).dequeue x

theorem State.wishKeep_of_raising (wish : (s.load x).wish = .full)
    (raising : (s.load x).state = .raiseWait ∨ (s.load x).state = .raiseClaim) :
    s.wishKeep x = s.keptFromRaising x ∨ s.wishKeep x = (s.keptFromRaising x).endClaim x := by
  rcases raising with e | e
  · exact .inl (State.wishKeep_of_raiseWait wish e)
  · exact .inr (State.wishKeep_of_raiseClaim wish e)

/-- A raising load goes to KEEP and leaves the queue; it frees nothing (R96). -/
theorem State.settle_wishKeep_of_raising (wish : (s.load x).wish = .full)
    (raising : (s.load x).state = .raiseWait ∨ (s.load x).state = .raiseClaim) :
    ((s.wishKeep x).settle.load x).state = .keep ∧ (s.wishKeep x).settle.demand.queue = s.demand.queue.erase x
      ∧ (s.wishKeep x).settle.demand.openUnits = s.demand.openUnits ∧ (s.wishKeep x).settle.loads.grants = s.loads.grants := by
  have record : (s.keptFromRaising x).load x = { s.load x with wish := .keep, state := .keep } := s.load_setLoad_self x _
  rw [State.settle_queue, State.settle_openUnits, State.settle_grants]
  rcases State.wishKeep_of_raising wish raising with e | e <;> rw [e, State.settle_load_of_not_waiting]
  · exact ⟨by rw [record], rfl, rfl, rfl⟩
  · rw [record]; nofun
  · rw [record]; nofun
  · obtain ⟨account, -⟩ := (s.keptFromRaising x).endClaim_account x
    exact ⟨by rw [State.endClaim_load, record], State.endClaim_queue .., account, by simp only [State.endClaim_frame]; rfl⟩
  · rw [State.endClaim_load, record]; nofun
  · rw [State.endClaim_load, record]; nofun

/-- The claim of a load in RAISE_CLAIM ends (R113): orphaned, held, or out of the slot with its item. -/
theorem State.settle_wishKeep_claim {c : ClaimSlot} (wish : (s.load x).wish = .full) (raising : (s.load x).state = .raiseClaim)
    (slot : s.demand.slot = some c) (load : c.load = x) :
    (c.latched = true → (s.wishKeep x).settle.demand.slot = some { c with orphaned := true })
      ∧ (c.latched = false → s.bus.contends .claim = true → s.bus.has .claim = true →
          (s.wishKeep x).settle.demand.slot = some c ∧ (s.wishKeep x).settle.bus.withdrawHeld = true)
      ∧ (c.latched = false → s.bus.contends .claim = false → s.bus.latched .claim = false → s.demand.queue.Nodup →
          (∀ c', (s.wishKeep x).settle.demand.slot = some c' → c'.load ≠ x)
          ∧ ((s.wishKeep x).settle.demand.slot = none → (s.wishKeep x).settle.bus.has .claim = false)) := by
  rw [show s.wishKeep x = (s.keptFromRaising x).endClaim x from State.wishKeep_of_raiseClaim wish raising]
  have kept_slot : (s.keptFromRaising x).demand.slot = some c := slot
  refine ⟨fun latched => ?_, fun unlatched contends item => ?_, fun unlatched idle not_sent once => ?_⟩
  · rw [State.endClaim_of_latched kept_slot load latched]
    exact State.settle_slot_of_filled rfl
  · have held := State.withdrawItem_of_contends (s := s.keptFromRaising x) contends item
    rw [State.endClaim_of_contends kept_slot load unlatched contends, held, State.settle_withdrawHeld]
    exact ⟨State.settle_slot_of_filled kept_slot, rfl⟩
  · have dropped := State.withdrawItem_of_waiting (s := s.keptFromRaising x) idle not_sent
    rw [State.endClaim_of_posted kept_slot load unlatched idle, dropped]
    refine ⟨fun c' filled => ?_, State.settle_no_claim rfl (Bus.has_drop_self ..)⟩
    have queued : c'.load ∈ s.demand.queue.erase x := State.settle_slot_load rfl filled
    exact fun e => once.not_mem_erase (e ▸ queued)

end wish

/-- Settles O15: the load moves by its state; the claim of a raising load ends by where its item stands. -/
theorem setLevelMovesLoad : Obligations.SetLevelMovesLoad := by
  unfold Obligations.SetLevelMovesLoad
  refine fun s arg x running started number => ⟨fun level => ?keep, fun level => ?full⟩
  case full =>
    have row := exec_setLevel (l := .full) running started number (by rw [level]; rfl)
    refine ⟨((s.answered 0x04 arg .done 0).wishFull x).settle, row, by simp [State.answered], ?_, ?_, fun wish keep => ?_⟩
    · rw [State.settle_load_field (·.wish) (fun _ _ => rfl), State.wishFull_wish]
    · rw [State.settle_load_field (·.wanted) (fun _ _ => rfl), State.wishFull_wanted]
      rfl
    · rw [State.wishFull_of_keep (s := s.answered 0x04 arg .done 0) keep wish]
      exact State.settle_of_raising rfl
  case keep =>
    have row := exec_setLevel (l := .keep) running started number (by rw [level]; rfl)
    obtain ⟨wish, wanted⟩ := (s.answered 0x04 arg .done 0).wishKeep_load_self x
    refine ⟨((s.answered 0x04 arg .done 0).wishKeep x).settle, row, by simp [State.answered], ?_, ?_, fun full high units => ?_,
      fun full raising => ?_, fun c full raising slot load => ?_⟩
    · rw [State.settle_load_field (·.wish) (fun _ _ => rfl), wish]
    · rw [State.settle_load_field (·.wanted) (fun _ _ => rfl), wanted]
      rfl
    · exact State.settle_wishKeep_of_high (s := s.answered 0x04 arg .done 0) full high units
    · exact State.settle_wishKeep_of_raising (s := s.answered 0x04 arg .done 0) full raising
    · exact State.settle_wishKeep_claim (s := s.answered 0x04 arg .done 0) full raising slot load

end Sys2Proof.Machine
end

section
/-! SUPPORT. The node's own CLAIM accepted (R114, R115, R117): granted or denied, for its load or orphaned. -/

namespace Sys2Proof.Machine

/-! ## The frame applied -/

/-- The part with its own accepted CLAIM in the table, before the hand-offs: a CLAIM has no events (Table 1.6). -/
def State.claimNoted (s : State) (c : Change) : State := { s.told c with table := s.table.apply s.address c }

section noted

variable (s : State) (k : ClassIx) (u : Byte) (tag : LoadIx)

theorem State.claimNoted_frame : (s.claimNoted (.claim k u tag)).address = s.address
    ∧ (s.claimNoted (.claim k u tag)).settings = s.settings ∧ (s.claimNoted (.claim k u tag)).table = s.table.apply s.address (.claim k u tag)
    ∧ (s.claimNoted (.claim k u tag)).member = s.member ∧ (s.claimNoted (.claim k u tag)).loads = s.loads
    ∧ (s.claimNoted (.claim k u tag)).demand = s.demand ∧ (s.claimNoted (.claim k u tag)).port = s.port := by
  simp [State.claimNoted, State.told, State.toldAccepted]

variable {s k u tag}

theorem State.accepted_of_granted (granted : s.table.grants s.address k u.toNat = true) :
    ∃ b, s.accepted (.claim k u tag) = ((s.claimNoted (.claim k u tag)).claimGranted k u.toNat tag).setBlocked b := by
  obtain ⟨address, -, table, -⟩ := s.told_frame (.claim k u tag)
  obtain ⟨b, applied⟩ := (s.told (.claim k u tag)).applyFrame_eq s.address (.claim k u tag)
  refine ⟨b, ?_⟩
  rw [State.accepted_of_not_cap (c := .claim k u tag) nofun, applied, table]
  have own : s.address = ((s.told (.claim k u tag)).noted s.address (.claim k u tag)).address := by simp [address]
  rw [State.handOff, if_pos own, if_pos granted, State.claimNoted, ← table]
  rfl

theorem State.accepted_of_denied (denied : s.table.grants s.address k u.toNat = false) :
    s.accepted (.claim k u tag) = (s.claimNoted (.claim k u tag)).claimDenied tag := by
  obtain ⟨address, -, table, -⟩ := s.told_frame (.claim k u tag)
  rw [State.accepted_of_not_cap (c := .claim k u tag) nofun, State.applyFrame]
  have same_free : ¬s.table.free < (s.table.apply s.address (.claim k u tag)).free := by
    rw [Table.apply_claim_denied denied]
    exact lt_irrefl s.table.free
  have not_granted : ¬s.table.grants s.address k u.toNat = true := by simp [denied]
  rw [table, if_neg same_free, State.handOff, if_pos (by simp [address]), if_neg not_granted]
  rfl

end noted

/-! ## Granted and denied (R114, R115) -/

section outcome

variable {s : State} {x : LoadIx} {c : ClaimSlot}

theorem State.claimGranted_of_load (slot : s.demand.slot = some c) (live : c.orphaned = false) (load : c.load = x) (k : ClassIx) (n : Nat) :
    s.claimGranted k n x = ((s.post .granted (argOf x.val)).grantLoad x).setSlot none := by
  rw [State.claimGranted, slot]
  dsimp only
  rw [live, if_neg nofun, load]

theorem State.claimGranted_of_orphaned (slot : s.demand.slot = some c) (orphaned : c.orphaned = true) (k : ClassIx) (n : Nat) :
    s.claimGranted k n x = (s.setSlot none).freeUnits k n := by
  rw [State.claimGranted, slot]
  dsimp only
  rw [if_pos orphaned]

theorem State.claimDenied_of_orphaned (slot : s.demand.slot = some c) (orphaned : c.orphaned = true) :
    s.claimDenied x = s.setSlot none := by
  rw [State.claimDenied, slot]
  dsimp only
  rw [if_pos orphaned]

theorem State.returnLoad_queue (s : State) (x : LoadIx) : (s.returnLoad x).demand.queue = s.demand.queue := by
  unfold State.returnLoad
  split <;> rfl

/-- A denied claim of the load at the head blocks composition (R112, R115). -/
theorem State.claimDenied_of_head (slot : s.demand.slot = some c) (live : c.orphaned = false) (load : c.load = x)
    (head : s.demand.queue.head? = some x) :
    s.claimDenied x = (((s.returnLoad x).post .denied (argOf x.val)).setSlot none).setBlocked (some x) := by
  have still : (((s.returnLoad x).post .denied (argOf x.val)).setSlot none).demand.queue.head? = some x := by
    rw [← head, ← s.returnLoad_queue x, State.setSlot_demand]
    simp only [State.post_frame]
  rw [State.claimDenied, slot]
  dsimp only
  rw [live, if_neg nofun, load, if_pos still]

theorem State.returnLoad_load_self (claims : (s.load x).state = .claiming ∨ (s.load x).state = .raiseClaim) :
    ((s.returnLoad x).load x).state = if (s.load x).state = .claiming then .waiting else .raiseWait := by
  unfold State.returnLoad
  rcases claims with e | e <;> rw [e] <;> dsimp only <;> rw [State.setLoadState_load, if_pos rfl] <;> rfl

/-- Composition does nothing while the head load is blocked. -/
theorem State.compose_of_blocked (head : s.demand.queue.head? = some x) (blocked : s.demand.blocked = some x) : s.compose = s := by
  have fresh : s.clearStaleBlock = s := by
    rw [State.clearStaleBlock, blocked]
    exact if_pos head
  have may_not : ¬s.mayCompose = true := by simp [State.mayCompose, blocked]
  unfold State.compose
  dsimp only
  rw [fresh]
  split
  · rfl
  · rw [if_neg may_not]

theorem State.grantLoad_of_full (claims : (s.load x).state.claims = true) (wish : (s.load x).wish = .full) : s.grantLoad x =
    ((s.setLoad x { s.load x with state := .ramping, ramp := some (durationMs (s.cfg x).ramp) }).dequeue x).grantFirst x := by
  have record : (((s.setLoad x { s.load x with state := .ramping, ramp := some (durationMs (s.cfg x).ramp) }).dequeue x).grantFirst x).load x
      = { s.load x with state := .ramping, ramp := some (durationMs (s.cfg x).ramp) } := s.load_setLoad_self x _
  rw [State.grantLoad, if_pos claims]
  dsimp only
  rw [if_neg]
  rw [record, wish]
  nofun

/-- With the wish KEEP a granted load goes on to KEEP (R97). -/
theorem State.grantLoad_of_keep (claims : (s.load x).state.claims = true) (wish : (s.load x).wish = .keep)
    (units : 0 < (s.cfg x).keep.toNat) : ((s.grantLoad x).load x).state = .keep := by
  generalize hv : ((s.setLoad x { s.load x with state := .ramping, ramp := some (durationMs (s.cfg x).ramp) }).dequeue x).grantFirst x = v
  have record : v.load x = { s.load x with state := .ramping, ramp := some (durationMs (s.cfg x).ramp) } := by
    rw [← hv]
    exact s.load_setLoad_self x _
  have lowered : s.grantLoad x = v.lowerToKeep x := by
    rw [State.grantLoad, if_pos claims]
    dsimp only
    rw [hv, if_pos (by rw [record]; exact wish)]
  rw [lowered, State.lowerToKeep_of_high ⟨.inl (by rw [record]), by rw [← hv]; exact units⟩, State.load]
  simp only [State.freeUnits_frame]
  exact congrArg LoadRecord.state (v.load_setLoad_self x _)

/-- Units freed where the state allows RELEASE leave a RELEASE item. -/
theorem State.freeUnits_has_release {n : Nat} (some_units : n ≠ 0) (allowed : s.member.participation.allows .release = true)
    (k : ClassIx) : (s.freeUnits k n).bus.has .release = true := by
  rw [State.freeUnits, if_neg some_units]
  exact State.send_has _ _ allowed

/-- At the end of the handling of an orphaned claim the slot is empty or filled anew, and no load changes but by composition (R117). -/
theorem State.settle_of_orphaned {v : State} (loads : v.loads = s.loads) (port : v.port = s.port) (slot : v.demand.slot = none) :
    v.settle.port = s.port ∧ (∀ c, v.settle.demand.slot = some c → c.orphaned = false ∧ c.latched = false)
      ∧ (∀ y, v.settle.load y = { s.load y with state := (v.settle.load y).state }) ∧ v.settle.loads.grants = s.loads.grants := by
  refine ⟨by simp [port], fun c filled => ?_, fun y => ?_, by rw [State.settle_grants, loads]⟩
  · rw [State.settle_demand] at filled
    rcases State.compose_of_empty slot with ⟨empty, -⟩ | ⟨⟨d, anew, unlatched, live⟩, -⟩
    · exact absurd (empty.symm.trans filled) nofun
    · exact Option.some.inj (anew.symm.trans filled) ▸ ⟨live, unlatched⟩
  · obtain ⟨left, -⟩ := v.settle_load y
    rwa [State.load_of_records (s := s) (u := v) (by rw [loads]) y] at left

end outcome

/-- Settles O36: the accepted claim in the table, its load granted or returned; of an orphaned claim the units alone are left. -/
theorem ownClaimGrantedRamps : Obligations.OwnClaimGrantedRamps := by
  unfold Obligations.OwnClaimGrantedRamps
  refine ⟨fun s b b' k u tag c slots running active line ack slot live load claims => ⟨fun granted => ?granted, fun denied head => ?denied⟩,
    fun s b b' k u tag c slots running in_step line ack slot orphaned => ?orphaned⟩
  all_goals
    have row := exec_accepted running line (c' := .claim k u tag) rfl (.inl ack) b'
    obtain ⟨table, -⟩ := State.accepted_frame (s := s) (c := .claim k u tag) fun _ => nofun
    obtain ⟨-, settings, noted, member, loads, demand, port⟩ := s.claimNoted_frame k u tag
    generalize hn : s.claimNoted (.claim k u tag) = n at settings noted member loads demand port
    have record (y : LoadIx) : n.load y = s.load y := by rw [State.load, loads]; rfl
    have commit : n.table.commit = s.table.commit + 1 := by rw [noted]; rfl
    have n_slot : n.demand.slot = some c := by rw [demand]; exact slot
  case granted =>
    obtain ⟨b, accepted⟩ := State.accepted_of_granted (tag := tag) granted
    rw [hn, State.claimGranted_of_load n_slot live load] at accepted
    have posted : (n.post .granted (argOf tag.val)).load tag = s.load tag := (State.load_of_records (by simp) tag).trans (record tag)
    have cfg : (n.post .granted (argOf tag.val)).cfg tag = s.cfg tag := State.cfg_congr (by simp [settings]) tag
    have claiming : ((n.post .granted (argOf tag.val)).load tag).state.claims = true := by
      rw [posted]
      rcases claims with e | e <;> rw [e] <;> rfl
    have port : (n.post .granted (argOf tag.val)).port = (s.postAt (s.table.commit + 1) .granted (argOf tag.val)).port := by
      rw [State.post, commit]
      exact State.postAt_port_congr port _ _ _
    generalize n.post .granted (argOf tag.val) = p at accepted posted cfg claiming port
    have granted_load : (s.accepted (.claim k u tag)).load tag = (p.grantLoad tag).load tag := by rw [accepted]; rfl
    refine ⟨_, row, table, fun full => ?full, fun keep units => ?keep, ?port⟩
    case full =>
      have ramps := State.grantLoad_of_full claiming (by rw [posted]; exact full)
      have ramping : (s.accepted (.claim k u tag)).load tag =
          { s.load tag with state := .ramping, ramp := some (durationMs (s.cfg tag).ramp) } := by
        rw [granted_load, ramps, ← posted, ← cfg]
        exact p.load_setLoad_self tag _
      rw [State.settle_load_of_not_waiting (by rw [ramping]; nofun) (by rw [ramping]; nofun), ramping, State.settle_grants, accepted, ramps]
      exact ⟨rfl, rfl, rfl⟩
    case keep =>
      have kept := State.grantLoad_of_keep claiming (by rw [posted]; exact keep) (by rw [cfg]; exact units)
      rw [← granted_load] at kept
      rw [State.settle_load_of_not_waiting (by rw [kept]; nofun) (by rw [kept]; nofun), kept]
    case port =>
      have ended : (s.accepted (.claim k u tag)).settle.port = p.port := by simp [accepted]
      rw [ended, port]
  case denied =>
    have accepted := State.accepted_of_denied (tag := tag) denied
    rw [hn, State.claimDenied_of_head n_slot live load (by rw [demand]; exact head)] at accepted
    have composed : (s.accepted (.claim k u tag)).compose = s.accepted (.claim k u tag) := by
      refine State.compose_of_blocked (x := tag) ?_ (by rw [accepted]; rfl)
      rw [← head, ← demand, ← n.returnLoad_queue tag, accepted]
      simp
    have returned : (s.accepted (.claim k u tag)).load tag = (n.returnLoad tag).load tag := by
      rw [accepted]
      exact State.load_of_records (by simp) tag
    refine ⟨_, row, by rw [table, Table.apply_claim_denied denied], ?state, ?blocked, ?slot, ?port⟩
    case state =>
      rw [State.load_of_records (s := s.accepted (.claim k u tag)) (by rw [State.settle_loads, composed]) tag, returned,
        State.returnLoad_load_self, record]
      rw [record]
      exact claims
    case blocked =>
      rw [State.settle_demand, composed, accepted]
      rfl
    case slot =>
      rw [State.settle_demand, composed, accepted]
      rfl
    case port =>
      have ended : (s.accepted (.claim k u tag)).settle.port = ((n.returnLoad tag).post .denied (argOf tag.val)).port := by
        simp [accepted]
      have table : (n.returnLoad tag).table = n.table := by simp
      rw [ended, State.post, table, commit]
      exact State.postAt_port_congr (by simp [port]) _ _ _
  case orphaned =>
    by_cases granted : s.table.grants s.address k u.toNat = true
    · obtain ⟨b, accepted⟩ := State.accepted_of_granted (tag := tag) granted
      rw [hn, State.claimGranted_of_orphaned n_slot orphaned] at accepted
      obtain ⟨port', filled, others, grants⟩ := State.settle_of_orphaned (s := s) (v := s.accepted (.claim k u tag)) (by simp [accepted, loads])
        (by simp [accepted, port]) (by simp [accepted, State.freeUnits_demand])
      refine ⟨_, row, table, port', filled, others, grants, fun _ => ⟨?account, fun active => ?release⟩, fun denied => ?never⟩
      case account =>
        rw [State.settle_openUnits, accepted, ← demand]
        exact congrArg Demand.openUnits (State.freeUnits_demand ..)
      case release =>
        obtain ⟨-, -, -, -, some_units⟩ := (s.table.grants_iff s.address k u.toNat).mp granted
        refine State.settle_keeps_has ?_
        rw [accepted]
        refine State.freeUnits_has_release (s := n.setSlot none) (by omega) ?_ k
        have allowed : n.member.participation.allows .release = true := by rw [member, active]; rfl
        exact allowed
      case never => exact absurd (denied.symm.trans granted) nofun
    · have denied : s.table.grants s.address k u.toNat = false := by simpa using granted
      have accepted := State.accepted_of_denied (tag := tag) denied
      rw [hn, State.claimDenied_of_orphaned n_slot orphaned] at accepted
      obtain ⟨port', filled, others, grants⟩ := State.settle_of_orphaned (s := s) (v := s.accepted (.claim k u tag)) (by simp [accepted, loads])
        (by simp [accepted, port]) (by simp [accepted])
      refine ⟨_, row, table, port', filled, others, grants, fun h => absurd h granted, fun _ => ?_⟩
      rw [State.settle_openUnits, accepted, ← demand]
      rfl

end Sys2Proof.Machine
end

section
/-! SUPPORT. Composition with every condition of R111 met, and entry to the demand queue (R108). -/

namespace Sys2Proof.Machine

/-! ## Composition (R111) -/

section head

variable {s : State} {x : LoadIx} {rest : List LoadIx}

/-- With every condition of R111 met the head's claim is put into the slot where it fits, and the head is flagged where it does not. -/
theorem State.compose_of_open (active : s.member.participation = .active) (thawed : s.table.frozen = false)
    (unblocked : s.demand.blocked = none) (empty : s.demand.slot = none) (head : s.demand.queue = x :: rest) :
    s.compose = if s.table.free < s.claimUnits x then s.setBlocked (some x) else s.fillSlot x := by
  have fresh : s.clearStaleBlock = s := by
    unfold State.clearStaleBlock
    rw [unblocked]
  have may : s.mayCompose = true := by simp [State.mayCompose, active, thawed, unblocked, empty]
  unfold State.compose
  dsimp only
  rw [fresh, head]
  dsimp only
  rw [if_pos may]

theorem State.claimUnits_of_waiting (waiting : (s.load x).state = .waiting) : s.claimUnits x = (s.cfg x).full.toNat := by
  rw [State.claimUnits, waiting]

theorem State.claimUnits_of_raiseWait (waiting : (s.load x).state = .raiseWait) :
    s.claimUnits x = (s.cfg x).full.toNat - (s.cfg x).keep.toNat := by
  rw [State.claimUnits, waiting]

/-- The load that fills the slot goes to the state of its claim. -/
theorem State.fillSlot_load_state (s : State) (x : LoadIx) : ((s.fillSlot x).load x).state =
    match (s.load x).state with
    | .waiting => .claiming
    | .raiseWait => .raiseClaim
    | l => l := by
  have loads (u : State) : (u.send .claim).load x = u.load x := by simp [State.load]
  have slot (u : State) (c : Option ClaimSlot) : (u.setSlot c).load x = u.load x := rfl
  unfold State.fillSlot
  dsimp only
  rw [loads, slot]
  cases waiting : (s.load x).state <;> simp [waiting, State.setLoadState]

/-- In ACTIVE a CLAIM item stands once the slot is filled. -/
theorem State.fillSlot_has_claim (active : s.member.participation = .active) : (s.fillSlot x).bus.has .claim = true := by
  rw [State.fillSlot_bus]
  exact s.send_has .claim (by rw [active]; rfl)

end head

/-! ## Entry to the queue (R108) -/

/-- In an ordered queue the loads from the first one of a higher class on are of higher classes. -/
theorem lt_of_mem_dropWhile (cls : LoadIx → ClassIx) (x : LoadIx) : ∀ {q : List LoadIx}, q.Pairwise (fun a b => cls a ≤ cls b) →
    ∀ y ∈ q.dropWhile (fun y => decide (cls y ≤ cls x)), cls x < cls y
  | [], _, _, hy => absurd hy List.not_mem_nil
  | z :: q, ordered, y, hy => by
    obtain ⟨first, rest⟩ := List.pairwise_cons.mp ordered
    by_cases ahead : cls z ≤ cls x
    · rw [List.dropWhile_cons_of_pos (by simpa using ahead)] at hy
      exact lt_of_mem_dropWhile cls x rest y hy
    · rw [List.dropWhile_cons_of_neg (by simpa using ahead)] at hy
      have behind : cls x < cls z := not_le.mp ahead
      rcases List.mem_cons.mp hy with rfl | later
      · exact behind
      · exact behind.trans_le (first y later)

/-- Settles O53: with every condition met composition is the one comparison with free; the queue splits before its first load of a higher
class. -/
theorem queueOrderAndComposition : Obligations.QueueOrderAndComposition := by
  unfold Obligations.QueueOrderAndComposition
  refine ⟨fun s x rest active thawed unblocked empty head => ?composition, fun cls x q ordered => ?entry⟩
  case composition =>
    have composed := State.compose_of_open active thawed unblocked empty head
    have claims := s.fillSlot_load_state x
    have has_claim : (s.fillSlot x).bus.has .claim = true := State.fillSlot_has_claim active
    refine ⟨fun waiting short => ?_, fun waiting short => ?_, fun waiting fits => ?_, fun waiting fits => ?_⟩
    · rw [composed, State.claimUnits_of_waiting waiting, if_pos short]
      rfl
    · rw [composed, State.claimUnits_of_raiseWait waiting, if_pos short]
      rfl
    · have units := State.claimUnits_of_waiting waiting
      rw [composed, units, if_neg (Nat.not_lt.mpr fits)]
      exact ⟨by rw [claims, waiting], has_claim, by rw [State.fillSlot_demand, units]⟩
    · have units := State.claimUnits_of_raiseWait waiting
      rw [composed, units, if_neg (Nat.not_lt.mpr fits)]
      exact ⟨by rw [claims, waiting], has_claim, by rw [State.fillSlot_demand, units]⟩
  case entry =>
    exact ⟨_, _, List.takeWhile_append_dropWhile.symm, rfl, fun y hy => by simpa using List.mem_takeWhile_imp hy,
      lt_of_mem_dropWhile cls x ordered, pairwise_enqueueBy cls x ordered⟩

end Sys2Proof.Machine
end

section
/-! SUPPORT. The balance of holdings (R120), part by part, and what leaves each part as it is: units may move from loads to the open
account, and items of other kinds may come and go. -/

namespace Sys2Proof.Machine

/-! ## The parts of the balance -/

/-- Keep levels lie within full levels once the part has started (R155). -/
def State.levelsFit (s : State) : Prop :=
  s.member.participation ≠ .setup → ∀ x : LoadIx, (s.cfg x).keep.toNat ≤ (s.cfg x).full.toNat

/-- What is posted, contended with and in flight fits the participation state, and a withdrawal is held for an item contended with. -/
structure State.sendsSound (s : State) : Prop where
  leave : s.bus.has .leave = true ∨ s.bus.contends .leave = true ∨ s.bus.latched .leave = true → s.member.participation = .leaving
  changes : ∀ k : FrameKind, k.changes = true → s.bus.contends k = true ∨ s.bus.latched k = true → s.member.participation.inStep = true
  item : s.bus.contends .claim = true → s.bus.has .claim = true
  held : s.bus.withdrawHeld = true → ∃ k, s.bus.line = .contending k

/-- The claim slot, the loads that claim and the CLAIM in flight agree, and no CLAIM item is marked "posted again" (R110, R113). -/
structure State.claimsSound (s : State) : Prop where
  filled : ∀ c, s.demand.slot = some c → s.member.participation.inStep = true ∧ c.units ≤ 255
    ∧ (c.orphaned = true ∨ s.bus.claimHeld = true ∨ s.claimFits c)
  claiming : ∀ x : LoadIx, (s.load x).state.claims = true →
    s.bus.claimHeld = false ∧ ∃ c, s.demand.slot = some c ∧ c.load = x ∧ c.orphaned = false
  sent : ∀ b k u tag, s.bus.line = .sending (.change b (.claim k u tag)) →
    ∃ c, s.demand.slot = some c ∧ c.latched = true ∧ c.cls = k ∧ c.units = u.toNat
  unmarked : ∀ i ∈ s.bus.items, i.kind = .claim → i.postedAgain = false

/-- A CLAIM item stands for a filled slot. -/
def State.claimBacked (s : State) : Prop := s.bus.has .claim = true → s.demand.slot.isSome = true

/-- In step the own entry holds what the loads occupy and the account holds, class by class; in JOINING it is ABSENT. -/
structure State.accountSound (s : State) : Prop where
  absent : s.member.participation = .joining → s.table.entries[s.address].member = false
  balance : s.member.participation.inStep = true → ∀ k : ClassIx,
    s.occupiedIn k + s.demand.openUnits[k] + s.demand.latchedUnits[k] = s.table.entries[s.address].held[k]

/-- The balance but for the latched amounts and for what a CLAIM item stands for: what the end of an own frame finds. -/
structure State.standing (s : State) : Prop where
  levels : s.levelsFit
  sends : s.sendsSound
  claims : s.claimsSound
  account : s.accountSound

/-- The balance of a running part. -/
structure State.balanced (s : State) : Prop extends standing : s.standing where
  backed : s.claimBacked
  latch : s.latchSound

theorem Bus.has_iff {b : Bus} {k : FrameKind} : b.has k = true ↔ ∃ i ∈ b.items, i.kind = k := by simp [Bus.has]

theorem State.balanceSound_iff (s : State) : s.balanceSound ↔ (s.power.running = true → s.balanced) := by
  refine forall_congr' fun _ => ⟨fun h => ?_, fun h => ?_⟩
  · obtain ⟨levels, absent, leave, changes, slot, latch, balance⟩ := h
    obtain ⟨filled, claiming, sent, item, items, held⟩ := slot
    refine ⟨⟨levels, ⟨leave, changes, item, held⟩, ⟨filled, claiming, sent, fun i hi claim => (items i hi claim).1⟩, absent, balance⟩,
      fun has => ?_, latch⟩
    obtain ⟨i, hi, claim⟩ := Bus.has_iff.mp has
    exact (items i hi claim).2
  · obtain ⟨⟨levels, sends, claims, account⟩, backed, latch⟩ := h
    exact ⟨levels, account.absent, sends.leave, sends.changes,
      ⟨claims.filled, claims.claiming, claims.sent, sends.item,
        fun i hi claim => ⟨claims.unmarked i hi claim, backed (Bus.has_iff.mpr ⟨i, hi, claim⟩)⟩, sends.held⟩,
      latch, account.balance⟩

/-! ## The send list as the claim sees it -/

theorem Bus.contends_iff {b : Bus} {k : FrameKind} : b.contends k = true ↔ b.line = .contending k := by
  unfold Bus.contends
  split
  next j line => simp [line]
  next other => exact ⟨nofun, fun line => absurd line (other k)⟩

theorem Bus.latched_iff {b : Bus} {k : FrameKind} : b.latched k = true ↔ ∃ body, b.line = .sending body ∧ body.kind = k := by
  unfold Bus.latched
  split
  next body line => simp [line]
  next other => exact ⟨nofun, fun ⟨body, line, _⟩ => absurd line (other body)⟩

theorem Bus.contends_congr {b b' : Bus} (line : b'.line = b.line) (k : FrameKind) : b'.contends k = b.contends k := by
  rw [Bus.contends, Bus.contends, line]

theorem Bus.latched_congr {b b' : Bus} (line : b'.line = b.line) (k : FrameKind) : b'.latched k = b.latched k := by
  rw [Bus.latched, Bus.latched, line]

/-- The line stands, the withdrawal of a CLAIM is held as before, no CLAIM item comes or is marked, and one contended with stays. -/
structure Bus.keepsClaim (b b' : Bus) : Prop where
  line : b'.line = b.line
  held : b'.withdrawHeld = b.withdrawHeld ∨ ∃ k, b.line = .contending k ∧ k ≠ .claim
  items : ∀ i ∈ b'.items, i.kind = .claim → ∃ j ∈ b.items, j.kind = .claim ∧ (i.postedAgain = true → j.postedAgain = true)
  stays : b.contends .claim = true → b.has .claim = true → b'.has .claim = true

namespace Bus.keepsClaim

variable {b b' b'' : Bus} {k : FrameKind}

/-- The items alone change, none of them a CLAIM. -/
theorem of_items (line : b'.line = b.line) (held : b'.withdrawHeld = b.withdrawHeld)
    (items : ∀ i, i.kind = .claim → (i ∈ b'.items ↔ i ∈ b.items)) : b.keepsClaim b' := by
  refine ⟨line, .inl held, fun i hi claim => ⟨i, (items i claim).mp hi, claim, id⟩, fun _ has => ?_⟩
  obtain ⟨i, hi, claim⟩ := Bus.has_iff.mp has
  exact Bus.has_iff.mpr ⟨i, (items i claim).mpr hi, claim⟩

theorem refl (b : Bus) : b.keepsClaim b := of_items rfl rfl fun _ _ => Iff.rfl

theorem trans (h : b.keepsClaim b') (h' : b'.keepsClaim b'') : b.keepsClaim b'' where
  line := h'.line.trans h.line
  held := by
    rcases h'.held with same | ⟨k, line, other⟩
    · exact h.held.imp_left same.trans
    · exact .inr ⟨k, h.line ▸ line, other⟩
  items i hi claim := by
    obtain ⟨j, hj, claim', marked⟩ := h'.items i hi claim
    obtain ⟨l, hl, claim'', marked'⟩ := h.items j hj claim'
    exact ⟨l, hl, claim'', marked' ∘ marked⟩
  stays contends has := h'.stays (Bus.contends_congr h.line _ ▸ contends) (h.stays contends has)

theorem has (h : b.keepsClaim b') (has : b'.has .claim = true) : b.has .claim = true := by
  obtain ⟨i, hi, claim⟩ := Bus.has_iff.mp has
  obtain ⟨j, hj, claim', -⟩ := h.items i hi claim
  exact Bus.has_iff.mpr ⟨j, hj, claim'⟩

theorem claimHeld (h : b.keepsClaim b') : b'.claimHeld = b.claimHeld := by
  have contends := Bus.contends_congr h.line .claim
  rcases h.held with same | ⟨k, line, other⟩
  · rw [Bus.claimHeld, Bus.claimHeld, contends, same]
  · have not_claim : b.contends .claim = false := by
      simpa [Bus.contends, line] using other
    rw [Bus.claimHeld, Bus.claimHeld, contends, not_claim]
    rfl

/-- Items other than CLAIM leave the list, or the CLAIM item that is not contended with. -/
theorem filter (b : Bus) {p : Item → Bool} (passes : b.contends .claim = true → ∀ i, i.kind = .claim → p i = true) :
    b.keepsClaim { b with items := b.items.filter p } := by
  refine ⟨rfl, .inl rfl, fun i hi claim => ⟨i, (List.mem_filter.mp hi).1, claim, id⟩, fun contends has => ?_⟩
  obtain ⟨i, hi, claim⟩ := Bus.has_iff.mp has
  exact Bus.has_iff.mpr ⟨i, List.mem_filter.mpr ⟨hi, passes contends i claim⟩, claim⟩

theorem drop (b : Bus) (h : b.contends .claim = false ∨ k ≠ .claim) : b.keepsClaim (b.drop k) :=
  filter b fun contends i claim => by
    rcases h with calm | other
    · exact absurd (calm.symm.trans contends) nofun
    · simpa [claim] using Ne.symm other

theorem place (b : Bus) (h : k ≠ .claim) : b.keepsClaim (b.place k) :=
  of_items rfl rfl fun i claim => by
    have other : i ≠ { kind := k, attempts := 0, postedAgain := false } := fun e => h (by rw [← claim, e])
    simp [Bus.place, other]

/-- An item keeps its kind, and the CLAIM item's mark is not set. -/
theorem modify (b : Bus) {f : Item → Item} (kind : ∀ i, (f i).kind = i.kind)
    (mark : k = .claim → ∀ i, (f i).postedAgain = true → i.postedAgain = true) : b.keepsClaim (b.modify k f) := by
  refine ⟨rfl, .inl rfl, fun i hi claim => ?_, fun _ has => (b.has_modify _ k f kind).trans has⟩
  obtain ⟨j, hj, rfl⟩ := List.mem_map.mp hi
  refine ⟨j, hj, ?_, ?_⟩
  · split at claim
    · exact (kind j).symm.trans claim
    · exact claim
  · split
    next same =>
      have claim' : j.kind = .claim := by
        rw [if_pos same] at claim
        exact (kind j).symm.trans claim
      exact mark ((by simpa using same : j.kind = k).symm.trans claim') j
    · exact id

end Bus.keepsClaim

/-! ## States in balance with each other -/

/-- Of what the balance speaks of, only units may have moved from loads to the open account; a LEAVE item may have come in LEAVING. -/
structure State.inBalanceWith (s u : State) : Prop where
  settings : u.settings = s.settings
  participation : u.member.participation = s.member.participation
  entry : s.member.participation.inStep = true → u.table.entries[u.address] = s.table.entries[s.address]
  claims : ∀ x, (u.load x).state.claims = (s.load x).state.claims
  claimed : ∀ x, (s.load x).state.claims = true → u.occupied x = s.occupied x
  slot : u.demand.slot = s.demand.slot
  latchedUnits : u.demand.latchedUnits = s.demand.latchedUnits
  balance : s.levelsFit → s.member.participation.inStep = true → ∀ k : ClassIx,
    u.occupiedIn k + u.demand.openUnits[k] = s.occupiedIn k + s.demand.openUnits[k]
  bus : s.bus.keepsClaim u.bus
  leave : u.bus.has .leave = true → s.bus.has .leave = true ∨ s.member.participation = .leaving

/-- What the balance reads of a state. -/
def State.balanceView (s : State) : Settings × Participation × Entry × Vector LoadRecord 8 × Option ClaimSlot × Vector Nat 4 × Vector Nat 4
    × Line × List Item × Bool :=
  (s.settings, s.member.participation, s.table.entries[s.address], s.loads.records, s.demand.slot, s.demand.openUnits,
    s.demand.latchedUnits, s.bus.line, s.bus.items, s.bus.withdrawHeld)

theorem State.levelsFit_congr {s u : State} (settings : u.settings = s.settings)
    (participation : u.member.participation = s.member.participation) (h : s.levelsFit) : u.levelsFit := by
  unfold State.levelsFit
  simp only [State.cfg, settings, participation]
  exact h

theorem State.levelsFit.of_inStep {s : State} (h : s.levelsFit) (inStep : s.member.participation.inStep = true) (x : LoadIx) :
    (s.cfg x).keep.toNat ≤ (s.cfg x).full.toNat :=
  h (fun setup => by rw [setup] at inStep; cases inStep) x

namespace State.inBalanceWith

variable {s u v : State}

theorem refl (s : State) : s.inBalanceWith s :=
  ⟨rfl, rfl, fun _ => rfl, fun _ => rfl, fun _ _ => rfl, rfl, rfl, fun _ _ _ => rfl, .refl _, .inl⟩

theorem trans (h : s.inBalanceWith u) (h' : u.inBalanceWith v) : s.inBalanceWith v where
  settings := h'.settings.trans h.settings
  participation := h'.participation.trans h.participation
  entry step := (h'.entry (h.participation ▸ step)).trans (h.entry step)
  claims x := (h'.claims x).trans (h.claims x)
  claimed x hx := (h'.claimed x ((h.claims x).trans hx)).trans (h.claimed x hx)
  slot := h'.slot.trans h.slot
  latchedUnits := h'.latchedUnits.trans h.latchedUnits
  balance levels step k :=
    (h'.balance (State.levelsFit_congr h.settings h.participation levels) (h.participation ▸ step) k).trans (h.balance levels step k)
  bus := h.bus.trans h'.bus
  leave has := (h'.leave has).elim h.leave fun leaving => .inr (h.participation ▸ leaving)

/-- The send list alone changes of what the balance reads. -/
theorem onBus (h : s.inBalanceWith u) (same : { v with bus := u.bus }.balanceView = u.balanceView) (bus : u.bus.keepsClaim v.bus)
    (leave : v.bus.has .leave = true → u.bus.has .leave = true ∨ u.member.participation = .leaving) : s.inBalanceWith v := by
  simp only [State.balanceView, Prod.mk.injEq] at same
  obtain ⟨settings, participation, entry, records, slot, openUnits, latchedUnits, -⟩ := same
  have load (x : LoadIx) : v.load x = u.load x := State.load_of_records records x
  refine h.trans ⟨settings, participation, fun _ => entry, fun x => by rw [load], fun x _ => ?_, slot, latchedUnits, fun _ _ k => ?_,
    bus, leave⟩
  · rw [State.occupied, State.occupied, load, State.cfg_congr settings]
  · rw [openUnits, State.occupiedIn_congr _ _ k records settings]

/-- An update of what the balance does not read. -/
theorem elsewhere (h : s.inBalanceWith u) (same : v.balanceView = u.balanceView) : s.inBalanceWith v := by
  have all := same
  simp only [State.balanceView, Prod.mk.injEq] at same
  obtain ⟨settings, participation, entry, records, slot, openUnits, latchedUnits, line, items, held⟩ := same
  refine h.onBus ?_ (.of_items line held fun i _ => by rw [items]) fun has => .inl ?_
  · simp only [State.balanceView, Prod.mk.injEq]
    exact ⟨settings, participation, entry, records, slot, openUnits, latchedUnits, trivial⟩
  · rwa [Bus.has, ← items]

theorem foldl {α : Type} {f : State → α → State} (hf : ∀ (v : State) (a : α), v.inBalanceWith (f v a)) :
    ∀ (l : List α) {u : State}, s.inBalanceWith u → s.inBalanceWith (l.foldl f u)
  | [], _, h => h
  | a :: l, u, h => foldl hf l (h.trans (hf u a))

end State.inBalanceWith

/-! ### What states in balance share -/

section parts

variable {s u : State}

theorem State.sendsSound.inBalance (h : s.sendsSound) (hu : s.inBalanceWith u) : u.sendsSound where
  leave some_leave := by
    rw [hu.participation]
    rw [Bus.contends_congr hu.bus.line, Bus.latched_congr hu.bus.line] at some_leave
    rcases some_leave with has | sent
    · exact (hu.leave has).elim (fun has => h.leave (.inl has)) id
    · exact h.leave (.inr sent)
  changes k change sent := by
    rw [hu.participation]
    rw [Bus.contends_congr hu.bus.line, Bus.latched_congr hu.bus.line] at sent
    exact h.changes k change sent
  item contends := by
    rw [Bus.contends_congr hu.bus.line] at contends
    exact hu.bus.stays contends (h.item contends)
  held held := by
    rw [hu.bus.line]
    rcases hu.bus.held with same | ⟨k, line, -⟩
    · exact h.held (same ▸ held)
    · exact ⟨k, line⟩

theorem State.inBalanceWith.claimFits (hu : s.inBalanceWith u) {c : ClaimSlot} (h : s.claimFits c) : u.claimFits c := by
  obtain ⟨claims, cls, units⟩ := h
  have cfg := State.cfg_congr hu.settings c.load
  exact ⟨(hu.claims _).trans claims, by rw [cfg, cls], by rw [hu.claimed _ claims, cfg, units]⟩

theorem State.claimsSound.inBalance (h : s.claimsSound) (hu : s.inBalanceWith u) : u.claimsSound where
  filled c slot := by
    obtain ⟨step, small, kept⟩ := h.filled c (hu.slot ▸ slot)
    rw [hu.participation, hu.bus.claimHeld]
    exact ⟨step, small, kept.imp_right (Or.imp_right hu.claimFits)⟩
  claiming x claims := by
    rw [hu.bus.claimHeld, hu.slot]
    exact h.claiming x (hu.claims x ▸ claims)
  sent := by
    rw [hu.bus.line, hu.slot]
    exact h.sent
  unmarked i hi claim := by
    obtain ⟨j, hj, claim', marked⟩ := hu.bus.items i hi claim
    by_contra mark
    exact absurd ((h.unmarked j hj claim').symm.trans (marked (by simpa using mark))) nofun

theorem State.claimBacked.inBalance (h : s.claimBacked) (hu : s.inBalanceWith u) : u.claimBacked :=
  fun has => hu.slot ▸ h (hu.bus.has has)

theorem State.latchSound_congr (h : s.latchSound) (line : u.bus.line = s.bus.line)
    (latchedUnits : u.demand.latchedUnits = s.demand.latchedUnits) : u.latchSound := by
  unfold State.latchSound
  rw [line, latchedUnits]
  exact h

theorem Participation.inStep_of_joining {p : Participation} (h : p = .joining) : p.inStep = true := by rw [h]; rfl

theorem State.standing.inBalance (h : s.standing) (hu : s.inBalanceWith u) : u.standing where
  levels := State.levelsFit_congr hu.settings hu.participation h.levels
  sends := h.sends.inBalance hu
  claims := h.claims.inBalance hu
  account := by
    refine ⟨fun joining => ?_, fun step k => ?_⟩ <;> rw [hu.participation] at *
    · rw [hu.entry (Participation.inStep_of_joining joining)]
      exact h.account.absent joining
    · rw [hu.entry step, hu.balance h.levels step k, hu.latchedUnits]
      exact h.account.balance step k

theorem State.balanced.inBalance (h : s.balanced) (hu : s.inBalanceWith u) : u.balanced :=
  ⟨h.standing.inBalance hu, h.backed.inBalance hu, State.latchSound_congr h.latch hu.bus.line hu.latchedUnits⟩

end parts

end Sys2Proof.Machine
end

section
/-! SUPPORT. The operations that leave the balance as it is: postings and withdrawals other than of CLAIM, the moves of loads between
states of the same units, and units freed (R40, R44, R92 to R104, R120). -/

namespace Sys2Proof.Machine

namespace State.inBalanceWith

variable {s u v : State} {x : LoadIx}

/-! ## The send list and other blocks -/

theorem send (h : s.inBalanceWith u) {k : FrameKind} (claim : k ≠ .claim) (leave : k = .leave → u.member.participation = .leaving) :
    s.inBalanceWith (u.send k) := by
  refine h.onBus (by simp [State.balanceView]) ?_ fun has => ?_
  · unfold State.send
    (repeat' split)
    · exact .refl _
    · exact .place _ claim
    · exact .modify _ (f := fun i => { i with postedAgain := true }) (fun _ => rfl) fun e => absurd e claim
    · exact .refl _
  · by_cases other : k = .leave
    · exact .inr (leave other)
    · exact .inl (by rwa [State.send_has_of_ne _ (Ne.symm other)] at has)

theorem dropItem (h : s.inBalanceWith u) {k : FrameKind} (claim : k ≠ .claim) : s.inBalanceWith (u.dropItem k) := by
  refine h.onBus rfl (.drop _ (.inr claim)) fun has => .inl ?_
  obtain ⟨i, hi, leave⟩ := Bus.has_iff.mp has
  exact Bus.has_iff.mpr ⟨i, (List.mem_filter.mp hi).1, leave⟩

theorem withdrawItem (h : s.inBalanceWith u) {k : FrameKind} (claim : k ≠ .claim) : s.inBalanceWith (u.withdrawItem k) := by
  unfold State.withdrawItem
  split
  next contends =>
    split
    · exact h.onBus rfl ⟨rfl, .inr ⟨k, Bus.contends_iff.mp contends, claim⟩, fun i hi e => ⟨i, hi, e, id⟩, fun _ => id⟩ .inl
    · exact h
  next =>
    split
    · exact h
    · exact h.dropItem claim

/-- An item kept for another attempt, its mark cleared (R35). -/
theorem keepItem (h : s.inBalanceWith u) (k : FrameKind) (n : Nat) : s.inBalanceWith (u.keepItem k n) := by
  refine h.onBus rfl (.modify _ (f := fun i => { i with attempts := n, postedAgain := false }) (fun _ => rfl) fun _ _ => nofun)
    fun has => .inl ?_
  exact (u.bus.has_modify .leave k (fun i => { i with attempts := n, postedAgain := false }) fun _ => rfl).symm.trans has

theorem post (h : s.inBalanceWith u) (c : EventCode) (a : Byte) : s.inBalanceWith (u.post c a) :=
  h.elsewhere (by simp [State.balanceView])

theorem postPhase (h : s.inBalanceWith u) : s.inBalanceWith u.postPhase := h.post _ _

theorem setBlocked (h : s.inBalanceWith u) (x : Option LoadIx) : s.inBalanceWith (u.setBlocked x) := h.elsewhere rfl

theorem setRequest (h : s.inBalanceWith u) (w : Option Word16) : s.inBalanceWith (u.setRequest w) := h.elsewhere rfl

theorem takeCap (h : s.inBalanceWith u) (w : Word16) : s.inBalanceWith (u.takeCap w) := by
  unfold State.takeCap
  (repeat' split)
  · exact h.elsewhere rfl
  · exact (h.setRequest none).withdrawItem nofun
  · exact (h.setRequest _).send nofun nofun
  · exact h.setRequest _

theorem takeHeldCap (h : s.inBalanceWith u) : s.inBalanceWith u.takeHeldCap := by
  unfold State.takeHeldCap
  split
  · exact State.inBalanceWith.takeCap (h.elsewhere (by rfl)) _
  · exact h

theorem capApplied (h : s.inBalanceWith u) (q : Station) (w : Word16) : s.inBalanceWith (u.capApplied q w) := by
  unfold State.capApplied
  split
  · exact (h.setRequest none).withdrawItem nofun
  · exact h

theorem compareCap (h : s.inBalanceWith u) : s.inBalanceWith u.compareCap := by
  unfold State.compareCap
  (repeat' split)
  · exact h.setRequest none
  · exact h.send nofun nofun
  · exact h

theorem askLimit (h : s.inBalanceWith u) : s.inBalanceWith u.askLimit := h.elsewhere (by simp [State.balanceView])

theorem freezeApplied (h : s.inBalanceWith u) (d : TimeCode) : s.inBalanceWith (u.freezeApplied d) :=
  State.inBalanceWith.withdrawItem (h.elsewhere (by rfl)) (by nofun)

theorem thawApplied (h : s.inBalanceWith u) : s.inBalanceWith u.thawApplied :=
  State.inBalanceWith.withdrawItem (h.elsewhere (by rfl)) (by nofun)

theorem reachActive (h : s.inBalanceWith u) : s.inBalanceWith u.reachActive := by
  have compared := (h.setBlocked none).compareCap
  unfold State.reachActive State.repostFreeze
  split
  · exact compared.send nofun nofun
  · exact compared

theorem withdrawEvictIfUnmarked (h : s.inBalanceWith u) : s.inBalanceWith u.withdrawEvictIfUnmarked := by
  unfold State.withdrawEvictIfUnmarked
  split
  · exact h
  · exact h.withdrawItem nofun

theorem heard (h : s.inBalanceWith u) (q : Station) : s.inBalanceWith (u.heard q) := by
  unfold State.heard
  dsimp only
  (repeat' split)
  · exact h
  · exact State.inBalanceWith.withdrawEvictIfUnmarked (h.elsewhere (by rfl))
  · exact h.elsewhere rfl

theorem memberRemoved (h : s.inBalanceWith u) (q : Station) : s.inBalanceWith (u.memberRemoved q) :=
  State.inBalanceWith.withdrawEvictIfUnmarked (h.elsewhere (by rfl))

theorem sendSeek (h : s.inBalanceWith u) : s.inBalanceWith u.sendSeek := State.inBalanceWith.send (h.elsewhere (by rfl)) (by nofun) (by nofun)

theorem abandon (h : s.inBalanceWith u) (c : AbandonCause) : s.inBalanceWith (u.abandon c) :=
  State.inBalanceWith.sendSeek (State.inBalanceWith.post (h.elsewhere (by rfl)) _ _)

theorem record (h : s.inBalanceWith u) (r : ChangeRecord) : s.inBalanceWith (u.record r) := by
  unfold State.record
  (repeat' split)
  · exact h
  · exact h.elsewhere rfl
  · exact h.elsewhere rfl
  · exact h.abandon .overflow

theorem countFrame (h : s.inBalanceWith u) (k : FrameKind) (q : Station) : s.inBalanceWith (u.countFrame k q) := by
  unfold State.countFrame
  split
  · exact h.elsewhere rfl
  · exact h

theorem noteSegmentZero (h : s.inBalanceWith u) : s.inBalanceWith u.noteSegmentZero := by
  have cleared : s.inBalanceWith { u with member := { u.member with imageOwed := false } } := h.elsewhere rfl
  unfold State.noteSegmentZero
  dsimp only
  split
  · exact cleared.withdrawItem nofun
  · exact cleared

theorem advanceTrain (h : s.inBalanceWith u) (seg : Segment) : s.inBalanceWith (u.advanceTrain seg) := by
  unfold State.advanceTrain
  split
  · exact State.inBalanceWith.send (h.elsewhere (by rfl)) (by nofun) (by nofun)
  · split
    · exact State.inBalanceWith.send (h.elsewhere (by rfl)) (by nofun) (by nofun)
    · exact h.elsewhere rfl

/-- An item posted where its cause stands. -/
theorem sendIf (h : s.inBalanceWith u) (b : Bool) {k : FrameKind} (claim : k ≠ .claim) (leave : k ≠ .leave) :
    s.inBalanceWith (if b then u.send k else u) := by
  split
  · exact h.send claim fun e => absurd e leave
  · exact h

theorem standEvict (h : s.inBalanceWith u) : s.inBalanceWith u.standEvict := h.sendIf _ (by nofun) (by nofun)

theorem standThaw (h : s.inBalanceWith u) : s.inBalanceWith u.standThaw := h.sendIf _ (by nofun) (by nofun)

theorem standImage (h : s.inBalanceWith u) : s.inBalanceWith u.standImage := h.sendIf _ (by nofun) (by nofun)

/-- What the posting block makes of an accepted frame, the latched amounts of a RELEASE apart. -/
theorem toldAccepted (h : s.inBalanceWith u) {c : Change} (other : c.kind ≠ .release) : s.inBalanceWith (u.toldAccepted c) := by
  unfold State.toldAccepted
  split
  · exact absurd rfl other
  · split <;> exact h.elsewhere rfl
  · exact h.elsewhere rfl
  all_goals exact h

theorem afterCap (h : s.inBalanceWith u) (c : Change) : s.inBalanceWith (u.afterCap c) := by
  unfold State.afterCap
  split
  · exact h.takeHeldCap
  · exact h

/-- A latched item other than CLAIM leaves the list; LEAVE is in flight in LEAVING alone. -/
theorem retire (h : s.inBalanceWith u) {k : FrameKind} (claim : k ≠ .claim) (leave : k = .leave → u.member.participation = .leaving) :
    s.inBalanceWith (u.retire k) := by
  unfold State.retire
  (repeat' split)
  · exact (h.dropItem claim).send claim leave
  · exact h.dropItem claim
  · exact h

/-! ## Loads that neither claim nor free units -/

/-- A record whose state occupies as much, and claims as little. -/
theorem setLoad (h : s.inBalanceWith u) {r : LoadRecord} (claims : r.state.claims = (u.load x).state.claims)
    (units : r.state.units (u.cfg x) = u.occupied x) : s.inBalanceWith (u.setLoad x r) := by
  have occupied (y : LoadIx) : (u.setLoad x r).occupied y = u.occupied y := by
    rw [State.occupied_setLoad]
    split
    next e => rw [← e, units]
    next => rfl
  refine h.trans ⟨rfl, rfl, fun _ => rfl, fun y => ?_, fun y _ => occupied y, rfl, rfl, fun _ _ k => ?_, .refl _, .inl⟩
  · rw [State.load_setLoad]
    split
    next e => rw [← e, claims]
    next => rfl
  · unfold State.occupiedIn
    simp only [occupied, State.cfg_setLoad]
    rfl

/-- A record that differs in its other fields. -/
theorem setLoad_of_state (h : s.inBalanceWith u) {r : LoadRecord} (state : r.state = (u.load x).state) :
    s.inBalanceWith (u.setLoad x r) := h.setLoad (by rw [state]) (by rw [state]; rfl)

theorem enterQueue (h : s.inBalanceWith u) (x : LoadIx) : s.inBalanceWith (u.enterQueue x) := by
  unfold State.enterQueue
  split
  next enters =>
    obtain ⟨off, -⟩ := enters
    refine (h.setLoad (r := { u.load x with state := .waiting }) ?_ ?_).elsewhere rfl
    · rw [off]
      rfl
    · rw [State.occupied, off]
      rfl
  · exact h

theorem raiseFromKeep (h : s.inBalanceWith u) (x : LoadIx) : s.inBalanceWith (u.raiseFromKeep x) := by
  unfold State.raiseFromKeep
  split
  next keep =>
    refine (h.setLoad (r := { u.load x with state := .raiseWait }) ?_ ?_).elsewhere rfl
    · rw [keep]
      rfl
    · rw [State.occupied, keep]
      rfl
  · exact h

theorem wishFull (h : s.inBalanceWith u) (x : LoadIx) : s.inBalanceWith (u.wishFull x) := by
  unfold State.wishFull
  split
  · exact h
  · exact State.inBalanceWith.raiseFromKeep (h.setLoad_of_state (by rfl)) x

theorem wantLoad (h : s.inBalanceWith u) (x : LoadIx) : s.inBalanceWith (u.wantLoad x) := by
  unfold State.wantLoad
  dsimp only
  split
  · exact h.wishFull x
  · exact ((h.wishFull x).setLoad_of_state (by rfl)).enterQueue x

theorem permitLoad (h : s.inBalanceWith u) (x : LoadIx) : s.inBalanceWith (u.permitLoad x) := by
  unfold State.permitLoad
  split
  · exact (h.setLoad_of_state (by rfl)).enterQueue x
  · exact h

theorem clearFaultLoad (h : s.inBalanceWith u) (fault : (u.load x).state = .fault) : s.inBalanceWith (u.clearFaultLoad x) := by
  refine (h.setLoad ?_ ?_).enterQueue x
  · rw [fault]
    rfl
  · rw [State.occupied, fault]
    rfl

/-! ## Units freed (R120) -/

/-- A load that claims neither before nor after leaves units to the open account. -/
theorem freed (h : s.inBalanceWith u) {r : LoadRecord} {n : Nat} (before : (u.load x).state.claims = false)
    (after : r.state.claims = false) (units : u.levelsFit → u.member.participation.inStep = true →
      r.state.units (u.cfg x) + n = u.occupied x) (same : v.balanceView = (u.setLoad x r).balanceView) :
    s.inBalanceWith (v.freeUnits (u.cfg x).cls n) := by
  have moved : u.inBalanceWith ({ u.setLoad x r with
      demand := { u.demand with openUnits := addAt u.demand.openUnits (u.cfg x).cls n } }) := by
    refine ⟨rfl, rfl, fun _ => rfl, fun y => ?_, fun y claims => ?_, rfl, rfl, fun levels step k => ?_, .refl _, .inl⟩
    · refine (congrArg (·.state.claims) (u.load_setLoad x y r)).trans ?_
      split
      next e => rw [after, ← e, before]
      next => rfl
    · refine (u.occupied_setLoad x y r).trans (if_neg fun e => ?_)
      rw [← e, before] at claims
      cases claims
    · refine State.balance_of_freed (s := u) (x := x) (n := n) (u := { u.setLoad x r with
        demand := { u.demand with openUnits := addAt u.demand.openUnits (u.cfg x).cls n } }) rfl (fun y => u.load_setLoad_of_ne r) ?_ rfl k
      rw [← units levels step]
      exact congrArg (· + n) ((u.occupied_setLoad x x r).trans (if_pos rfl))
  simp only [State.balanceView, Prod.mk.injEq] at same
  obtain ⟨settings, participation, entry, records, slot, openUnits, latchedUnits, line, items, held⟩ := same
  have opened : s.inBalanceWith { v with demand := { v.demand with openUnits := addAt v.demand.openUnits (u.cfg x).cls n } } := by
    refine (h.trans moved).elsewhere ?_
    simp only [State.balanceView, settings, participation, entry, records, slot, openUnits, latchedUnits, line, items, held]
    rfl
  unfold State.freeUnits
  split
  next none_freed =>
    refine opened.elsewhere ?_
    subst none_freed
    simp only [addAt_zero]
  next => exact opened.send nofun nofun

theorem lowerToKeep (h : s.inBalanceWith u) (x : LoadIx) : s.inBalanceWith (u.lowerToKeep x) := by
  by_cases lowers : ((u.load x).state = .ramping ∨ (u.load x).state = .on) ∧ 0 < (u.cfg x).keep.toNat
  · rw [State.lowerToKeep_of_high lowers]
    obtain ⟨high, -⟩ := lowers
    refine h.freed ?_ rfl (fun levels step => ?_) rfl
    · rcases high with e | e <;> rw [e] <;> rfl
    · have fits := levels.of_inStep step x
      have before : u.occupied x = (u.cfg x).full.toNat := by
        unfold State.occupied
        rcases high with e | e <;> rw [e] <;> rfl
      rw [before]
      exact Nat.add_sub_of_le fits
  · rwa [show u.lowerToKeep x = u from if_neg lowers]

theorem shedToKeep (h : s.inBalanceWith u) (x : LoadIx) : s.inBalanceWith (u.shedToKeep x) := by
  have lowered := (h.lowerToKeep x).post .shed (argOf x.val)
  unfold State.shedToKeep
  dsimp only
  split
  · exact lowered.raiseFromKeep x
  · exact lowered

end State.inBalanceWith

end Sys2Proof.Machine
end

section
/-! SUPPORT. The balance of a state without a claim, and the end of a claim with its load off, in FAULT, or in KEEP (R95, R100, R102, R103,
R113, R133). -/

namespace Sys2Proof.Machine

/-! ## Without a claim -/

/-- No claim and no state-changing frame of the node's own is about. -/
structure State.vacant (s : State) : Prop where
  quiet : ∀ k : FrameKind, k.changes = true → s.bus.contends k = false ∧ s.bus.latched k = false
  held : s.bus.withdrawHeld = true → ∃ k, s.bus.line = .contending k
  leave : s.bus.has .leave = true → s.member.participation = .leaving
  slot : s.demand.slot = none
  idle : ∀ x : LoadIx, (s.load x).state.claims = false
  item : s.bus.has .claim = false
  latchedUnits : s.demand.latchedUnits = .replicate 4 0

theorem Bus.latched_of_line {b : Bus} {body : FrameBody} (line : b.line = .sending body) : b.latched body.kind = true :=
  Bus.latched_iff.mpr ⟨body, line, rfl⟩

/-- With no claim about, the levels and the account are all that the balance asks. -/
theorem State.vacant.balanced {s : State} (h : s.vacant) (levels : s.levelsFit) (account : s.accountSound) : s.balanced := by
  have not_latched {body : FrameBody} (changes : body.kind.changes = true) : s.bus.line ≠ .sending body := fun line =>
    absurd ((h.quiet _ changes).2.symm.trans (Bus.latched_of_line line)) nofun
  refine ⟨⟨levels, ⟨fun some_leave => ?leave, fun k changes sent => ?changes, fun contends => ?item, h.held⟩,
    ⟨fun c slot => ?filled, fun x claims => ?claiming, fun b k u tag line => absurd line (not_latched rfl), fun i hi claim => ?unmarked⟩,
    account⟩, fun has => ?backed, fun b a line => absurd line (not_latched rfl), fun _ => h.latchedUnits⟩
  case leave =>
    obtain ⟨contends, latched⟩ := h.quiet .leave rfl
    exact h.leave (by simpa [contends, latched] using some_leave)
  case changes =>
    obtain ⟨contends, latched⟩ := h.quiet k changes
    simp [contends, latched] at sent
  case item => exact absurd ((h.quiet .claim rfl).1.symm.trans contends) nofun
  case filled => exact absurd (h.slot.symm.trans slot) nofun
  case claiming => exact absurd ((h.idle x).symm.trans claims) nofun
  case unmarked => exact absurd (h.item.symm.trans (Bus.has_iff.mpr ⟨i, hi, claim⟩)) nofun
  case backed => exact absurd (h.item.symm.trans has) nofun

theorem State.vacant.inBalance {s u : State} (h : s.vacant) (hu : s.inBalanceWith u) : u.vacant where
  quiet k changes := by
    rw [Bus.contends_congr hu.bus.line, Bus.latched_congr hu.bus.line]
    exact h.quiet k changes
  held held := by
    rw [hu.bus.line]
    rcases hu.bus.held with same | ⟨k, line, -⟩
    · exact h.held (same ▸ held)
    · exact ⟨k, line⟩
  leave has := by
    rw [hu.participation]
    exact (hu.leave has).elim h.leave id
  slot := hu.slot.trans h.slot
  idle x := (hu.claims x).trans (h.idle x)
  item := Bool.eq_false_iff.mpr fun has => absurd (h.item.symm.trans (hu.bus.has has)) nofun
  latchedUnits := hu.latchedUnits.trans h.latchedUnits

/-- Out of step no claim is about. -/
theorem State.balanced.vacant {s : State} (h : s.balanced) (out : s.member.participation.inStep = false) : s.vacant := by
  have slot : s.demand.slot = none := by
    cases slot : s.demand.slot with
    | none => rfl
    | some c => exact absurd (out.symm.trans (h.claims.filled c slot).1) nofun
  have quiet (k : FrameKind) (changes : k.changes = true) : s.bus.contends k = false ∧ s.bus.latched k = false := by
    have not_sent := mt (h.sends.changes k changes) (by simp [out])
    simpa using not_sent
  refine ⟨quiet, h.sends.held, fun has => h.sends.leave (.inl has), slot, fun x => Bool.eq_false_iff.mpr fun claims => ?_,
    Bool.eq_false_iff.mpr fun has => ?_, h.latch.2 fun b a line => ?_⟩
  · obtain ⟨-, c, filled, -⟩ := h.claims.claiming x claims
    exact absurd (slot.symm.trans filled) nofun
  · have filled := h.backed has
    rw [slot] at filled
    cases filled
  · exact absurd ((quiet .release rfl).2.symm.trans (Bus.latched_of_line line)) nofun

/-- On a line without an item of the node none of its own frames is about. -/
theorem Bus.calm.quiet {b : Bus} (h : b.calm) (k : FrameKind) (_ : k.changes = true) : b.contends k = false ∧ b.latched k = false := h k

theorem State.sendsSound.not_held {s : State} (h : s.sendsSound) (calm : s.bus.calm) : s.bus.withdrawHeld = false := by
  refine Bool.eq_false_iff.mpr fun held => ?_
  obtain ⟨k, line⟩ := h.held held
  exact absurd ((calm k).1.symm.trans (Bus.contends_iff.mpr line)) nofun

theorem Bus.calm.claimHeld {b : Bus} (h : b.calm) : b.claimHeld = false := by rw [Bus.claimHeld, (h .claim).1]; rfl

/-! ## The end of a claim (R113) -/

/-- All that the balance asks beside levels and account. -/
structure State.inOrder (s : State) : Prop where
  sends : s.sendsSound
  claims : s.claimsSound
  backed : s.claimBacked
  latch : s.latchSound

theorem State.inOrder.balanced {s : State} (h : s.inOrder) (levels : s.levelsFit) (account : s.accountSound) : s.balanced :=
  ⟨⟨levels, h.sends, h.claims, account⟩, h.backed, h.latch⟩

theorem State.inOrder.inBalance {s u : State} (h : s.inOrder) (hu : s.inBalanceWith u) : u.inOrder :=
  ⟨h.sends.inBalance hu, h.claims.inBalance hu, h.backed.inBalance hu, State.latchSound_congr h.latch hu.bus.line hu.latchedUnits⟩

/-- The open account is no matter of the order. -/
theorem State.inOrder.freeUnits {s : State} (h : s.inOrder) (k : ClassIx) (n : Nat) : (s.freeUnits k n).inOrder := by
  have opened (v : Vector Nat 4) : { s with demand := { s.demand with openUnits := v } }.inOrder :=
    ⟨⟨h.sends.leave, h.sends.changes, h.sends.item, h.sends.held⟩,
      ⟨h.claims.filled, h.claims.claiming, h.claims.sent, h.claims.unmarked⟩, h.backed, h.latch⟩
  unfold State.freeUnits
  split
  · exact h
  · exact (opened _).inBalance ((State.inBalanceWith.refl _).send nofun nofun)

/-- A CLAIM in flight is the slot's, latched. -/
theorem State.claimsSound.slot_of_latched {s : State} (h : s.claimsSound) (latched : s.bus.latched .claim = true) :
    ∃ c, s.demand.slot = some c ∧ c.latched = true := by
  obtain ⟨body, line, kind⟩ := Bus.latched_iff.mp latched
  cases body with
  | change b c =>
    cases c with
    | claim k u tag =>
      obtain ⟨c, slot, latched, -⟩ := h.sent b k u tag line
      exact ⟨c, slot, latched⟩
    | _ => cases kind
  | _ => cases kind

/-- Where no load claims, a filled slot is orphaned or its withdrawal is held. -/
theorem State.claimsSound_of_idle {s : State} (idle : ∀ x : LoadIx, (s.load x).state.claims = false)
    (filled : ∀ c, s.demand.slot = some c → s.member.participation.inStep = true ∧ c.units ≤ 255
      ∧ (c.orphaned = true ∨ s.bus.claimHeld = true))
    (sent : ∀ b k u tag, s.bus.line = .sending (.change b (.claim k u tag)) →
      ∃ c, s.demand.slot = some c ∧ c.latched = true ∧ c.cls = k ∧ c.units = u.toNat)
    (unmarked : ∀ i ∈ s.bus.items, i.kind = .claim → i.postedAgain = false) : s.claimsSound :=
  ⟨fun c slot => (filled c slot).imp_right (And.imp_right (Or.imp_right .inl)),
    fun x claims => absurd ((idle x).symm.trans claims) nofun, sent, unmarked⟩

section ended

variable {s v : State} {x : LoadIx}

/-- The load of the claim alone has left its state, for one in which it does not claim. -/
structure State.leavesClaim (x : LoadIx) (s v : State) : Prop where
  claims : (s.load x).state.claims = true
  left : (v.load x).state.claims = false
  others : ∀ y, x ≠ y → v.load y = s.load y
  participation : v.member.participation = s.member.participation
  bus : v.bus = s.bus
  slot : v.demand.slot = s.demand.slot
  latchedUnits : v.demand.latchedUnits = s.demand.latchedUnits

/-- On the line of before, with no LEAVE new and no CLAIM gone that is contended with. -/
theorem State.sendsSound.sameLine (h : s.sendsSound) (participation : v.member.participation = s.member.participation)
    (line : v.bus.line = s.bus.line) (leave : v.bus.has .leave = true → s.bus.has .leave = true)
    (item : s.bus.contends .claim = true → v.bus.has .claim = true)
    (held : v.bus.withdrawHeld = true → ∃ k, s.bus.line = .contending k) : v.sendsSound where
  leave some_leave := by
    rw [Bus.contends_congr line, Bus.latched_congr line] at some_leave
    exact participation.trans (h.leave (some_leave.imp_left leave))
  changes k changes sent := by
    rw [Bus.contends_congr line, Bus.latched_congr line] at sent
    exact participation ▸ h.changes k changes sent
  item contends := item (Bus.contends_congr line _ ▸ contends)
  held is_held := line ▸ held is_held

/-- What the end of a claim leaves in order: no load claims, the slot is empty or holds a claim that waits for its end, and the CLAIM item
goes with the slot. -/
theorem State.inOrder.ended (h : s.inOrder) (sends : v.sendsSound) (idle : ∀ y : LoadIx, (v.load y).state.claims = false)
    (participation : v.member.participation = s.member.participation) (line : v.bus.line = s.bus.line)
    (items : ∀ i ∈ v.bus.items, i ∈ s.bus.items) (latchedUnits : v.demand.latchedUnits = s.demand.latchedUnits)
    (slot : v.demand.slot = none ∧ s.bus.latched .claim = false ∧ v.bus.has .claim = false
      ∨ ∃ c c', s.demand.slot = some c ∧ v.demand.slot = some c' ∧ c'.cls = c.cls ∧ c'.units = c.units ∧ c'.latched = c.latched
        ∧ (c'.orphaned = true ∨ v.bus.claimHeld = true)) : v.inOrder := by
  refine ⟨sends, State.claimsSound_of_idle idle (fun d filled => ?filled) (fun b k u tag sent => ?sent)
    (fun i hi => h.claims.unmarked i (items i hi)), fun has => ?backed, State.latchSound_congr h.latch line latchedUnits⟩
  all_goals rcases slot with ⟨empty, not_sent, no_item⟩ | ⟨c, c', before, after, cls, units, latched, waits⟩
  case filled.inl => exact absurd (empty.symm.trans filled) nofun
  case filled.inr =>
    obtain rfl := Option.some.inj (after.symm.trans filled)
    obtain ⟨step, small, -⟩ := h.claims.filled c before
    exact ⟨participation ▸ step, units ▸ small, waits⟩
  case sent.inl =>
    have in_flight : s.bus.latched .claim = true := Bus.latched_of_line (line ▸ sent)
    exact absurd (not_sent.symm.trans in_flight) nofun
  case sent.inr =>
    obtain ⟨d, filled, in_flight, cls', units'⟩ := h.claims.sent b k u tag (line ▸ sent)
    obtain rfl := Option.some.inj (before.symm.trans filled)
    exact ⟨c', after, latched.trans in_flight, cls.trans cls', units.trans units'⟩
  case backed.inl => exact absurd (no_item.symm.trans has) nofun
  case backed.inr =>
    rw [after]
    rfl

/-- The end of a claim reads and writes slot and send list alone. -/
theorem State.endClaim_congr (slot : v.demand.slot = s.demand.slot) (bus : v.bus = s.bus) :
    (v.endClaim x).demand.slot = (s.endClaim x).demand.slot ∧ (v.endClaim x).bus = (s.endClaim x).bus := by
  have withdrawn : (v.withdrawItem .claim).bus = (s.withdrawItem .claim).bus := by
    unfold State.withdrawItem State.dropItem
    rw [bus]
    (repeat' split)
    · rfl
    · exact bus
    · exact bus
    · rfl
  unfold State.endClaim
  rw [slot, bus]
  (repeat' split)
  · exact ⟨rfl, bus⟩
  · exact ⟨by simp [slot], withdrawn⟩
  · exact ⟨rfl, withdrawn⟩
  · exact ⟨slot, bus⟩
  · exact ⟨slot, bus⟩

/-- What the end of a claim makes of slot and send list: orphaned in flight, its withdrawal held, or slot and item gone (R113). -/
theorem State.inOrder.endClaim_cases (h : s.inOrder) {c : ClaimSlot} (filled : s.demand.slot = some c) (load : c.load = x) :
    (s.endClaim x).demand.slot = some { c with orphaned := true } ∧ (s.endClaim x).bus = s.bus
      ∨ s.bus.contends .claim = true ∧ (s.endClaim x).demand.slot = some c ∧ (s.endClaim x).bus = { s.bus with withdrawHeld := true }
      ∨ s.bus.contends .claim = false ∧ s.bus.latched .claim = false ∧ (s.endClaim x).demand.slot = none
        ∧ (s.endClaim x).bus = s.bus.drop .claim := by
  by_cases latched : c.latched = true
  · rw [State.endClaim_of_latched filled load latched]
    exact .inl ⟨rfl, rfl⟩
  · replace latched : c.latched = false := by simpa using latched
    refine .inr ?_
    have not_sent : s.bus.latched .claim = false := Bool.eq_false_iff.mpr fun sent => by
      obtain ⟨c', slot', latched'⟩ := h.claims.slot_of_latched sent
      obtain rfl := Option.some.inj (filled.symm.trans slot')
      exact absurd (latched.symm.trans latched') nofun
    cases contends : s.bus.contends .claim with
    | true =>
      rw [State.endClaim_of_contends filled load latched contends, State.withdrawItem_of_contends contends (h.sends.item contends)]
      exact .inl ⟨rfl, filled, rfl⟩
    | false =>
      rw [State.endClaim_of_posted filled load latched contends, State.withdrawItem_of_waiting contends not_sent]
      exact .inr ⟨rfl, not_sent, rfl, rfl⟩

/-- Where the claim of the slot has ended and no load claims, all is in order. -/
theorem State.inOrder.slotEnded (h : s.inOrder) {c : ClaimSlot} (filled : s.demand.slot = some c) (load : c.load = x)
    (slot : v.demand.slot = (s.endClaim x).demand.slot) (bus : v.bus = (s.endClaim x).bus)
    (participation : v.member.participation = s.member.participation) (latchedUnits : v.demand.latchedUnits = s.demand.latchedUnits)
    (idle : ∀ y : LoadIx, (v.load y).state.claims = false) : v.inOrder := by
  have sends := h.sends
  rcases h.endClaim_cases filled load with ⟨slot', bus'⟩ | ⟨contends, slot', bus'⟩ | ⟨calm, not_sent, slot', bus'⟩
  all_goals
    rw [slot'] at slot
    rw [bus'] at bus
  · refine h.ended (sends.sameLine participation (by rw [bus]) ?_ ?_ ?_) idle participation (by rw [bus]) ?_ latchedUnits
      (.inr ⟨c, _, filled, slot, rfl, rfl, rfl, .inl rfl⟩) <;> rw [bus]
    exacts [id, sends.item, sends.held, fun _ => id]
  · have held : v.bus.claimHeld = true := by
      rw [bus]
      exact Bool.and_eq_true_iff.mpr ⟨contends, rfl⟩
    refine h.ended (sends.sameLine participation (by rw [bus]) ?_ ?_ ?_) idle participation (by rw [bus]) ?_ latchedUnits
      (.inr ⟨c, c, filled, slot, rfl, rfl, rfl, .inr held⟩) <;> rw [bus]
    exacts [id, sends.item, fun _ => ⟨_, Bus.contends_iff.mp contends⟩, fun _ => id]
  · refine h.ended (sends.sameLine participation (by rw [bus]; rfl) ?_ (fun e => absurd (calm.symm.trans e) nofun) ?_) idle participation
      (by rw [bus]; rfl) ?_ latchedUnits (.inl ⟨slot, not_sent, by rw [bus, Bus.has_drop_self]⟩) <;> rw [bus]
    exacts [fun has => (s.bus.has_drop_of_ne (by nofun)).symm.trans has, sends.held, fun i hi => (List.mem_filter.mp hi).1]

/-- The claim of a load that leaves its state ends. -/
theorem State.inOrder.endClaim (h : s.inOrder) (hv : s.leavesClaim x v) : (v.endClaim x).inOrder := by
  obtain ⟨-, c, filled, load, -⟩ := h.claims.claiming x hv.claims
  obtain ⟨slot, bus⟩ := State.endClaim_congr (x := x) hv.slot hv.bus
  refine h.slotEnded filled load slot bus (by simpa using hv.participation) ((v.endClaim_account x).2.trans hv.latchedUnits) fun y => ?_
  rw [State.endClaim_load]
  by_cases same : x = y
  · exact same ▸ hv.left
  · refine Bool.eq_false_iff.mpr fun claiming => same ?_
    obtain ⟨-, c', filled', load', -⟩ := h.claims.claiming y (hv.others y same ▸ claiming)
    rw [← load, ← load', Option.some.inj (filled.symm.trans filled')]

end ended

end Sys2Proof.Machine
end

section
/-! SUPPORT. The balance through the operations of the loads: dropped, lowered, shed, and moved by a group code (R95, R100 to R104, R133,
R149). -/

namespace Sys2Proof.Machine

/-- Units between loads and open account alone have moved. -/
theorem State.accountSound.moved {s u : State} (h : s.accountSound) (participation : u.member.participation = s.member.participation)
    (entry : u.table.entries[u.address] = s.table.entries[s.address]) (latchedUnits : u.demand.latchedUnits = s.demand.latchedUnits)
    (balance : ∀ k : ClassIx, u.occupiedIn k + u.demand.openUnits[k] = s.occupiedIn k + s.demand.openUnits[k]) : u.accountSound := by
  refine ⟨fun joining => ?_, fun step k => ?_⟩ <;> rw [participation] at * <;> rw [entry]
  · exact h.absent joining
  · rw [balance, latchedUnits]
    exact h.balance step k

/-- Where an operation leaves the settings, the participation state and the table, the levels and the own entry stand. -/
theorem State.entry_congr {s u : State} (table : u.table = s.table) (address : u.address = s.address) :
    u.table.entries[u.address] = s.table.entries[s.address] := by simp only [table, address]

theorem State.dropLoad_latchedUnits (s : State) (x : LoadIx) (l : LoadState) :
    (s.dropLoad x l).demand.latchedUnits = s.demand.latchedUnits := by
  unfold State.dropLoad
  dsimp only
  rw [State.freeUnits_demand]
  split
  · exact (State.endClaim_account _ x).2
  · rfl

/-- A load that claimed is set to a state in which it does not, and neither granted nor queued. -/
theorem State.leavesClaim_of_setLoad (s : State) {x : LoadIx} (claims : (s.load x).state.claims = true) {r : LoadRecord}
    (left : r.state.claims = false) : s.leavesClaim x (((s.setLoad x r).ungrant x).dequeue x) where
  claims := claims
  left := (congrArg (·.state.claims) (s.load_setLoad_self x r)).trans left
  others _ other := s.load_setLoad_of_ne _ other
  participation := rfl
  bus := rfl
  slot := rfl
  latchedUnits := rfl

theorem State.dropLoad_of_claims (s : State) {x : LoadIx} (claims : (s.load x).state.claims = true) (l : LoadState) :
    s.dropLoad x l = ((((s.setLoad x { s.load x with state := l, ramp := none }).ungrant x).dequeue x).endClaim x).freeUnits
      (s.cfg x).cls (s.occupied x) := by
  unfold State.dropLoad
  dsimp only
  rw [if_pos claims, State.cfg_congr (s := s) (by simp)]

namespace State.balanced

variable {s : State}

theorem inOrder (h : s.balanced) : s.inOrder := ⟨h.sends, h.claims, h.backed, h.latch⟩

/-- A dropped load leaves its units to the open account, and its claim ends. -/
theorem dropLoad (h : s.balanced) (x : LoadIx) {l : LoadState} (target : l = .off ∨ l = .fault) : (s.dropLoad x l).balanced := by
  obtain ⟨left, idle⟩ : l.claims = false ∧ l.units (s.cfg x) = 0 := by rcases target with rfl | rfl <;> exact ⟨rfl, rfl⟩
  by_cases claims : (s.load x).state.claims = true
  · refine State.inOrder.balanced ?_ (State.levelsFit_congr (by simp) (by simp) h.levels)
      (h.account.moved (by simp) (State.entry_congr (by simp) (by simp)) (s.dropLoad_latchedUnits x l) fun k => ?_)
    · exact s.dropLoad_of_claims claims l ▸ (h.inOrder.endClaim (s.leavesClaim_of_setLoad claims left)).freeUnits _ _
    · refine State.balance_of_freed (x := x) (by simp) (fun y other => ?_) ?_ (s.dropLoad_openUnits x l) k
      · rw [State.dropLoad_load, if_neg other]
      · rw [State.occupied, State.dropLoad_load, if_pos rfl, State.cfg_congr (s := s) (by simp)]
        exact (congrArg (· + s.occupied x) idle).trans (Nat.zero_add _)
  · have not_claims : (s.load x).state.claims = false := by simpa using claims
    have dropped : s.dropLoad x l
        = (((s.setLoad x { s.load x with state := l, ramp := none }).ungrant x).dequeue x).freeUnits (s.cfg x).cls (s.occupied x) := by
      unfold State.dropLoad
      dsimp only
      rw [if_neg claims]
      rfl
    rw [dropped]
    exact h.inBalance ((State.inBalanceWith.refl s).freed not_claims left
      (fun _ _ => (congrArg (· + s.occupied x) idle).trans (Nat.zero_add _)) rfl)

theorem turnOff (h : s.balanced) (x : LoadIx) : (s.turnOff x).balanced := by
  unfold State.turnOff
  split
  · exact h
  · exact h
  · exact h.dropLoad x (.inl rfl)

theorem faultLoad (h : s.balanced) (x : LoadIx) (c : FaultCause) : (s.faultLoad x c).balanced :=
  (h.dropLoad x (.inr rfl)).inBalance (((State.inBalanceWith.refl _).setLoad_of_state (by rfl)).post _ _)

theorem setLoad_of_state (h : s.balanced) {x : LoadIx} {r : LoadRecord} (state : r.state = (s.load x).state) : (s.setLoad x r).balanced :=
  h.inBalance ((State.inBalanceWith.refl s).setLoad_of_state state)

theorem unwantLoad (h : s.balanced) (x : LoadIx) : (s.unwantLoad x).balanced := by
  unfold State.unwantLoad
  split
  · exact State.balanced.turnOff (h.setLoad_of_state (by rfl)) x
  · exact h

theorem inhibitLoad (h : s.balanced) (x : LoadIx) : (s.inhibitLoad x).balanced := by
  unfold State.inhibitLoad
  split
  · exact h
  · exact State.balanced.turnOff (h.setLoad_of_state (by rfl)) x

/-- A load in RAISE_CLAIM whose wish becomes KEEP occupies what it did, and its claim ends (R96, R113). -/
theorem lowerClaim (h : s.balanced) {x : LoadIx} (claims : (s.load x).state = .raiseClaim) :
    (((s.setLoadState x .keep).dequeue x).endClaim x).balanced := by
  obtain ⟨openUnits, latchedUnits⟩ := ((s.setLoadState x .keep).dequeue x).endClaim_account x
  have load (y : LoadIx) : (((s.setLoadState x .keep).dequeue x).endClaim x).load y
      = if x = y then { s.load x with state := .keep } else s.load y := by
    rw [State.endClaim_load]
    exact s.load_setLoad x y _
  refine State.inOrder.balanced ?_ (State.levelsFit_congr (by simp) (by simp) h.levels)
    (h.account.moved (by simp) (State.entry_congr (by simp) (by simp)) latchedUnits fun k => ?_)
  · refine h.inOrder.endClaim (x := x) ⟨by rw [claims]; rfl, ?_, fun y => s.load_setLoad_of_ne _, rfl, rfl, rfl, rfl⟩
    exact congrArg (·.state.claims) (s.load_setLoad_self x { s.load x with state := .keep })
  · refine State.balance_of_freed (x := x) (n := 0) (by simp) (fun y other => by rw [load, if_neg other]) ?_ ?_ k
    · rw [State.occupied, State.occupied, load, if_pos rfl, claims, State.cfg_congr (s := s) (by simp)]
      rfl
    · rw [openUnits, addAt_zero]
      rfl

theorem wishKeep (h : s.balanced) (x : LoadIx) : (s.wishKeep x).balanced := by
  have wished : (s.setLoad x { s.load x with wish := .keep }).balanced := h.setLoad_of_state (by rfl)
  unfold State.wishKeep
  dsimp only
  generalize s.setLoad x { s.load x with wish := .keep } = v at wished
  have same := State.inBalanceWith.refl v
  split
  · exact h
  · split
    · exact wished.inBalance (same.lowerToKeep x)
    · exact wished.inBalance (same.lowerToKeep x)
    next waits =>
      refine wished.inBalance ((same.setLoad (r := { v.load x with state := .keep }) ?_ ?_).elsewhere rfl)
      · rw [waits]
        rfl
      · rw [State.occupied, waits]
        rfl
    next claims => exact wished.lowerClaim claims
    · exact wished

theorem wishLevel (h : s.balanced) (x : LoadIx) (l : Level) : (s.wishLevel x l).balanced := by
  cases l with
  | full => exact h.inBalance ((State.inBalanceWith.refl s).wishFull x)
  | keep => exact h.wishKeep x

theorem endRamp (h : s.balanced) {x : LoadIx} (ramping : (s.load x).state = .ramping) : (s.endRamp x).balanced := by
  unfold State.endRamp
  split
  · exact h.faultLoad x .ramp
  · refine h.inBalance (((State.inBalanceWith.refl s).setLoad ?_ ?_).post _ _)
    · rw [ramping]
      rfl
    · rw [State.occupied, ramping]
      rfl

/-! ## Group codes -/

theorem act (h : s.balanced) (x : LoadIx) (a : Action) : (s.act x a).balanced := by
  have same := State.inBalanceWith.refl s
  cases a with
  | inhibit => exact h.inhibitLoad x
  | keep => exact h.wishKeep x
  | withdraw =>
    change (if (s.cfg x).source = .soft then s.unwantLoad x else s).balanced
    split
    · exact h.unwantLoad x
    · exact h
  | permit => exact h.inBalance (same.permitLoad x)
  | request =>
    change (if (s.cfg x).source = .soft then s.wantLoad x else s).balanced
    split
    · exact h.inBalance (same.wantLoad x)
    · exact h

theorem applyCode (h : s.balanced) (c : Byte) : (s.applyCode c).balanced := by
  unfold State.applyCode
  split
  · refine List.foldlRecOn _ _ (h.inBalance ((State.inBalanceWith.refl s).post .groupMatched c)) fun v hv x _ => ?_
    unfold State.actOn
    split
    · exact hv.act x _
    · exact hv
  · exact h

/-! ## Shedding -/

theorem shedOff (h : s.balanced) (x : LoadIx) : (s.shedOff x).balanced :=
  (h.dropLoad x (.inl rfl)).inBalance (((State.inBalanceWith.refl _).post _ _).enterQueue x)

theorem shedKeeps (k : ClassIx) (n : Nat) : ∀ (l : List LoadIx) {s : State}, s.balanced → (shedKeeps k n l s).balanced
  | [], _, h => h
  | x :: xs, s, h => by
    unfold Machine.shedKeeps
    (repeat' split)
    · exact h
    · exact shedKeeps k n xs (h.inBalance ((State.inBalanceWith.refl s).shedToKeep x))
    · exact shedKeeps k n xs h

theorem shedOffs (k : ClassIx) (n : Nat) : ∀ (l : List LoadIx) {s : State}, s.balanced → (shedOffs k n l s).balanced
  | [], _, h => h
  | x :: xs, s, h => by
    unfold Machine.shedOffs
    (repeat' split)
    · exact h
    · exact shedOffs k n xs (h.shedOff x)
    · exact shedOffs k n xs h

theorem shedClass (h : s.balanced) (k : ClassIx) (n : Nat) : (s.shedClass k n).balanced := shedOffs k n _ (shedKeeps k n _ h)

theorem shedIfOverCap (h : s.balanced) : s.shedIfOverCap.balanced := by
  unfold State.shedIfOverCap
  split
  · refine List.foldlRecOn _ _ h fun v hv k _ => ?_
    dsimp only
    split
    · exact hv.shedClass k _
    · exact hv
  · exact h

end State.balanced

end Sys2Proof.Machine
end

section
/-! SUPPORT. The balance through the claim slot emptied and filled: composition and the end of a handling (R108, R111, R113, R116). -/

namespace Sys2Proof.Machine

/-! ## The slot emptied -/

section units

variable {s u : State}

/-- Where each load occupies what it did, so does each class. -/
theorem State.occupiedIn_of_units (settings : u.settings = s.settings) (units : ∀ x : LoadIx, u.occupied x = s.occupied x) (k : ClassIx) :
    u.occupiedIn k = s.occupiedIn k := by
  unfold State.occupiedIn
  simp only [units, State.cfg_congr settings]

/-- A load whose claim ends goes back to its place with the units it has (R115 to R117). -/
theorem State.returnLoad_load (s : State) (x y : LoadIx) :
    ((s.returnLoad x).load y).state = (s.load y).state ∨ x = y ∧
      ((s.load y).state = .claiming ∧ ((s.returnLoad x).load y).state = .waiting
        ∨ (s.load y).state = .raiseClaim ∧ ((s.returnLoad x).load y).state = .raiseWait) := by
  by_cases same : x = y
  · subst same
    unfold State.returnLoad
    split
    next e => exact .inr ⟨rfl, .inl ⟨e, by rw [State.setLoadState_load, if_pos rfl]⟩⟩
    next e => exact .inr ⟨rfl, .inr ⟨e, by rw [State.setLoadState_load, if_pos rfl]⟩⟩
    next => exact .inl rfl
  · refine .inl ?_
    unfold State.returnLoad
    split
    · rw [State.setLoadState_load, if_neg same]
    · rw [State.setLoadState_load, if_neg same]
    · rfl

theorem State.returnLoad_occupied (s : State) (x y : LoadIx) : (s.returnLoad x).occupied y = s.occupied y := by
  rw [State.occupied, State.occupied, State.cfg_congr (s := s) (by simp)]
  rcases s.returnLoad_load x y with e | ⟨-, ⟨before, after⟩ | ⟨before, after⟩⟩
  · rw [e]
  · rw [before, after]
    rfl
  · rw [before, after]
    rfl

theorem LoadState.of_claims {l : LoadState} (claims : l.claims = true) : l = .claiming ∨ l = .raiseClaim := by
  cases l with
  | claiming => exact .inl rfl
  | raiseClaim => exact .inr rfl
  | off | waiting | ramping | on | keep | raiseWait | fault => cases claims

theorem State.returnLoad_idle (s : State) (x : LoadIx) : ((s.returnLoad x).load x).state.claims = false := by
  unfold State.returnLoad
  split
  · rw [State.setLoadState_load, if_pos rfl]
    rfl
  · rw [State.setLoadState_load, if_pos rfl]
    rfl
  next not_claiming not_raising =>
    exact Bool.eq_false_iff.mpr fun claims => (LoadState.of_claims claims).elim not_claiming not_raising

/-- An emptied slot, the load of its claim back at its place or left. -/
theorem State.emptySlot_eq (s : State) : s.emptySlot = s ∧ s.demand.slot = none
    ∨ ∃ c, s.demand.slot = some c
      ∧ (c.orphaned = true ∧ s.emptySlot = s.setSlot none ∨ c.orphaned = false ∧ s.emptySlot = (s.returnLoad c.load).setSlot none) := by
  unfold State.emptySlot
  split
  next c slot =>
    refine .inr ⟨c, slot, ?_⟩
    cases orphaned : c.orphaned with
    | true => exact .inl ⟨rfl, by rw [if_pos rfl]⟩
    | false => exact .inr ⟨rfl, by rw [if_neg nofun]⟩
  next empty => exact .inl ⟨rfl, empty⟩

theorem State.emptySlot_occupied (s : State) (y : LoadIx) : s.emptySlot.occupied y = s.occupied y := by
  rcases s.emptySlot_eq with ⟨e, -⟩ | ⟨c, -, ⟨-, e⟩ | ⟨-, e⟩⟩ <;> rw [e]
  · rfl
  · exact s.returnLoad_occupied c.load y

theorem State.emptySlot_account (s : State) : s.emptySlot.demand.openUnits = s.demand.openUnits
    ∧ s.emptySlot.demand.latchedUnits = s.demand.latchedUnits := by
  rcases s.emptySlot_eq with ⟨e, -⟩ | ⟨c, -, ⟨-, e⟩ | ⟨-, e⟩⟩ <;> rw [e] <;> simp

/-- Where every load that claims is the slot's, no load claims once the slot is emptied. -/
theorem State.emptySlot_idle (owned : ∀ x : LoadIx, (s.load x).state.claims = true → ∃ c, s.demand.slot = some c ∧ c.load = x
    ∧ c.orphaned = false) (y : LoadIx) : (s.emptySlot.load y).state.claims = false := by
  have not_claims (none_owned : ∀ c, s.demand.slot = some c → c.load = y → c.orphaned = false → False) :
      (s.load y).state.claims = false := Bool.eq_false_iff.mpr fun claims => by
    obtain ⟨c, slot, load, live⟩ := owned y claims
    exact none_owned c slot load live
  rcases s.emptySlot_eq with ⟨e, empty⟩ | ⟨c, slot, ⟨orphaned, e⟩ | ⟨-, e⟩⟩ <;> rw [e]
  · exact not_claims fun c slot _ _ => absurd (empty.symm.trans slot) nofun
  · refine not_claims fun c' slot' _ live => ?_
    obtain rfl := Option.some.inj (slot.symm.trans slot')
    exact absurd (live.symm.trans orphaned) nofun
  · by_cases same : c.load = y
    · exact same ▸ s.returnLoad_idle c.load
    · rcases s.returnLoad_load c.load y with state | ⟨load, -⟩
      · refine (congrArg LoadState.claims state).trans (not_claims fun c' slot' load _ => same ?_)
        rwa [Option.some.inj (slot.symm.trans slot')]
      · exact absurd load same

end units

section emptied

variable {s : State}

theorem State.latchSound_of_calm (calm : s.bus.calm) (zero : s.demand.latchedUnits = .replicate 4 0) : s.latchSound :=
  ⟨fun _ _ line => absurd ((calm .release).2.symm.trans (Bus.latched_of_line line)) nofun, fun _ => zero⟩

/-- What remains to be said of a calm line. -/
theorem State.standing.balanced (h : s.standing) (calm : s.bus.calm) (zero : s.demand.latchedUnits = .replicate 4 0)
    (backed : s.claimBacked) : s.balanced := ⟨h, backed, State.latchSound_of_calm calm zero⟩

theorem State.claimBacked_of_no_item (item : s.bus.has .claim = false) : s.claimBacked :=
  fun has => absurd (item.symm.trans has) nofun

theorem State.balanced.latched_zero (h : s.balanced) (calm : s.bus.calm) : s.demand.latchedUnits = .replicate 4 0 :=
  h.latch.2 fun _ _ line => absurd ((calm .release).2.symm.trans (Bus.latched_of_line line)) nofun

/-- The slot emptied on a calm line. -/
theorem State.standing_emptySlot (levels : s.levelsFit) (sends : s.sendsSound) (account : s.accountSound) (calm : s.bus.calm)
    (owned : ∀ x : LoadIx, (s.load x).state.claims = true → ∃ c, s.demand.slot = some c ∧ c.load = x ∧ c.orphaned = false)
    (unmarked : ∀ i ∈ s.bus.items, i.kind = .claim → i.postedAgain = false) : s.emptySlot.standing := by
  obtain ⟨openUnits, latchedUnits⟩ := s.emptySlot_account
  have bus : s.emptySlot.bus = s.bus := by simp
  refine ⟨State.levelsFit_congr (by simp) (by simp) levels,
    sends.sameLine (by simp) (by rw [bus]) (by rw [bus]; exact id) (by rw [bus]; exact sends.item) (by rw [bus]; exact sends.held),
    State.claimsSound_of_idle (State.emptySlot_idle owned) (fun c slot => ?_) (fun b k u tag line => ?_) (by rw [bus]; exact unmarked),
    account.moved (by simp) (State.entry_congr (by simp) (by simp)) latchedUnits fun k => ?_⟩
  · exact absurd (s.emptySlot_slot.symm.trans slot) nofun
  · rw [bus] at line
    exact absurd ((calm .claim).2.symm.trans (Bus.latched_of_line line)) nofun
  · rw [openUnits, State.occupiedIn_of_units (by simp) s.emptySlot_occupied]

theorem State.claimsSound.owned (h : s.claimsSound) (x : LoadIx) (claims : (s.load x).state.claims = true) :
    ∃ c, s.demand.slot = some c ∧ c.load = x ∧ c.orphaned = false := (h.claiming x claims).2

theorem State.standing.emptySlot (h : s.standing) (calm : s.bus.calm) : s.emptySlot.standing :=
  State.standing_emptySlot h.levels h.sends h.account calm h.claims.owned h.claims.unmarked

/-- With no CLAIM item about. -/
theorem State.standing.emptySlot_balanced (h : s.standing) (calm : s.bus.calm) (zero : s.demand.latchedUnits = .replicate 4 0)
    (item : s.bus.has .claim = false) : s.emptySlot.balanced :=
  (h.emptySlot calm).balanced (calm.congr (by simp)) (s.emptySlot_account.2.trans zero)
    (State.claimBacked_of_no_item (by simpa using item))

end emptied

/-! ## The slot filled (R111) -/

section filled

variable {s : State} {x : LoadIx}

/-- A queued load that does not claim waits for its claim. -/
theorem LoadState.waits_of_queued {l : LoadState} (queued : l.queued = true) (idle : l.claims = false) : l = .waiting ∨ l = .raiseWait := by
  cases l with
  | waiting => exact .inl rfl
  | raiseWait => exact .inr rfl
  | claiming | raiseClaim => cases idle
  | off | ramping | on | keep | fault => cases queued

/-- With the slot empty no load claims. -/
theorem State.claimsSound.idle (h : s.claimsSound) (empty : s.demand.slot = none) (y : LoadIx) : (s.load y).state.claims = false :=
  Bool.eq_false_iff.mpr fun claims => by
    obtain ⟨-, c, slot, -⟩ := h.claiming y claims
    exact absurd (empty.symm.trans slot) nofun

theorem State.fillSlot_occupied (s : State) (x y : LoadIx) : (s.fillSlot x).occupied y = s.occupied y := by
  obtain ⟨-, composed⟩ := s.fillSlot_load x y
  rw [State.occupied, State.cfg_congr (s := s) (by simp)]
  exact composed.units _

theorem State.fillSlot_load_of_ne (s : State) {x y : LoadIx} (h : x ≠ y) : (s.fillSlot x).load y = s.load y := by
  have loads (u : State) (c : Option ClaimSlot) : ((u.setSlot c).send .claim).load y = u.load y := by simp [State.load]
  unfold State.fillSlot
  dsimp only
  rw [loads]
  split
  · exact s.load_setLoad_of_ne _ h
  · exact s.load_setLoad_of_ne _ h
  · rfl

/-- What a waiting load occupies, and what its claim asks, are its full level together. -/
theorem State.occupied_add_claimUnits (levels : (s.cfg x).keep.toNat ≤ (s.cfg x).full.toNat)
    (waits : (s.load x).state = .waiting ∨ (s.load x).state = .raiseWait) : s.occupied x + s.claimUnits x = (s.cfg x).full.toNat := by
  rcases waits with e | e
  · rw [State.claimUnits_of_waiting e, State.occupied, e]
    exact Nat.zero_add _
  · rw [State.claimUnits_of_raiseWait e, State.occupied, e]
    exact Nat.add_sub_of_le levels

/-- The one CLAIM item that stands after the posting is not marked "posted again". -/
theorem State.send_claim_unmarked (not_sent : s.bus.latched .claim = false)
    (unmarked : ∀ i ∈ s.bus.items, i.kind = .claim → i.postedAgain = false) :
    ∀ i ∈ (s.send .claim).bus.items, i.kind = .claim → i.postedAgain = false := by
  unfold State.send
  rw [not_sent]
  (repeat' split)
  · exact unmarked
  · intro i hi claim
    rcases List.mem_append.mp hi with old | new
    · exact unmarked i old claim
    · rw [List.mem_singleton.mp new]
  next absurdity => cases absurdity
  · exact unmarked

/-- The claim of a waiting load put into the empty slot in ACTIVE. -/
theorem State.standing.fillSlot (h : s.standing) (latch : s.latchSound) (active : s.member.participation = .active)
    (empty : s.demand.slot = none) (contends : s.bus.contends .claim = false)
    (queued : (s.load x).state.queued = true) : (s.fillSlot x).balanced := by
  have inStep : s.member.participation.inStep = true := by
    rw [active]
    rfl
  have waits := LoadState.waits_of_queued queued (h.claims.idle empty x)
  have levels := h.levels.of_inStep inStep x
  have participation : (s.fillSlot x).member.participation = s.member.participation := by simp
  have line : (s.fillSlot x).bus.line = s.bus.line := by rw [State.fillSlot_bus, s.send_eq .claim]
  have not_sent : s.bus.latched .claim = false := Bool.eq_false_iff.mpr fun sent => by
    obtain ⟨c, slot, -⟩ := h.claims.slot_of_latched sent
    exact absurd (empty.symm.trans slot) nofun
  have not_held : (s.fillSlot x).bus.claimHeld = false := by
    rw [Bus.claimHeld, Bus.contends_congr line, contends]
    rfl
  have cfg : (s.fillSlot x).cfg x = s.cfg x := State.cfg_congr (by simp) x
  have slot : (s.fillSlot x).demand.slot
      = some { load := x, cls := (s.cfg x).cls, units := s.claimUnits x, latched := false, orphaned := false } := by
    rw [State.fillSlot_demand]
  have claims : ((s.fillSlot x).load x).state.claims = true := by
    rw [State.fillSlot_load_state]
    rcases waits with e | e <;> rw [e] <;> rfl
  have units := State.occupied_add_claimUnits levels waits
  refine ⟨⟨State.levelsFit_congr (by simp) participation h.levels, ?sends, ⟨fun c filled => ?filled, fun y claiming => ?claiming,
    fun b k u tag sending => ?sent, ?unmarked⟩, ?account⟩, fun _ => by rw [slot]; rfl,
    State.latchSound_congr latch line (by rw [State.fillSlot_demand])⟩
  case sends =>
    refine h.sends.sameLine participation line ?_ (fun e => absurd (contends.symm.trans e) nofun) ?_ <;> rw [State.fillSlot_bus]
    · rw [s.send_has_of_ne (by nofun)]
      exact id
    · rw [s.send_eq .claim]
      exact h.sends.held
  case filled =>
    obtain rfl := Option.some.inj (slot.symm.trans filled)
    refine ⟨participation ▸ inStep, ?_, .inr (.inr ⟨claims, by rw [cfg], ?_⟩)⟩
    · have byte := (s.cfg x).full.isLt
      exact Nat.le_of_lt_succ (lt_of_le_of_lt (Nat.le_add_left _ _) (units ▸ byte))
    · rw [cfg, State.fillSlot_occupied]
      exact units
  case claiming =>
    have same : x = y := by
      by_contra other
      rw [State.fillSlot_load_of_ne s other, h.claims.idle empty y] at claiming
      cases claiming
    exact ⟨not_held, _, slot, same, rfl⟩
  case sent =>
    have sent : s.bus.latched .claim = true := Bus.latched_of_line (line ▸ sending)
    exact absurd (not_sent.symm.trans sent) nofun
  case unmarked =>
    rw [State.fillSlot_bus]
    exact State.send_claim_unmarked not_sent h.claims.unmarked
  case account =>
    refine h.account.moved participation (State.entry_congr (by simp) (by simp)) (by rw [State.fillSlot_demand]) fun k => ?_
    rw [State.occupiedIn_of_units (by simp) (s.fillSlot_occupied x), State.fillSlot_demand]

/-- Composition with an empty slot fills it or leaves the balance as it stands; a CLAIM item may stand for no claim until it is done. -/
theorem State.standing.compose (h : s.standing) (latch : s.latchSound) (empty : s.demand.slot = none) (contends : s.bus.contends .claim = false)
    (queued : ∀ x ∈ s.demand.queue, (s.load x).state.queued = true) :
    s.compose.standing ∧ s.compose.latchSound ∧ (s.compose.demand.slot = none ∧ s.compose.bus = s.bus ∨ s.compose.demand.slot.isSome = true) := by
  rcases s.compose_cases with ⟨b, e⟩ | ⟨x, active, -, -, head, e⟩
  · rw [e]
    exact ⟨h.inBalance ((State.inBalanceWith.refl s).setBlocked b), State.latchSound_congr latch rfl rfl, .inl ⟨empty, rfl⟩⟩
  · have filled : ((s.setBlocked none).fillSlot x).balanced :=
      (h.inBalance ((State.inBalanceWith.refl s).setBlocked none)).fillSlot (State.latchSound_congr latch rfl rfl) active empty contends
        (queued x (List.mem_of_head? head))
    rw [e]
    exact ⟨filled.standing, filled.latch, .inr (by rw [State.fillSlot_demand]; rfl)⟩

/-! ## The end of a handling -/

/-- With an empty slot the node does not contend with a CLAIM. -/
theorem State.balanced.not_contends (h : s.balanced) (empty : s.demand.slot = none) : s.bus.contends .claim = false :=
  Bool.eq_false_iff.mpr fun contends => by
    have filled := h.backed (h.sends.item contends)
    rw [empty] at filled
    cases filled

theorem State.balanced.compose (h : s.balanced) (queued : ∀ x ∈ s.demand.queue, (s.load x).state.queued = true) : s.compose.balanced := by
  rcases s.compose_cases with ⟨b, e⟩ | ⟨x, active, -, empty, head, e⟩
  · rw [e]
    exact h.inBalance ((State.inBalanceWith.refl s).setBlocked b)
  · rw [e]
    exact (h.inBalance ((State.inBalanceWith.refl s).setBlocked none)).fillSlot (State.latchSound_congr h.latch rfl rfl) active empty
      (h.not_contends empty) (queued x (List.mem_of_head? head))

/-- The balance, given that the lists are sound. -/
def State.balancedWhereListed (s : State) : Prop := s.listsSound → s.balanced

theorem State.balanced.whereListed (h : s.balanced) : s.balancedWhereListed := fun _ => h

theorem LoadState.composedTo.queued {a b : LoadState} (h : a.composedTo b) : b.queued = a.queued := by
  rcases h with rfl | ⟨rfl, rfl⟩ | ⟨rfl, rfl⟩ <;> rfl

/-- The loads queued before composition are those queued after. -/
theorem State.queued_of_settled (listed : s.settle.listsSound) (x : LoadIx) (hx : x ∈ s.demand.queue) : (s.load x).state.queued = true := by
  obtain ⟨-, -, lists⟩ := listed
  rw [← s.settle_queue] at hx
  exact (s.settle_load x).2.queued ▸ (lists x).1.mp hx

theorem State.balanced.settle (h : s.balanced) : s.settle.balancedWhereListed := fun listed =>
  (h.compose (State.queued_of_settled listed)).inBalance (State.inBalanceWith.refl s.compose).standEvict.standThaw.standImage

end filled

end Sys2Proof.Machine
end

section
/-! SUPPORT. The balance at a change of participation state: out of step, into LEAVING, and into ACTIVE or JOINING (R41, R52, R53, R63 to R70,
R83). -/

namespace Sys2Proof.Machine

/-! ## The send list at a change of state (R41) -/

section change

variable {b : Bus} {p : Participation} {k : FrameKind}

theorem Bus.mem_changeState {i : Item} : i ∈ (b.changeState p).items ↔ i ∈ b.items ∧ b.removable p i.kind = false := by
  simp [Bus.changeState]

theorem Bus.has_of_changeState (has : (b.changeState p).has k = true) : b.has k = true := by
  obtain ⟨i, hi, kind⟩ := Bus.has_iff.mp has
  exact Bus.has_iff.mpr ⟨i, (Bus.mem_changeState.mp hi).1, kind⟩

/-- The item contended with stays. -/
theorem Bus.changeState_has_of_contends (contends : b.contends k = true) (has : b.has k = true) : (b.changeState p).has k = true := by
  obtain ⟨i, hi, kind⟩ := Bus.has_iff.mp has
  exact Bus.has_iff.mpr ⟨i, Bus.mem_changeState.mpr ⟨hi, by simp [Bus.removable, kind, contends]⟩, kind⟩

/-- An item that the new state does not allow goes, unless it is contended with or in flight. -/
theorem Bus.changeState_not_has (not_allowed : p.allows k = false) (idle : b.contends k = false ∧ b.latched k = false) :
    (b.changeState p).has k = false := by
  refine Bool.eq_false_iff.mpr fun has => ?_
  obtain ⟨i, hi, rfl⟩ := Bus.has_iff.mp has
  obtain ⟨-, stays⟩ := Bus.mem_changeState.mp hi
  obtain ⟨contends, latched⟩ := idle
  simp [Bus.removable, not_allowed, contends, latched] at stays

/-- A removal is held for the item contended with. -/
theorem Bus.changeState_held (held : (b.changeState p).withdrawHeld = true) : b.withdrawHeld = true ∨ ∃ k, b.line = .contending k := by
  rcases Bool.or_eq_true_iff.mp held with old | removed
  · exact .inl old
  · obtain ⟨i, -, contends⟩ := List.any_eq_true.mp removed
    exact .inr ⟨i.kind, Bus.contends_iff.mp (Bool.and_eq_true_iff.mp contends).2⟩

theorem Bus.changeState_claimHeld (held : b.claimHeld = true) : (b.changeState p).claimHeld = true := by
  obtain ⟨contends, withdrawn⟩ := Bool.and_eq_true_iff.mp held
  exact Bool.and_eq_true_iff.mpr ⟨contends, by rw [Bus.changeState, withdrawn]; rfl⟩

end change

section states

variable {s u : State} {p : Participation}

/-- What is in order stays so at a change to an in-step state, where no load claims or no CLAIM is contended with. -/
theorem State.inOrder.setParticipation (h : s.inOrder) (inStep : p.inStep = true)
    (leave : s.bus.has .leave = true ∨ s.bus.contends .leave = true ∨ s.bus.latched .leave = true → p = .leaving)
    (quiet : s.bus.contends .claim = false ∨ ∀ x : LoadIx, (s.load x).state.claims = false) : (s.setParticipation p).inOrder := by
  have ⟨sends, claims, backed, latch⟩ := h
  refine ⟨⟨fun some_leave => leave (some_leave.imp_left Bus.has_of_changeState), fun _ _ _ => inStep,
      fun contends => Bus.changeState_has_of_contends contends (sends.item contends),
      fun held => (Bus.changeState_held held).elim sends.held id⟩,
    ⟨fun c slot => ?filled, fun x claiming => ⟨?held, (claims.claiming x claiming).2⟩, claims.sent,
      fun i hi => claims.unmarked i (Bus.mem_changeState.mp hi).1⟩,
    fun has => backed (Bus.has_of_changeState has), latch⟩
  case filled =>
    obtain ⟨-, small, kept⟩ := claims.filled c slot
    exact ⟨inStep, small, kept.imp_right (Or.imp_left Bus.changeState_claimHeld)⟩
  case held =>
    rcases quiet with contends | idle
    · change (s.bus.contends .claim && _) = false
      rw [contends]
      rfl
    · exact absurd ((idle x).symm.trans claiming) nofun

theorem State.vacant.setParticipation (h : s.vacant) (leave : s.bus.has .leave = true → p = .leaving) :
    (s.setParticipation p).vacant where
  quiet := h.quiet
  held held := (Bus.changeState_held held).elim h.held id
  leave has := leave (Bus.has_of_changeState has)
  slot := h.slot
  idle := h.idle
  item := Bool.eq_false_iff.mpr fun has => absurd (h.item.symm.trans (Bus.has_of_changeState has)) nofun
  latchedUnits := h.latchedUnits

theorem State.levelsFit.started (h : s.levelsFit) (started : s.member.participation ≠ .setup) (settings : u.settings = s.settings) :
    u.levelsFit := fun _ x => by
  rw [State.cfg_congr settings]
  exact h started x

theorem State.accountSound_out (out : s.member.participation.inStep = false) : s.accountSound :=
  ⟨fun joining => absurd (out.symm.trans (Participation.inStep_of_joining joining)) nofun, fun step => absurd (out.symm.trans step) nofun⟩

/-- Out of step a vacant state is in balance. -/
theorem State.vacant.balanced_out (h : s.vacant) (levels : s.levelsFit) (out : s.member.participation.inStep = false) : s.balanced :=
  h.balanced levels (State.accountSound_out out)

theorem Participation.started_of_inStep {p : Participation} (inStep : p.inStep = true) : p ≠ .setup := fun setup => by
  rw [setup] at inStep
  cases inStep

/-- An item posted that is neither CLAIM nor LEAVE. -/
theorem State.inBalanceWith.place (s : State) {k : FrameKind} (claim : k ≠ .claim) (leave : k ≠ .leave) : s.inBalanceWith (s.send k) :=
  (State.inBalanceWith.refl s).send claim fun e => absurd e leave

/-! ## Every load off -/

theorem State.disconnectLoad_idle (s : State) (x : LoadIx) : ((s.disconnectLoad x).load x).state.claims = false := by
  unfold State.disconnectLoad
  split
  case h_1 | h_2 | h_3 =>
    rcases State.enterQueue_load ((s.setLoad x { s.load x with state := .off, ramp := none }).ungrant x) x x with e | e <;> rw [e]
    · rw [State.ungrant_load, State.load_setLoad_self]
      rfl
    · rfl
  case h_4 | h_5 | h_6 => simp [State.setLoadState_load, LoadState.claims]
  case h_7 e | h_8 e | h_9 e =>
    rw [e]
    rfl

theorem State.disconnectAll_idle (s : State) (x : LoadIx) : (s.disconnectAll.load x).state.claims = false := by
  have all := foldl_load (Q := fun _ r => r.state.claims = false) State.disconnectLoad_idle (fun s x y => s.disconnectLoad_load_of_ne)
    allLoads s x (List.nodup_finRange 8)
  rwa [if_pos (List.mem_finRange x)] at all

theorem State.occupiedIn_of_off (off : ∀ x : LoadIx, (s.load x).state.energized = false) (k : ClassIx) : s.occupiedIn k = 0 :=
  State.occupiedIn_of_none_energized fun x _ => off x

/-! ## Out of step (R53, R69) -/

theorem Bus.stopped_calm : Bus.stopped.calm := fun _ => ⟨rfl, rfl⟩

/-- Entry to DETACHED. -/
theorem State.enterDetached_balanced (levels : s.levelsFit) (started : s.member.participation ≠ .setup) : s.enterDetached.balanced := by
  obtain ⟨slot, -, -, latchedUnits⟩ := s.enterDetached_demand
  have bus := s.enterDetached_bus
  have vacant : s.enterDetached.vacant := by
    refine ⟨fun k changes => ?_, fun held => ?_, fun has => ?_, slot, fun x => ?_, ?_, latchedUnits⟩
    · rw [bus]
      exact Bus.stopped_calm.quiet k changes
    · rw [bus] at held
      cases held
    · rw [bus] at has
      cases has
    · rw [State.enterDetached_load]
      exact s.disconnectAll_idle x
    · rw [bus]
      rfl
  exact vacant.balanced_out (levels.started started (by simp)) (by rw [State.enterDetached_member]; rfl)

theorem State.vacant_of_calm (calm : s.bus.calm) (held : s.bus.withdrawHeld = false) (leave : s.bus.has .leave = false)
    (slot : s.demand.slot = none) (idle : ∀ x : LoadIx, (s.load x).state.claims = false) (item : s.bus.has .claim = false)
    (latchedUnits : s.demand.latchedUnits = .replicate 4 0) : s.vacant :=
  ⟨calm.quiet, fun is_held => absurd (held.symm.trans is_held) nofun, fun has => absurd (leave.symm.trans has) nofun, slot, idle, item,
    latchedUnits⟩

theorem Bus.calm.changeState_held {b : Bus} (calm : b.calm) (held : b.withdrawHeld = false) :
    (b.changeState p).withdrawHeld = false := Bool.eq_false_iff.mpr fun is_held => by
  rcases Bus.changeState_held is_held with old | ⟨k, line⟩
  · exact absurd (held.symm.trans old) nofun
  · exact absurd ((calm k).1.symm.trans (Bus.contends_iff.mpr line)) nofun

/-- On a calm line entry to SEEKING leaves a vacant state. -/
theorem State.enterSeeking_balanced (levels : s.levelsFit) (started : s.member.participation ≠ .setup) (sends : s.sendsSound)
    (claims : s.claimsSound) (calm : s.bus.calm) (cause : StepCause) : (s.enterSeeking cause).balanced := by
  have vacant : (s.enterSeeking cause).vacant := by
    refine State.vacant.inBalance (State.vacant_of_calm ?_ ?_ ?_ ?_ ?_ ?_ ?_)
      (((State.inBalanceWith.refl _).sendSeek.post _ _).postPhase)
    · exact calm.congr (by simp [State.setParticipation, Bus.changeState])
    · refine Bus.calm.changeState_held ?_ ?_ <;> simp only [State.stopSilence_frame, State.reopenAccount_frame, State.emptySlot_frame]
      exacts [calm, sends.not_held calm]
    · refine Bus.changeState_not_has rfl ?_
      simpa using calm .leave
    · exact s.emptySlot_slot
    · exact State.emptySlot_idle claims.owned
    · refine Bus.changeState_not_has rfl ?_
      simpa using calm .claim
    · rfl
  exact vacant.balanced_out (levels.started started (by simp)) (by rw [State.enterSeeking_member]; rfl)

/-- A cause to leave step, on a calm line. -/
theorem State.balanced.outOfStep (h : s.balanced) (calm : s.bus.calm) (cause : StepCause) : (s.outOfStep cause).balanced := by
  unfold State.outOfStep
  split
  next e => exact State.enterSeeking_balanced h.levels (by rw [e]; nofun) h.sends h.claims calm cause
  next e => exact State.enterSeeking_balanced h.levels (by rw [e]; nofun) h.sends h.claims calm cause
  next e => exact State.enterDetached_balanced h.levels (by rw [e]; nofun)
  all_goals exact h

/-- On a calm line a withdrawal holds nothing. -/
theorem State.withdrawItem_calm (calm : s.bus.calm) (held : s.bus.withdrawHeld = false) (k : FrameKind) :
    (s.withdrawItem k).bus.calm ∧ (s.withdrawItem k).bus.withdrawHeld = false := by
  rw [State.withdrawItem_of_calm calm]
  exact ⟨calm, held⟩

/-- Every load off, no claim in the slot, and the account empty: what self-eviction begins with (R83). -/
def State.disowned (s : State) : State := (s.disconnectAll.setSlot none).clearAccount

theorem State.selfEvict_eq (s : State) : s.selfEvict =
    (((((s.disowned.withdrawItem .claim).withdrawItem .release).post .revoked (argOf s.energizedCount)).setParticipation .joining).send
      .join).postPhase := rfl

/-- Self-eviction on a calm line, the own entry ABSENT (R83). -/
theorem State.selfEvict_balanced (levels : s.levelsFit) (started : s.member.participation ≠ .setup) (sends : s.sendsSound)
    (calm : s.bus.calm) (entry : s.table.entries[s.address] = .absent) : s.selfEvict.balanced := by
  have bus : s.disowned.bus = s.bus := by simp [State.disowned]
  obtain ⟨claim_calm, claim_held⟩ := State.withdrawItem_calm (s := s.disowned) (by rw [bus]; exact calm)
    (by rw [bus]; exact sends.not_held calm) .claim
  obtain ⟨withdrawn, held⟩ := State.withdrawItem_calm claim_calm claim_held .release
  have off := s.disconnectAll_load
  have slot : s.disowned.demand.slot = none := rfl
  have demand : s.selfEvict.demand = s.disowned.demand := by simp [State.selfEvict_eq]
  have load (x : LoadIx) : s.selfEvict.load x = s.disconnectAll.load x := by simp [State.selfEvict_eq, State.disowned, State.load]
  have vacant : s.selfEvict.vacant := by
    rw [State.selfEvict_eq]
    refine State.vacant.inBalance ?_ (State.inBalanceWith.postPhase (State.inBalanceWith.place _ (by nofun) (by nofun)))
    refine State.vacant_of_calm ?calm (Bus.calm.changeState_held ?withdrawn ?held) (Bus.changeState_not_has rfl ?leave)
      ?slot (fun x => ?idle) (Bus.changeState_not_has rfl ?item) ?latched
    case calm => exact withdrawn.congr (by simp [State.setParticipation, Bus.changeState])
    case withdrawn => simpa using withdrawn
    case held => simpa using held
    case leave => simpa using withdrawn .leave
    case item => simpa using withdrawn .claim
    case slot => simpa using slot
    case idle => simpa [State.disowned, State.load] using s.disconnectAll_idle x
    case latched => simp [State.disowned, State.clearAccount]
  refine vacant.balanced (levels.started started (by simp)) ⟨fun _ => ?_, fun _ k => ?_⟩
  · simp [entry, Entry.absent]
  · rw [State.occupiedIn_of_off fun x => (load x).symm ▸ (off x).1, demand]
    simp [entry, Entry.absent, State.disowned, State.clearAccount]

/-! ## Into ACTIVE and JOINING (R52, R63 to R66) -/

/-- Entry to ACTIVE on the acceptance of the own JOIN. -/
theorem State.joined_balanced (levels : s.levelsFit) (order : s.inOrder) (joining : s.member.participation = .joining)
    (calm : s.bus.calm) (balance : ∀ k : ClassIx,
      s.occupiedIn k + s.demand.openUnits[k] + s.demand.latchedUnits[k] = s.table.entries[s.address].held[k]) : s.joined.balanced := by
  have entered : (s.setParticipation .active).balanced := by
    refine State.inOrder.balanced (order.setParticipation rfl (fun some_leave => ?_) (.inl (calm .claim).1))
      (levels.started (by rw [joining]; nofun) rfl) ⟨nofun, fun _ => balance⟩
    exact absurd (joining.symm.trans (order.sends.leave some_leave)) nofun
  exact entered.inBalance (State.inBalanceWith.refl _).postPhase.reachActive

/-- Founding: the own entry holds what the loads occupy, and the account is empty. -/
theorem State.vacant.found (h : s.vacant) (levels : s.levelsFit) (seeking : s.member.participation = .seeking) : s.found.balanced := by
  have no_leave (has : s.bus.has .leave = true) : Participation.active = .leaving :=
    absurd (seeking.symm.trans (h.leave has)) nofun
  have founding : s.founding.balanced := by
    unfold State.founding
    refine State.balanced.inBalance ?_ ((State.inBalanceWith.refl _).post _ _)
    refine State.vacant.balanced (State.vacant.setParticipation ?vacant no_leave) ?levels ⟨nofun, fun _ k => ?balance⟩
    case vacant => exact ⟨h.quiet, h.held, h.leave, h.slot, h.idle, h.item, rfl⟩
    case levels => exact levels.started (by rw [seeking]; nofun) rfl
    case balance =>
      have held : s.foundedTable.entries[s.address].held[k] = s.occupiedIn k := by
        rw [State.foundedTable_entry, if_pos rfl]
        fin_cases k <;> rfl
      refine Eq.trans ?_ held.symm
      change s.occupiedIn k + (Vector.replicate 4 0)[k] + (Vector.replicate 4 0)[k] = s.occupiedIn k
      simp
  rw [State.found_eq]
  exact founding.shedIfOverCap.inBalance (State.inBalanceWith.refl _).postPhase.reachActive

/-! ## Installation (R63 to R65) -/

theorem no_units_get (k : ClassIx) : (Vector.replicate 4 0)[k] = 0 := by simp

/-- Out of step the table is no matter of the balance. -/
theorem State.inBalanceWith.table_out (out : s.member.participation.inStep = false) (t : Table) : s.inBalanceWith { s with table := t } :=
  ⟨rfl, rfl, fun step => absurd (out.symm.trans step) nofun, fun _ => rfl, fun _ _ => rfl, rfl, rfl, fun _ _ _ => rfl, .refl _, .inl⟩

theorem State.inBalanceWith.postReplayed (h : s.inBalanceWith u) (r : Replayed) : s.inBalanceWith (postReplayed u r) := by
  unfold Machine.postReplayed
  exact State.inBalanceWith.foldl (fun v e => (State.inBalanceWith.refl v).elsewhere (by simp [State.balanceView])) _ h

theorem State.inBalanceWith.replayCap (h : s.inBalanceWith u) (r : Replayed) : s.inBalanceWith (replayCap u r) := by
  unfold Machine.replayCap
  split
  · exact h.capApplied _ _
  · exact h

theorem State.inBalanceWith.replayFreeze (h : s.inBalanceWith u) (r : Replayed) : s.inBalanceWith (replayFreeze u r) := by
  unfold Machine.replayFreeze
  (repeat' split)
  · exact h.freezeApplied _
  · exact h.thawApplied
  · exact h
  · exact h

theorem State.inBalanceWith.installed (out : s.member.participation.inStep = false) (h : ImageHeader) (t : Table) (rs : List Replayed) :
    s.inBalanceWith (s.installed h t rs) := by
  have posted := State.inBalanceWith.foldl (fun v r => (State.inBalanceWith.refl v).postReplayed r) rs
    (State.inBalanceWith.table_out out t)
  have capped := State.inBalanceWith.foldl (fun v r => (State.inBalanceWith.refl v).replayCap r) rs posted
  unfold State.installed
  dsimp only
  generalize rs.foldl Machine.replayCap _ = v at capped ⊢
  have timed : s.inBalanceWith ({ v with lease := { v.lease with code := h.lease, silence := silenceFor t v.address } }.installFreeze h) :=
    capped.elsewhere rfl
  have frozen := State.inBalanceWith.foldl (fun v r => (State.inBalanceWith.refl v).replayFreeze r) rs timed
  exact frozen.elsewhere rfl

/-- Reconciliation class by class leaves a vacant state vacant; the account is what it makes of it. -/
theorem State.vacant.reconcileClass (h : s.vacant) (levels : s.levelsFit) (out : s.member.participation.inStep = false) (k : ClassIx) :
    (s.reconcileClass k).vacant := by
  have shed := ((h.balanced_out levels out).shedClass k s.table.entries[s.address].held[k]).vacant (by simpa using out)
  refine ⟨shed.quiet, shed.held, shed.leave, shed.slot, shed.idle, shed.item, ?_⟩
  change (s.shedClass k _).demand.latchedUnits.set k 0 = _
  rw [shed.latchedUnits]
  fin_cases k <;> rfl

theorem State.vacant.reconcileClasses (h : s.vacant) (levels : s.levelsFit) (out : s.member.participation.inStep = false) :
    (allClasses.foldl State.reconcileClass s).vacant ∧ (allClasses.foldl State.reconcileClass s).member = s.member := by
  have all (l : List ClassIx) : (l.foldl State.reconcileClass s).vacant ∧ (l.foldl State.reconcileClass s).member = s.member
      ∧ (l.foldl State.reconcileClass s).settings = s.settings := by
    refine List.foldlRecOn (motive := fun v : State => v.vacant ∧ v.member = s.member ∧ v.settings = s.settings) l _ ⟨h, rfl, rfl⟩ ?_
    intro v kept k _
    obtain ⟨hv, member, settings⟩ := kept
    refine ⟨hv.reconcileClass ?_ ?_ k, ?_, ?_⟩
    · exact State.levelsFit_congr settings (by rw [member]) levels
    · rw [member]
      exact out
    · simpa using member
    · simpa using settings
  obtain ⟨vacant, member, -⟩ := all allClasses
  exact ⟨vacant, member⟩

theorem State.clearAccount_load (s : State) (x : LoadIx) : s.clearAccount.load x = s.load x := rfl

theorem State.clearAccount_slot (s : State) : s.clearAccount.demand.slot = s.demand.slot := rfl

theorem State.clearAccount_units (s : State) : s.clearAccount.demand.openUnits = .replicate 4 0
    ∧ s.clearAccount.demand.latchedUnits = .replicate 4 0 := ⟨rfl, rfl⟩

theorem State.vacant.allOff (h : s.vacant) : s.disconnectAll.clearAccount.vacant where
  quiet := by simpa using h.quiet
  held := by simpa using h.held
  leave := by simpa using h.leave
  slot := by
    rw [State.clearAccount_slot, State.disconnectAll_demand]
    exact h.slot
  idle x := by
    rw [State.clearAccount_load]
    exact s.disconnectAll_idle x
  item := by simpa using h.item
  latchedUnits := s.disconnectAll.clearAccount_units.2

/-- Reconciliation in SEEKING ends in ACTIVE or JOINING, vacant but for the account. -/
theorem State.vacant.reconcile (h : s.vacant) (levels : s.levelsFit) (seeking : s.member.participation = .seeking) : s.reconcile.vacant := by
  have out : s.member.participation.inStep = false := by rw [seeking]; rfl
  have no_leave (p : Participation) {v : State} (hv : v.vacant) (member : v.member = s.member) (has : v.bus.has .leave = true) :
      p = .leaving := by
    have leaving := hv.leave has
    rw [member, seeking] at leaving
    cases leaving
  unfold State.reconcile
  split
  · obtain ⟨vacant, member⟩ := h.reconcileClasses levels out
    have entered := vacant.setParticipation (no_leave .active vacant member)
    unfold State.reconcileMember State.sendReleaseIfOpen
    dsimp only
    exact entered.inBalance (((State.inBalanceWith.refl _).sendIf _ (by nofun) (by nofun)).postPhase.reachActive)
  · unfold State.reconcileAbsent
    dsimp only
    have reported : (if 0 < s.energizedCount then s.disconnectAll.clearAccount.post .revoked (argOf s.energizedCount)
        else s.disconnectAll.clearAccount).vacant := by
      split
      · exact h.allOff.inBalance ((State.inBalanceWith.refl _).post _ _)
      · exact h.allOff
    have entered := reported.setParticipation (p := .joining) (no_leave .joining reported (by split <;> simp))
    exact entered.inBalance (State.inBalanceWith.postPhase (State.inBalanceWith.place _ (by nofun) (by nofun))).compareCap

/-- Installation in SEEKING: with the own entry MEMBER the loads are shed to the holdings, else they are off and the node joins. -/
theorem State.vacant.install (h : s.vacant) (levels : s.levelsFit) (seeking : s.member.participation = .seeking) (granted : s.granted)
    (header : ImageHeader) (t : Table) (rs : List Replayed) (sound : t.entries[s.address].sound) : (s.install header t rs).balanced := by
  have out : s.member.participation.inStep = false := by rw [seeking]; rfl
  have ready := State.inBalanceWith.installed out header t rs
  have seeking' : (s.installed header t rs).shedIfOverCap.member.participation = .seeking := by
    simpa [ready.participation] using seeking
  have shed : (s.installed header t rs).shedIfOverCap.balanced := ((h.balanced_out levels out).inBalance ready).shedIfOverCap
  have vacant : (s.install header t rs).vacant := by
    rw [State.install_eq]
    exact (shed.vacant (by rw [seeking']; rfl)).reconcile shed.levels seeking'
  have table : (s.install header t rs).table = t := s.install_table header t rs
  have address : (s.install header t rs).address = s.address := by simp
  refine vacant.balanced (levels.started (by rw [seeking]; nofun) (by simp)) ?_
  by_cases member : t.entries[s.address].member = true
  · obtain ⟨latched, balance⟩ := s.install_of_member (h := header) (rs := rs) member
    have active : (s.install header t rs).member.participation = .active := by
      rw [State.install_own, if_pos member]
      simp [State.reconcileMember]
    refine ⟨fun joining => absurd (active.symm.trans joining) nofun, fun _ k => ?_⟩
    obtain ⟨-, held⟩ := balance granted k
    simp only [table, address, latched, no_units_get]
    omega
  · have absent : t.entries[s.address].member = false := by simpa using member
    obtain ⟨-, openUnits, latched, off⟩ := s.install_of_absent (h := header) (rs := rs) absent
    refine ⟨fun _ => by simpa only [table, address] using absent, fun _ k => ?_⟩
    simp only [table, address, latched, openUnits, no_units_get, State.occupiedIn_of_off off, (sound k).2 absent]

/-! ## Entry to LEAVING (R67) -/

theorem State.setParticipation_balance (s : State) (p : Participation) (k : ClassIx) :
    ((s.setParticipation p).occupiedIn k + (s.setParticipation p).demand.openUnits[k] + (s.setParticipation p).demand.latchedUnits[k]
        = (s.setParticipation p).table.entries[(s.setParticipation p).address].held[k])
      = (s.occupiedIn k + s.demand.openUnits[k] + s.demand.latchedUnits[k] = s.table.entries[s.address].held[k]) := rfl

theorem State.disconnectAll_slot (s : State) : s.disconnectAll.demand.slot = s.demand.slot := by rw [State.disconnectAll_demand]

theorem State.disconnectAll_units (s : State) : s.disconnectAll.demand.openUnits = s.demand.openUnits
    ∧ s.disconnectAll.demand.latchedUnits = s.demand.latchedUnits := by
  rw [State.disconnectAll_demand]
  exact ⟨rfl, rfl⟩

/-- The claim in the slot ended and every load off, the node is in order. -/
theorem State.inOrder.accountedForLeaving (h : s.inOrder) : s.accountedForLeaving.disconnectAll.inOrder := by
  have idle := s.accountedForLeaving.disconnectAll_idle
  have slot := s.accountedForLeaving.disconnectAll_slot
  obtain ⟨-, latchedUnits⟩ := s.accountedForLeaving.disconnectAll_units
  have bus : s.accountedForLeaving.disconnectAll.bus = s.accountedForLeaving.bus := by simp
  have participation : s.accountedForLeaving.disconnectAll.member.participation = s.member.participation := by
    simp [State.accountedForLeaving_frame]
  rw [s.accountedForLeaving_account.2] at latchedUnits
  cases filled : s.demand.slot with
  | some c =>
    have ended : s.accountedForLeaving = s.accountOccupied.endClaim c.load := by
      unfold State.accountedForLeaving
      rw [show s.accountOccupied.demand.slot = some c from filled]
    have ⟨slot', bus'⟩ := State.endClaim_congr (v := s.accountOccupied) (s := s) (x := c.load) rfl rfl
    rw [← ended] at slot' bus'
    exact h.slotEnded filled rfl (slot.trans slot') (bus.trans bus') participation latchedUnits idle
  | none =>
    have ended : s.accountedForLeaving = s.accountOccupied := by
      unfold State.accountedForLeaving
      rw [show s.accountOccupied.demand.slot = none from filled]
    rw [ended] at bus slot
    replace bus : s.accountedForLeaving.disconnectAll.bus = s.bus := by rw [ended, bus]; rfl
    have no_item : s.bus.has .claim = false := Bool.eq_false_iff.mpr fun has => by
      have some_slot := h.backed has
      rw [filled] at some_slot
      cases some_slot
    have not_sent : s.bus.latched .claim = false := Bool.eq_false_iff.mpr fun sent => by
      obtain ⟨c, some_slot, -⟩ := h.claims.slot_of_latched sent
      exact absurd (filled.symm.trans some_slot) nofun
    refine h.ended (h.sends.sameLine participation (by rw [bus]) (by rw [bus]; exact id) (by rw [bus]; exact h.sends.item)
      (by rw [bus]; exact h.sends.held)) idle participation (by rw [bus]) (by rw [bus]; exact fun _ => id) latchedUnits
      (.inl ⟨by rw [ended, slot]; exact filled, not_sent, by rw [bus]; exact no_item⟩)

theorem State.balanced.enterLeaving (h : s.balanced) (active : s.member.participation = .active) : s.enterLeaving.balanced := by
  have step : s.member.participation.inStep = true := by rw [active]; rfl
  have order := h.inOrder.accountedForLeaving.setParticipation (p := .leaving) rfl (fun _ => rfl)
    (.inr s.accountedForLeaving.disconnectAll_idle)
  rw [State.enterLeaving_eq]
  refine State.balanced.inBalance (order.balanced ?levels ⟨nofun, fun _ k => ?balance⟩)
    (State.inBalanceWith.postPhase (State.inBalanceWith.send (.refl _) (by nofun) fun _ => by rfl))
  case levels => exact h.levels.started (by rw [active]; nofun) (by simp [State.accountedForLeaving_frame])
  case balance =>
    obtain ⟨openUnits, latchedUnits⟩ := s.accountedForLeaving.disconnectAll_units
    obtain ⟨accounted, latched⟩ := s.accountedForLeaving_account
    have off := State.occupiedIn_of_off (fun x => (s.accountedForLeaving.disconnectAll_load x).1) k
    have entry : s.accountedForLeaving.disconnectAll.table.entries[s.accountedForLeaving.disconnectAll.address]
        = s.table.entries[s.address] :=
      State.entry_congr (by simp [State.accountedForLeaving_frame]) (by simp [State.accountedForLeaving_frame])
    rw [State.setParticipation_balance, off, entry, openUnits, latchedUnits, accounted, latched, ← h.account.balance step k]
    omega

/-! ## START and REJOIN (R48, R70, R155) -/

/-- A part whose line is off with an empty send list begins to seek. -/
theorem State.vacant.beginsSeeking (h : s.vacant) (line : s.bus.line = .off) (items : s.bus.items = []) : s.beginsSeeking.vacant := by
  have not_held : s.bus.withdrawHeld = false := Bool.eq_false_iff.mpr fun held => by
    obtain ⟨k, contending⟩ := h.held held
    exact absurd (line.symm.trans contending) nofun
  have empty (k : FrameKind) : s.bus.has k = false := by simp [Bus.has, items]
  unfold State.beginsSeeking
  refine State.vacant.inBalance ?_ (State.inBalanceWith.refl _).sendSeek
  exact State.vacant_of_calm (s.bus.calm_integrating) not_held (empty .leave) h.slot h.idle (empty .claim) h.latchedUnits

theorem State.inBalanceWith.wantAsserted (h : s.inBalanceWith u) (x : LoadIx) : s.inBalanceWith (u.wantAsserted x) := by
  unfold State.wantAsserted
  split
  · exact h.wantLoad x
  · exact h

/-- Settings that pass the checks of START have their keep levels below full. -/
theorem Settings.keep_le_full {c : Settings} (valid : c.firstBad = none) (x : LoadIx) :
    c.loads[x].keep.toNat ≤ c.loads[x].full.toNat := by
  have pass := List.find?_eq_none.mp (Option.map_eq_none_iff.mp valid)
    (argOf (0x11 + 2 * x.val), decide (1 ≤ c.loads[x].full.toNat) && decide (c.loads[x].keep.toNat < c.loads[x].full.toNat))
    (List.mem_append_right _ (List.mem_map.mpr ⟨x, List.mem_finRange x, rfl⟩))
  simp only [Bool.not_eq_true', Bool.not_eq_false, Bool.and_eq_true, decide_eq_true_eq] at pass
  exact pass.2.le

theorem State.balanced.startNode (h : s.balanced) (setup : s.member.participation = .setup) (valid : s.settings.firstBad = none)
    (line : s.bus.line = .off) (items : s.bus.items = []) : s.startNode.balanced := by
  have out : s.member.participation.inStep = false := by rw [setup]; rfl
  have seeks := (h.vacant out).beginsSeeking line items
  have started : s.startNode.vacant := by
    rw [State.startNode_eq]
    exact seeks.inBalance (State.inBalanceWith.foldl (fun v x => (State.inBalanceWith.refl v).wantAsserted x) allLoads (.refl _)).askLimit.postPhase
  refine started.balanced_out (fun _ x => ?_) (by rw [State.startNode_member]; rfl)
  obtain ⟨-, settings, -⟩ := s.startNode_frame
  rw [State.cfg_congr settings]
  exact Settings.keep_le_full valid x

theorem State.balanced.rejoin (h : s.balanced) (detached : s.member.participation = .detached) (line : s.bus.line = .off)
    (items : s.bus.items = []) : s.beginsSeeking.askLimit.postPhase.balanced := by
  have seeks := (h.vacant (by rw [detached]; rfl)).beginsSeeking line items
  have rejoined : s.beginsSeeking.balanced := by
    refine seeks.balanced_out (h.levels.started (by rw [detached]; nofun) (by simp)) ?_
    rw [State.beginsSeeking_member]
    rfl
  exact rejoined.inBalance (State.inBalanceWith.refl _).askLimit.postPhase

end states

end Sys2Proof.Machine
end

section
/-! SUPPORT. The balance at the end of the node's own frames: completed, accepted, refused and unheard (R34, R35, R113 to R117, R122). -/

namespace Sys2Proof.Machine

/-! ## On a calm line -/

/-- The balance on a calm line but for the latched amounts: what the end of an own frame finds. -/
structure State.ready (s : State) : Prop extends standing : s.standing where
  backed : s.claimBacked
  calm : s.bus.calm

section calm

variable {s u : State} {k : FrameKind}

theorem State.ready.balanced (h : s.ready) (zero : s.demand.latchedUnits = .replicate 4 0) : s.balanced :=
  h.standing.balanced h.calm zero h.backed

theorem State.balanced.ready (h : s.balanced) (calm : s.bus.calm) : s.ready := ⟨h.standing, h.backed, calm⟩

theorem State.ready.inBalance (h : s.ready) (hu : s.inBalanceWith u) : u.ready :=
  ⟨h.standing.inBalance hu, h.backed.inBalance hu, h.calm.congr hu.bus.line⟩

section newLine

variable {b : Bus}

/-- On a new line the node neither contends with an item nor has one in flight, and no item is new. -/
theorem State.sendsSound.newLine (h : s.sendsSound) (calm : b.calm) (items : ∀ i ∈ b.items, i ∈ s.bus.items)
    (held : b.withdrawHeld = false) : { s with bus := b }.sendsSound where
  leave some_leave := by
    have has : b.has .leave = true := by simpa [calm .leave] using some_leave
    obtain ⟨i, hi, leave⟩ := Bus.has_iff.mp has
    exact h.leave (.inl (Bus.has_iff.mpr ⟨i, items i hi, leave⟩))
  changes k _ sent := absurd sent (by simp [calm k])
  item contends := absurd ((calm .claim).1.symm.trans contends) nofun
  held is_held := absurd (held.symm.trans is_held) nofun

theorem State.standing.newLine (h : s.standing) (not_held : s.bus.claimHeld = false) (calm : b.calm)
    (items : ∀ i ∈ b.items, i ∈ s.bus.items) (held : b.withdrawHeld = false) : { s with bus := b }.standing := by
  refine ⟨h.levels, h.sends.newLine calm items held,
    ⟨fun c slot => ?filled, fun x claims => ?claiming, fun b' k u tag line => ?sent, fun i hi => h.claims.unmarked i (items i hi)⟩,
    ⟨h.account.absent, h.account.balance⟩⟩
  case filled =>
    obtain ⟨step, small, kept⟩ := h.claims.filled c slot
    refine ⟨step, small, ?_⟩
    rcases kept with orphaned | claimHeld | fits
    · exact .inl orphaned
    · exact absurd (not_held.symm.trans claimHeld) nofun
    · exact .inr (.inr fits)
  case claiming => exact ⟨calm.claimHeld, (h.claims.claiming x claims).2⟩
  case sent => exact absurd ((calm .claim).2.symm.trans (Bus.latched_of_line line)) nofun

theorem State.balanced.newLine (h : s.balanced) (not_held : s.bus.claimHeld = false) (calm : b.calm)
    (items : ∀ i ∈ b.items, i ∈ s.bus.items) (held : b.withdrawHeld = false) : { s with bus := b }.ready := by
  refine ⟨h.standing.newLine not_held calm items held, fun has => h.backed ?_, calm⟩
  obtain ⟨i, hi, claim⟩ := Bus.has_iff.mp has
  exact Bus.has_iff.mpr ⟨i, items i hi, claim⟩

end newLine

/-- Where the node contends with nothing, no withdrawal is held. -/
theorem State.sendsSound.not_held_of_quiet (h : s.sendsSound) (quiet : ∀ k, s.bus.line ≠ .contending k) : s.bus.withdrawHeld = false :=
  Bool.eq_false_iff.mpr fun held => by
    obtain ⟨k, line⟩ := h.held held
    exact quiet k line

theorem Bus.claimHeld_of_not_held {b : Bus} (h : b.withdrawHeld = false) : b.claimHeld = false := by rw [Bus.claimHeld, h, Bool.and_false]

/-- From one calm line to another. -/
theorem State.balanced.setLine (h : s.balanced) (calm : s.bus.calm) {l : Line} (calm' : { s.bus with line := l }.calm) :
    (s.setLine l).balanced :=
  (h.newLine calm.claimHeld calm' (fun _ => id) (h.sends.not_held calm)).balanced (h.latched_zero calm)

/-- An item leaves the list of a calm line. -/
theorem State.inBalanceWith.dropItem_calm (calm : s.bus.calm) (k : FrameKind) : s.inBalanceWith (s.dropItem k) := by
  refine (State.inBalanceWith.refl s).onBus rfl (.drop _ (.inl (calm .claim).1)) fun has => .inl ?_
  obtain ⟨i, hi, leave⟩ := Bus.has_iff.mp has
  exact Bus.has_iff.mpr ⟨i, (List.mem_filter.mp hi).1, leave⟩

/-- A latched CLAIM item leaves the list, and no other follows. -/
theorem State.retire_claim (unmarked : ∀ i ∈ s.bus.items, i.kind = .claim → i.postedAgain = false) :
    s.retire .claim = s.dropItem .claim ∨ s.retire .claim = s ∧ s.bus.has .claim = false := by
  unfold State.retire
  split
  next i found =>
    have kind : i.kind = .claim := by simpa using List.find?_some found
    rw [if_neg (by simp [unmarked i (List.mem_of_find?_eq_some found) kind])]
    exact .inl rfl
  next none_found => exact .inr ⟨rfl, Bus.item?_eq_none.mp none_found⟩

theorem State.ready.retire (h : s.ready) (k : FrameKind) (leave : k = .leave → s.member.participation = .leaving) :
    s.inBalanceWith (s.retire k) := by
  by_cases claim : k = .claim
  · subst claim
    rcases State.retire_claim h.claims.unmarked with e | ⟨e, -⟩ <;> rw [e]
    · exact .dropItem_calm h.calm .claim
    · exact .refl s
  · exact (State.inBalanceWith.refl s).retire claim leave

theorem State.ready.retire_no_claim (h : s.ready) : (s.retire .claim).bus.has .claim = false := by
  rcases State.retire_claim h.claims.unmarked with e | ⟨e, none_there⟩ <;> rw [e]
  · exact Bus.has_drop_self _ _
  · exact none_there

/-- The completion of an own frame (R36). -/
theorem State.balanced.completeOwn (h : s.balanced) {body : FrameBody} (line : s.bus.line = .sending body) (k : FrameKind) :
    (s.completeOwn k).ready := by
  have not_held := h.sends.not_held_of_quiet fun k e => absurd (line.symm.trans e) nofun
  have restarted := h.newLine (Bus.claimHeld_of_not_held not_held) (b := s.completedBus) (Bus.calm_of_line nofun nofun) (fun _ => id)
    not_held
  have timed : { s with bus := s.completedBus }.inBalanceWith { s with bus := s.completedBus, lease := { s.lease with quiet := some 0 } } :=
    (State.inBalanceWith.refl _).elsewhere rfl
  unfold State.completeOwn
  dsimp only
  split
  · exact restarted.inBalance timed
  · exact restarted.inBalance (timed.withdrawItem (by nofun))

end calm

end Sys2Proof.Machine
end

section
/-! SUPPORT. The balance at the outcome of the node's own CLAIM and RELEASE (R113 to R117, R122). -/

namespace Sys2Proof.Machine

section outcome

variable {s : State} {x : LoadIx} {c : ClaimSlot}

/-- On a calm line with no claim about, what is in order of the sends is all that a vacant state asks. -/
theorem State.sendsSound.vacant (sends : s.sendsSound) (calm : s.bus.calm) (slot : s.demand.slot = none)
    (idle : ∀ x : LoadIx, (s.load x).state.claims = false) (item : s.bus.has .claim = false)
    (latchedUnits : s.demand.latchedUnits = .replicate 4 0) : s.vacant :=
  ⟨calm.quiet, sends.held, fun has => sends.leave (.inl has), slot, idle, item, latchedUnits⟩

/-! ## Granted (R114) -/

/-- What an own CLAIM granted finds: the slot's, the units already in the own entry. -/
structure State.grantedFor (s : State) (c : ClaimSlot) : Prop where
  levels : s.levelsFit
  order : s.inOrder
  calm : s.bus.calm
  item : s.bus.has .claim = false
  slot : s.demand.slot = some c
  joined : s.member.participation ≠ .joining
  account : ∀ j : ClassIx, s.occupiedIn j + s.demand.openUnits[j] + s.demand.latchedUnits[j] + (if c.cls = j then c.units else 0)
    = s.table.entries[s.address].held[j]

theorem State.inOrder.latched_zero (h : s.inOrder) (calm : s.bus.calm) : s.demand.latchedUnits = .replicate 4 0 :=
  h.latch.2 fun _ _ line => absurd ((calm .release).2.symm.trans (Bus.latched_of_line line)) nofun

/-- The units of an orphaned claim go to the open account. -/
theorem State.grantedFor.orphaned (h : s.grantedFor c) (orphaned : c.orphaned = true) :
    ((s.setSlot none).freeUnits c.cls c.units).balanced := by
  have idle (y : LoadIx) : (s.load y).state.claims = false := Bool.eq_false_iff.mpr fun claims => by
    obtain ⟨c', slot, -, live⟩ := h.order.claims.owned y claims
    obtain rfl := Option.some.inj (h.slot.symm.trans slot)
    exact absurd (live.symm.trans orphaned) nofun
  have opened : { s with demand := { s.demand with slot := none, openUnits := addAt s.demand.openUnits c.cls c.units } }.balanced := by
    refine State.vacant.balanced (State.sendsSound.vacant
      ⟨h.order.sends.leave, h.order.sends.changes, h.order.sends.item, h.order.sends.held⟩ h.calm rfl idle h.item
      (h.order.latched_zero h.calm)) h.levels ⟨fun joining => absurd joining h.joined, fun _ j => ?_⟩
    have account := h.account j
    change s.occupiedIn j + (addAt s.demand.openUnits c.cls c.units)[j] + s.demand.latchedUnits[j] = _
    rw [addAt_get]
    rw [← account]
    omega
  unfold State.freeUnits
  split
  next none_freed =>
    rw [none_freed, addAt_zero] at opened
    exact opened
  next => exact opened.inBalance (.place _ (by nofun) (by nofun))

/-- The load of a claim granted ramps with its full level (R97, R114). -/
def State.ramped (s : State) (x : LoadIx) : State :=
  ((s.setLoad x { s.load x with state := .ramping, ramp := some (durationMs (s.cfg x).ramp) }).dequeue x).grantFirst x

theorem State.grantLoad_of_claims (claims : (s.load x).state.claims = true) :
    s.grantLoad x = s.ramped x ∨ s.grantLoad x = (s.ramped x).lowerToKeep x := by
  rw [State.grantLoad, if_pos claims]
  dsimp only
  split
  · exact .inr rfl
  · exact .inl rfl

theorem State.ramped_load (s : State) (x y : LoadIx) : (s.ramped x).load y =
    if x = y then { s.load x with state := .ramping, ramp := some (durationMs (s.cfg x).ramp) } else s.load y := s.load_setLoad x y _

/-- The slot is no matter to a load that goes to KEEP. -/
theorem State.lowerToKeep_setSlot (s : State) (x : LoadIx) (c : Option ClaimSlot) :
    (s.lowerToKeep x).setSlot c = (s.setSlot c).lowerToKeep x := by
  have posted (v : State) : (v.send .release).setSlot c = (v.setSlot c).send .release := by
    have bus := State.send_bus_congr (s := v) (u := v.setSlot c) .release rfl rfl
    rw [(v.setSlot c).send_eq .release, bus, v.send_eq .release]
    rfl
  have freed (v : State) (k : ClassIx) (n : Nat) : (v.freeUnits k n).setSlot c = (v.setSlot c).freeUnits k n := by
    unfold State.freeUnits
    split
    · rfl
    · exact posted _
  by_cases lowers : ((s.load x).state = .ramping ∨ (s.load x).state = .on) ∧ 0 < (s.cfg x).keep.toNat
  · rw [State.lowerToKeep_of_high lowers, freed, State.lowerToKeep_of_high (s := s.setSlot c) lowers]
    rfl
  · rw [show s.lowerToKeep x = s from if_neg lowers]
    exact (if_neg lowers).symm

theorem State.grantedFor.ramped (h : s.grantedFor c) (live : c.orphaned = false) :
    ((s.ramped c.load).setSlot none).balanced ∧ (s.load c.load).state.claims = true := by
  obtain ⟨-, -, kept⟩ := h.order.claims.filled c h.slot
  obtain ⟨claims, cls, units⟩ : s.claimFits c := by
    rcases kept with orphaned | held | fits
    · exact absurd (live.symm.trans orphaned) nofun
    · exact absurd (h.calm.claimHeld.symm.trans held) nofun
    · exact fits
  refine ⟨State.vacant.balanced (State.sendsSound.vacant ?sends h.calm rfl (fun y => ?idle) h.item (h.order.latched_zero h.calm))
    h.levels ⟨fun joining => absurd joining h.joined, fun _ j => ?balance⟩, claims⟩
  case sends => exact ⟨h.order.sends.leave, h.order.sends.changes, h.order.sends.item, h.order.sends.held⟩
  case idle =>
    change ((s.ramped c.load).load y).state.claims = false
    rw [State.ramped_load]
    split
    · rfl
    next other =>
      refine Bool.eq_false_iff.mpr fun claiming => other ?_
      obtain ⟨c', slot, load, -⟩ := h.order.claims.owned y claiming
      rw [← load, Option.some.inj (h.slot.symm.trans slot)]
  case balance =>
    have moved := State.occupiedIn_of_load (s := s) (u := s.ramped c.load) rfl
      (fun y other => by rw [State.ramped_load, if_neg other]) j
    have full : (s.ramped c.load).occupied c.load = (s.cfg c.load).full.toNat := by
      rw [State.occupied, State.ramped_load, if_pos rfl]
      rfl
    have account := h.account j
    change (s.ramped c.load).occupiedIn j + s.demand.openUnits[j] + s.demand.latchedUnits[j] = s.table.entries[s.address].held[j]
    rw [full, cls] at moved
    split at moved
    next same =>
      rw [if_pos same] at account
      omega
    next other =>
      rw [if_neg other] at account
      omega

theorem State.grantedFor.post (h : s.grantedFor c) (e : EventCode) (a : Byte) : (s.post e a).grantedFor c where
  levels := State.levelsFit_congr (by simp) (by simp) h.levels
  order := h.order.inBalance ((State.inBalanceWith.refl s).post e a)
  calm := by simpa using h.calm
  item := by simpa using h.item
  slot := by simpa using h.slot
  joined := by simpa using h.joined
  account j := by
    rw [State.occupiedIn_congr s _ j (by simp) (by simp)]
    simpa using h.account j

/-- An own CLAIM granted. -/
theorem State.grantedFor.claimGranted (h : s.grantedFor c) (tag : LoadIx) :
    (s.claimGranted c.cls c.units tag).balanced := by
  unfold State.claimGranted
  rw [h.slot]
  dsimp only
  split
  next orphaned => exact h.orphaned orphaned
  next live =>
    obtain ⟨ramped, claims⟩ := (h.post .granted (argOf tag.val)).ramped (by simpa using live)
    rcases State.grantLoad_of_claims claims with e | e <;> rw [e]
    · exact ramped
    · rw [State.lowerToKeep_setSlot]
      exact ramped.inBalance ((State.inBalanceWith.refl _).lowerToKeep c.load)

/-! ## Denied (R115) and withdrawn at a FREEZE (R119) -/

/-- An own CLAIM denied: the slot emptied, with events and the blocked flag beside. -/
theorem State.emptySlot_claimDenied (s : State) (tag : LoadIx) : s.emptySlot.inBalanceWith (s.claimDenied tag) := by
  have same := State.inBalanceWith.refl s.emptySlot
  unfold State.claimDenied
  rcases s.emptySlot_eq with ⟨e, slot⟩ | ⟨c, slot, ⟨orphaned, e⟩ | ⟨live, e⟩⟩
  · rw [slot, e]
    exact .refl s
  · rw [slot]
    dsimp only
    rw [if_pos orphaned, ← e]
    exact same
  · rw [slot]
    dsimp only
    rw [live, if_neg nofun]
    split <;> refine same.elsewhere ?_ <;> rw [e] <;> simp [State.balanceView]

theorem State.balanced.claimDenied (h : s.balanced) (calm : s.bus.calm) (item : s.bus.has .claim = false) (tag : LoadIx) :
    (s.claimDenied tag).balanced :=
  (h.standing.emptySlot_balanced calm (h.latched_zero calm) item).inBalance (s.emptySlot_claimDenied tag)

/-- The slot emptied before or after its item is withdrawn. -/
theorem State.emptySlot_dropItem (s : State) (k : FrameKind) : (s.dropItem k).emptySlot = s.emptySlot.dropItem k := by
  have returned (x : LoadIx) : (s.dropItem k).returnLoad x = (s.returnLoad x).dropItem k := by
    unfold State.returnLoad
    rw [show (s.dropItem k).load x = s.load x from rfl]
    split <;> rfl
  unfold State.emptySlot
  rw [show (s.dropItem k).demand.slot = s.demand.slot from rfl]
  split
  · split
    · rfl
    · rw [returned]
      rfl
  · rfl

theorem State.balanced.freezeClaim (h : s.balanced) (calm : s.bus.calm) : s.freezeClaim.balanced := by
  unfold State.freezeClaim
  (repeat' split)
  · exact h
  · rw [State.withdrawItem_of_calm (calm.congr (by simp)), ← State.emptySlot_dropItem]
    exact (h.standing.inBalance (.dropItem_calm calm .claim)).emptySlot_balanced calm (h.latched_zero calm) (Bus.has_drop_self _ _)
  · exact h

end outcome

/-! ## An accepted frame applied (R11, R112) -/

section applied

variable {s : State} {q : Station} {c : Change}

theorem State.inOrder.withTable (h : s.inOrder) (t : Table) : { s with table := t }.inOrder :=
  ⟨⟨h.sends.leave, h.sends.changes, h.sends.item, h.sends.held⟩,
    ⟨h.claims.filled, h.claims.claiming, h.claims.sent, h.claims.unmarked⟩, h.backed, h.latch⟩

theorem State.inOrder.noted (h : s.inOrder) (q : Station) (c : Change) : (s.noted q c).inOrder :=
  (h.withTable (s.table.apply q c)).inBalance ((State.inBalanceWith.refl _).elsewhere (by simp [State.balanceView, State.noted]))

/-- A frame that leaves the own entry. -/
theorem State.balanced.noted (h : s.balanced) (entry : (s.table.apply q c).entries[s.address] = s.table.entries[s.address]) :
    (s.noted q c).balanced :=
  h.inBalance ((State.inBalanceWith.refl s).elsewhere (by simp [State.balanceView, entry]))

/-- What an own frame taken by the table rests on: LEAVE is sent in LEAVING, and a CLAIM is the slot's, its item retired. -/
structure State.ownTaken (s : State) (c : Change) : Prop where
  release : ∀ a, c ≠ .release a
  leave : c = .leave → s.member.participation = .leaving
  claim : ∀ k u tag, c = .claim k u tag → s.bus.has .claim = false ∧ ∃ d, s.demand.slot = some d ∧ d.cls = k ∧ d.units = u.toNat

/-- The own entry removed by another node's EVICT (R82, R83). -/
theorem State.handRemoval_own_balanced (levels : s.levelsFit) (sends : s.sendsSound) (calm : s.bus.calm)
    (entry : s.table.entries[s.address] = .absent) (place : s.member.participation = .active ∨ s.member.participation = .leaving) :
    (s.handRemoval s.address true).balanced := by
  have removed := (State.inBalanceWith.refl s).memberRemoved s.address
  have levels' := State.levelsFit_congr removed.settings removed.participation levels
  have started : (s.memberRemoved s.address).member.participation ≠ .setup := by
    rw [removed.participation]
    rcases place with e | e <;> rw [e] <;> nofun
  unfold State.handRemoval
  dsimp only
  rw [if_pos ⟨rfl, by simp⟩]
  split
  · refine State.selfEvict_balanced levels' started (sends.inBalance removed) (calm.congr removed.bus.line) ?_
    simpa using entry
  · exact State.enterDetached_balanced levels' started
  next not_active not_leaving =>
    rw [removed.participation] at not_active not_leaving
    exact absurd place (not_or.mpr ⟨not_active, not_leaving⟩)

/-- A LEAVE taken: the own one in LEAVING detaches the node (R15, R69). -/
theorem State.balanced.handOff_leave (h : s.balanced) (inStep : s.member.participation.inStep = true)
    (own : q = s.address → s.member.participation = .leaving) : ((s.noted q .leave).handOff s.table q .leave).balanced := by
  have started := Participation.started_of_inStep inStep
  unfold State.handOff
  dsimp only
  by_cases mine : q = s.address
  · subst mine
    rw [if_pos (by split <;> simp [own rfl, State.handRemoval_eq (byEvict := false) nofun])]
    split
    next r _ =>
      rw [State.handRemoval_eq (byEvict := false) nofun]
      exact State.enterDetached_balanced (State.levelsFit_congr (by simp) (by simp) h.levels) (by simpa using started)
    next => exact State.enterDetached_balanced (State.levelsFit_congr (by simp) (by simp) h.levels) (by simpa using started)
  · have noted : (s.noted q .leave).balanced := h.noted (by rw [Table.apply_leave_entry, if_neg fun e => mine e.1.symm])
    rw [if_neg (by split <;> simp [mine, State.handRemoval_eq (byEvict := false) nofun])]
    split
    · rw [State.handRemoval_eq (byEvict := false) nofun]
      exact noted.inBalance ((State.inBalanceWith.refl _).memberRemoved _)
    · exact noted

/-- A JOIN taken: the own one in JOINING makes the node ACTIVE (R16, R66). -/
theorem State.balanced.handOff_join (h : s.balanced) (calm : s.bus.calm) (inStep : s.member.participation.inStep = true)
    (sound : s.table.entries[s.address].sound) : ((s.noted q .join).handOff s.table q .join).balanced := by
  have levels : (s.noted q .join).levelsFit := State.levelsFit_congr (by simp) (by simp) h.levels
  unfold State.handOff
  dsimp only
  by_cases mine : q = s.address
  · subst mine
    have held (k : ClassIx) : (s.table.apply s.address .join).entries[s.address].held[k] = s.table.entries[s.address].held[k] := by
      rw [Table.apply_join_entry]
      split
      next absent =>
        rw [(sound k).2 absent.2]
        exact no_units_get k
      next => rfl
    have balance (k : ClassIx) : (s.noted s.address .join).occupiedIn k + (s.noted s.address .join).demand.openUnits[k]
        + (s.noted s.address .join).demand.latchedUnits[k]
        = (s.noted s.address .join).table.entries[(s.noted s.address .join).address].held[k] := by
      rw [State.occupiedIn_congr s _ k (by simp) (by simp)]
      simp only [State.noted_frame, held]
      exact h.account.balance inStep k
    have not_started : (!s.table.entries[s.address].member && decide (s.address ≠ (s.noted s.address .join).address)) = false := by simp
    rw [not_started, if_neg Bool.false_ne_true]
    split
    next joins =>
      exact State.joined_balanced levels (h.inOrder.noted _ _) (by simpa using joins.2) (calm.congr (by simp)) balance
    next not_joining =>
      refine (h.inOrder.noted _ _).balanced levels ⟨fun joining => absurd ⟨by simp, joining⟩ not_joining, fun _ => balance⟩
  · have noted : (s.noted q .join).balanced := h.noted (by rw [Table.apply_join_entry, if_neg fun e => mine e.1.symm])
    rw [if_neg fun e => mine (e.1.trans (by split <;> simp [State.startSilence]))]
    split
    · exact noted.inBalance ((State.inBalanceWith.refl _).elsewhere rfl)
    · exact noted

/-- A CLAIM taken: the own one is the slot's, its item retired (R19, R114, R115). -/
theorem State.balanced.handOff_claim (h : s.balanced) (calm : s.bus.calm) (inStep : s.member.participation.inStep = true) {k : ClassIx}
    {u : Byte} {tag : LoadIx} (own : q = s.address → s.bus.has .claim = false ∧ ∃ d, s.demand.slot = some d ∧ d.cls = k ∧ d.units = u.toNat) :
    ((s.noted q (.claim k u tag)).handOff s.table q (.claim k u tag)).balanced := by
  unfold State.handOff
  dsimp only
  have noted_calm : (s.noted q (.claim k u tag)).bus.calm := calm.congr (by simp)
  by_cases mine : q = s.address
  · subst mine
    obtain ⟨item, d, slot, rfl, units⟩ := own rfl
    rw [if_pos (by simp)]
    split
    next granted =>
      obtain ⟨-, member, -⟩ := (s.table.grants_iff s.address d.cls u.toNat).mp granted
      have entry : (s.table.apply s.address (.claim d.cls u tag)).entries[s.address] = s.table.entries[s.address].add d.cls u.toNat := by
        rw [Table.apply_claim_entry, if_pos ⟨rfl, granted⟩]
      rw [← units]
      refine State.grantedFor.claimGranted ⟨State.levelsFit_congr (by simp) (by simp) h.levels, h.inOrder.noted _ _, noted_calm,
        by simpa using item, by simpa using slot, fun joining => ?_, fun j => ?_⟩ tag
      · have absent := h.account.absent (by simpa using joining)
        exact absurd (absent.symm.trans member) nofun
      · rw [State.occupiedIn_congr s _ j (by simp) (by simp)]
        simp only [State.noted_frame, entry, Entry.add_held, ← h.account.balance inStep j, units]
    next denied =>
      refine State.balanced.claimDenied (h.noted ?_) noted_calm (by simpa using item) tag
      rw [Table.apply_claim_entry, if_neg fun e => denied e.2]
  · rw [if_neg (by simpa using mine)]
    refine h.noted ?_
    rw [Table.apply_claim_entry, if_neg fun e => mine e.1.symm]

/-- An accepted frame taken by the table and handed on, on a calm line in step. -/
theorem State.balanced.handOff (h : s.balanced) (calm : s.bus.calm) (inStep : s.member.participation.inStep = true)
    (sound : s.table.entries[s.address].sound) (own : q = s.address → s.ownTaken c) :
    ((s.noted q c).handOff s.table q c).balanced := by
  have started := Participation.started_of_inStep inStep
  have same (w : State) := State.inBalanceWith.refl w
  have noted_calm : (s.noted q c).bus.calm := calm.congr (by simp)
  have order := h.inOrder.noted q c
  have levels : (s.noted q c).levelsFit := State.levelsFit_congr (by simp) (by simp) h.levels
  cases c with
  | cap v => exact ((h.noted (q := q) (c := .cap v) rfl).inBalance ((same _).capApplied q v)).shedIfOverCap
  | evict target =>
    unfold State.handOff
    dsimp only
    split
    next r removed =>
      by_cases own_entry : r = s.address
      · subst own_entry
        obtain ⟨member, -⟩ := Table.removes_eq_some.mp removed
        have place : s.member.participation = .active ∨ s.member.participation = .leaving := by
          cases e : s.member.participation with
          | active => exact .inl rfl
          | leaving => exact .inr rfl
          | joining => exact absurd ((h.account.absent e).symm.trans member) nofun
          | setup | seeking | detached =>
            rw [e] at inStep
            cases inStep
        have address : (s.noted q (.evict target)).address = s.address := by simp
        rw [← address]
        refine State.handRemoval_own_balanced levels order.sends noted_calm ?_ (by simpa using place)
        simp only [State.noted_frame, Table.apply_entry_of_removes removed, if_pos]
      · rw [State.handRemoval_eq fun _ => by simpa using own_entry]
        refine (h.noted ?_).inBalance ((same _).memberRemoved r)
        rw [Table.apply_entry_of_removes removed, if_neg (Ne.symm own_entry)]
    next none_removed => exact h.noted (congrArg (·[s.address]) (Table.apply_entries_of_removes_none none_removed (.inr ⟨_, rfl⟩)))
  | leave => exact h.handOff_leave inStep fun e => (own e).leave rfl
  | release a =>
    have other : q ≠ s.address := fun e => (own e).release a rfl
    refine h.noted ?_
    rw [Table.apply_release_entry, if_neg fun e => other e.1.symm]
  | join => exact h.handOff_join calm inStep sound
  | freeze d =>
    have frozen : ((s.noted q (.freeze d)).freezeApplied d).balanced := (h.noted (q := q) (c := .freeze d) rfl).inBalance ((same _).freezeApplied d)
    unfold State.handOff
    dsimp only
    split
    · exact frozen
    · exact frozen.freezeClaim (noted_calm.congr ((same _).freezeApplied d).bus.line)
  | thaw =>
    have noted : (s.noted q .thaw).balanced := h.noted (c := .thaw) rfl
    unfold State.handOff
    dsimp only
    split
    · exact noted.inBalance ((same _).thawApplied.setBlocked none)
    · exact noted
  | claim k u tag => exact h.handOff_claim calm inStep fun e => (own e).claim k u tag rfl

theorem State.balanced.applyFrame (h : s.balanced) (calm : s.bus.calm) (inStep : s.member.participation.inStep = true)
    (sound : s.table.entries[s.address].sound) (own : q = s.address → s.ownTaken c) : (s.applyFrame q c).balanced := by
  obtain ⟨b, e⟩ := s.applyFrame_eq q c
  rw [e]
  exact (h.handOff calm inStep sound own).inBalance ((State.inBalanceWith.refl _).setBlocked b)

/-! ## The own RELEASE accepted (R14, R122) -/

/-- What the own entry is lowered by are the latched amounts, which are cleared. -/
theorem State.ready.applyFrame_release (h : s.ready) (inStep : s.member.participation.inStep = true)
    (sound : s.table.entries[s.address].sound) {a : Vector (BitVec 11) 4} (amounts : ∀ k : ClassIx, (a[k]).toNat = s.demand.latchedUnits[k]) :
    ((s.toldAccepted (.release a)).applyFrame s.address (.release a)).balanced := by
  obtain ⟨b, e⟩ := (s.toldAccepted (.release a)).applyFrame_eq s.address (.release a)
  rw [e]
  refine State.balanced.inBalance ?_ ((State.inBalanceWith.refl _).setBlocked b)
  change ((s.toldAccepted (.release a)).noted s.address (.release a)).balanced
  have told : (s.toldAccepted (.release a)).inOrder := by
    refine ⟨⟨h.sends.leave, h.sends.changes, h.sends.item, h.sends.held⟩,
      ⟨h.claims.filled, h.claims.claiming, h.claims.sent, h.claims.unmarked⟩, h.backed, State.latchSound_of_calm h.calm rfl⟩
  have member : (s.table.apply s.address (.release a)).entries[s.address].member = s.table.entries[s.address].member := by
    rw [Table.apply_release_entry]
    split <;> rfl
  have held (k : ClassIx) : (s.table.apply s.address (.release a)).entries[s.address].held[k]
      = s.table.entries[s.address].held[k] - s.demand.latchedUnits[k] := by
    rw [Table.apply_release_entry]
    split
    next => rw [Entry.lower_held, amounts]
    next not_member => rw [(sound k).2 (by simpa using not_member), Nat.zero_sub]
  refine (told.noted _ _).balanced (State.levelsFit_congr (by simp) (by simp) h.levels) ⟨fun joining => ?absent, fun _ k => ?balance⟩
  case absent =>
    simp only [State.noted_frame, State.toldAccepted_frame, member]
    exact h.account.absent (by simpa using joining)
  case balance =>
    have balance := h.account.balance inStep k
    rw [State.occupiedIn_congr s _ k (by simp) (by simp)]
    simp only [State.noted_frame, State.toldAccepted_frame, held]
    change s.occupiedIn k + s.demand.openUnits[k] + (Vector.replicate 4 0)[k] = _
    rw [no_units_get]
    omega

end applied

end Sys2Proof.Machine
end

section
/-! SUPPORT. The balance at the end of the node's own state-changing frame (R34, R35, R116, R117, R122, R129). -/

namespace Sys2Proof.Machine

section ownFrame

variable {s : State} {b : Base} {c : Change}

theorem change_kind_changes (c : Change) : c.kind.changes = true := by cases c <;> rfl

theorem eq_release_of_kind (h : c.kind = .release) : ∃ a, c = .release a := by
  cases c with
  | release a => exact ⟨a, rfl⟩
  | _ => cases h

theorem eq_claim_of_kind (h : c.kind = .claim) : ∃ k u tag, c = .claim k u tag := by
  cases c with
  | claim k u tag => exact ⟨k, u, tag, rfl⟩
  | _ => cases h

theorem eq_leave_of_kind (h : c.kind = .leave) : c = .leave := by
  cases c with
  | leave => rfl
  | _ => cases h

/-! ## What the frame in flight says of the state -/

theorem State.balanced.inStep_of_sending (h : s.balanced) (line : s.bus.line = .sending (.change b c)) :
    s.member.participation.inStep = true := h.sends.changes c.kind (change_kind_changes c) (.inr (Bus.latched_of_line line))

theorem State.balanced.leaving_of_sending (h : s.balanced) (line : s.bus.line = .sending (.change b c)) (leave : c.kind = .leave) :
    s.member.participation = .leaving := h.sends.leave (.inr (.inr (leave ▸ Bus.latched_of_line line)))

theorem State.balanced.zero_of_sending (h : s.balanced) (line : s.bus.line = .sending (.change b c)) (other : c.kind ≠ .release) :
    s.demand.latchedUnits = .replicate 4 0 := h.latch.2 fun b' a e => other (by
  obtain ⟨-, rfl⟩ : b = b' ∧ c = .release a := by simpa using line.symm.trans e
  rfl)

/-- The item of an own frame completed and retired. -/
theorem State.balanced.retired (h : s.balanced) (line : s.bus.line = .sending (.change b c)) :
    ((s.completeOwn c.kind).retire c.kind).ready ∧ (c.kind = .claim → ((s.completeOwn c.kind).retire c.kind).bus.has .claim = false) := by
  have done := h.completeOwn line c.kind
  refine ⟨done.inBalance (done.retire c.kind fun leave => by simpa using h.leaving_of_sending line leave), fun claim => ?_⟩
  rw [claim] at done ⊢
  exact done.retire_no_claim

/-! ## Accepted (R34) -/

theorem State.balanced.accepted (h : s.balanced) (line : s.bus.line = .sending (.change b c)) (sound : s.table.entries[s.address].sound) :
    ((((s.completeOwn c.kind).retire c.kind).toldAccepted c).applyFrame s.address c).balanced := by
  obtain ⟨ready, item⟩ := h.retired line
  have inStep := h.inStep_of_sending line
  by_cases release : c.kind = .release
  · obtain ⟨a, rfl⟩ := eq_release_of_kind release
    have taken := State.ready.applyFrame_release (a := a) ready (by simpa using inStep) (by simpa using sound)
      (by simpa using h.latch.1 b a line)
    simpa using taken
  · have zero := h.zero_of_sending line release
    have told := (State.inBalanceWith.refl ((s.completeOwn c.kind).retire c.kind)).toldAccepted release
    have retired := (ready.balanced (by simpa using zero)).inBalance told
    refine State.balanced.applyFrame retired (ready.calm.congr told.bus.line) ?inStep ?sound fun _ => ⟨fun a e => ?release, fun e => ?leave,
      fun k u tag e => ?claim⟩
    case inStep => simpa using inStep
    case sound => simpa using sound
    case release => exact release (by rw [e]; rfl)
    case leave => simpa using h.leaving_of_sending line (by rw [e]; rfl)
    case claim =>
      subst e
      obtain ⟨d, slot, -, cls, units⟩ := h.claims.sent b k u tag line
      refine ⟨by simpa using item rfl, d, ?_, cls, units⟩
      rw [told.slot]
      simpa using slot

/-! ## Refused or dropped (R35, R117, R122) -/

theorem addAccounts_get (v w : Vector Nat 4) (k : ClassIx) : (addAccounts v w)[k] = v[k] + w[k] := by
  fin_cases k <;> rfl

/-- The latched amounts back in the open account. -/
theorem State.ready.reopenAccount (h : s.ready) : s.reopenAccount.balanced := by
  refine State.standing.balanced ⟨h.levels, ⟨h.sends.leave, h.sends.changes, h.sends.item, h.sends.held⟩,
    ⟨h.claims.filled, h.claims.claiming, h.claims.sent, h.claims.unmarked⟩, h.account.absent, fun step k => ?_⟩ h.calm rfl h.backed
  change s.occupiedIn k + (addAccounts s.demand.openUnits s.demand.latchedUnits)[k] + (Vector.replicate 4 0)[k] = _
  have balance := h.account.balance step k
  rw [addAccounts_get, no_units_get]
  change _ = s.table.entries[s.address].held[k]
  omega

theorem State.ready.toldLost (h : s.ready) (zero : c.kind ≠ .release → s.demand.latchedUnits = .replicate 4 0)
    (item : c.kind = .claim → s.bus.has .claim = false) : (s.toldLost c).balanced := by
  have same := State.inBalanceWith.refl s
  cases c with
  | release a => exact h.reopenAccount
  | claim k u tag => exact h.standing.emptySlot_balanced h.calm (zero nofun) (item rfl)
  | freeze d => exact (h.balanced (zero nofun)).inBalance (same.elsewhere rfl)
  | evict q => exact (h.balanced (zero nofun)).inBalance (same.elsewhere rfl)
  | cap | leave | thaw | join => exact h.balanced (zero nofun)

theorem State.balanced.lost (h : s.balanced) (line : s.bus.line = .sending (.change b c)) (cause : StepCause) :
    (((s.lost c).outOfStep cause).afterCap c).balanced := by
  obtain ⟨ready, item⟩ := h.retired line
  have lost : (s.lost c).balanced := ready.toldLost (fun other => by simpa using h.zero_of_sending line other) item
  exact (lost.outOfStep (s.lost_calm c) cause).inBalance ((State.inBalanceWith.refl _).afterCap c)

/-! ## Unheard (R35, R116, R122, R129) -/

/-- The claim composed anew: the item that is left stands for it, or goes. -/
theorem State.ready.composedAnew (h : s.ready) (zero : s.demand.latchedUnits = .replicate 4 0)
    (queued : ∀ x ∈ s.emptySlot.compose.demand.queue, (s.emptySlot.compose.load x).state.queued = true) (k : ClassIx) (u : Byte) (tag : LoadIx) :
    (s.emptySlot.afterUnheard (.claim k u tag)).balanced := by
  have calm : s.emptySlot.bus.calm := h.calm.congr (by simp)
  have waiting (x : LoadIx) (hx : x ∈ s.emptySlot.demand.queue) : (s.emptySlot.load x).state.queued = true := by
    rw [← (s.emptySlot.compose_load x).2.queued]
    refine queued x ?_
    rw [State.compose_demand]
    exact hx
  obtain ⟨standing, latch, outcome⟩ := (h.standing.emptySlot h.calm).compose
    (State.latchSound_of_calm calm (s.emptySlot_account.2.trans zero)) s.emptySlot_slot (calm .claim).1 waiting
  unfold State.afterUnheard
  dsimp only
  rcases outcome with ⟨empty, bus⟩ | filled
  · have calm' : s.emptySlot.compose.bus.calm := bus ▸ calm
    rw [empty, if_neg nofun]
    exact ⟨standing.inBalance (.dropItem_calm calm' .claim), State.claimBacked_of_no_item (Bus.has_drop_self _ _), latch⟩
  · rw [if_pos filled]
    exact ⟨standing, fun _ => filled, latch⟩

/-- A frame unheard with attempts remaining. -/
theorem State.balanced.unheard (h : s.balanced) (line : s.bus.line = .sending (.change b c)) {n : Nat}
    (queued : ∀ x ∈ ((((s.completeOwn c.kind).keepItem c.kind n).toldLost c).afterUnheard c).demand.queue,
      (((((s.completeOwn c.kind).keepItem c.kind n).toldLost c).afterUnheard c).load x).state.queued = true) :
    ((((s.completeOwn c.kind).keepItem c.kind n).toldLost c).afterUnheard c).balanced := by
  have waits := (h.completeOwn line c.kind).inBalance ((State.inBalanceWith.refl _).keepItem c.kind n)
  have zero (other : c.kind ≠ .release) : ((s.completeOwn c.kind).keepItem c.kind n).demand.latchedUnits = .replicate 4 0 := by
    simpa using h.zero_of_sending line other
  generalize (s.completeOwn c.kind).keepItem c.kind n = v at *
  by_cases claim : c.kind = .claim
  · obtain ⟨k, u, tag, rfl⟩ := eq_claim_of_kind claim
    refine waits.composedAnew (zero nofun) ?_ k u tag
    obtain ⟨demand, loads⟩ : ((v.emptySlot).afterUnheard (.claim k u tag)).demand = v.emptySlot.compose.demand
        ∧ ((v.emptySlot).afterUnheard (.claim k u tag)).loads = v.emptySlot.compose.loads := by
      unfold State.afterUnheard
      dsimp only
      split <;> exact ⟨rfl, rfl⟩
    intro x hx
    have listed := queued x (by
      change x ∈ (v.emptySlot.afterUnheard (.claim k u tag)).demand.queue
      rw [demand]
      exact hx)
    change ((v.emptySlot.afterUnheard (.claim k u tag)).load x).state.queued = true at listed
    rwa [State.load, loads] at listed
  · have told : (v.toldLost c).balanced := waits.toldLost zero fun e => absurd e claim
    have same := State.inBalanceWith.refl (v.toldLost c)
    unfold State.afterUnheard
    split
    · exact absurd rfl claim
    · split
      · exact told
      · exact told.inBalance (same.dropItem nofun)
    · exact told.inBalance same.takeHeldCap
    all_goals exact told

/-- The end of the node's own state-changing frame. -/
theorem State.balanced.ownChange (h : s.balanced) (line : s.bus.line = .sending (.change b c)) (sound : s.table.entries[s.address].sound)
    (slots : Slots) (queued : ∀ x ∈ (s.ownChange c slots).demand.queue, ((s.ownChange c slots).load x).state.queued = true) :
    (s.ownChange c slots).balanced := by
  by_cases accepted : slots.ack = true ∨ (slots.obj = false ∧ s.table.hasOther s.address = false)
  · rw [State.ownChange_of_accepted accepted]
    exact (h.accepted line sound).inBalance ((State.inBalanceWith.refl _).afterCap c)
  · obtain ⟨ack, open_outcome⟩ := not_or.mp accepted
    replace ack : slots.ack = false := by simpa using ack
    by_cases obj : slots.obj = true
    · rw [State.ownChange_of_refused ack obj]
      exact h.lost line .objected
    · replace obj : slots.obj = false := by simpa using obj
      have others : s.table.hasOther s.address = true := by simpa [obj] using open_outcome
      rw [State.ownChange_of_unheard ack obj others] at queued ⊢
      split at queued
      next few =>
        rw [if_pos few]
        exact h.unheard line queued
      next many =>
        rw [if_neg many]
        exact h.lost line .unacknowledged

end ownFrame

end Sys2Proof.Machine
end

section
/-! SUPPORT. The balance at the end of other frames: another node's, and the node's own of the kinds that change no table (R29 to R39, R49,
R54 to R61, R148). -/

namespace Sys2Proof.Machine

section frames

variable {s : State} {k : FrameKind} {q : Station}

/-! ## Failures counted and duplicates (R30, R39) -/

theorem State.balanced.countFailure (h : s.balanced) (started : s.member.participation ≠ .setup) (k : FrameKind) :
    (s.countFailure k).balanced := by
  unfold State.countFailure
  dsimp only
  split
  · exact h.inBalance ((State.inBalanceWith.refl s).elsewhere rfl)
  · exact State.enterDetached_balanced (State.levelsFit_congr (by simp) (by simp) h.levels) (by simpa using started)

theorem State.balanced.duplicate (h : s.balanced) (started : s.member.participation ≠ .setup) (calm : s.bus.calm) (k : FrameKind) :
    (s.duplicate k).balanced := (h.setLine calm s.bus.calm_gap).countFailure started k

/-! ## Another node's frame -/

theorem State.balanced.received (h : s.balanced) (calm : s.bus.calm) (k : FrameKind) (q : Station) : (s.received k q).balanced :=
  (h.setLine calm s.bus.calm_gap).inBalance (((State.inBalanceWith.refl _).heard q).countFrame k q)

theorem State.received_calm (s : State) (k : FrameKind) (q : Station) : (s.received k q).bus.calm := (State.received_itemsOnly k q).calm

/-- Another node's state-changing frame (R31 to R33, R57). -/
theorem State.balanced.otherChange (h : s.balanced) (calm : s.bus.calm) (other : q ≠ s.address) (sound : s.table.entries[s.address].sound)
    (b : Base) (c : Change) (slots : Slots) : (s.otherChange q b c slots).balanced := by
  have received := h.received calm c.kind q
  have calm' := s.received_calm c.kind q
  unfold State.otherChange
  dsimp only
  (repeat' split)
  next inStep _ => exact received.applyFrame calm' inStep (by simpa using sound) fun e => absurd e (by simpa using other)
  · exact received.outOfStep calm' _
  · exact received
  · exact received
  · exact received.inBalance ((State.inBalanceWith.refl _).record _)
  · exact received

/-! ## Collection and installation (R58 to R61) -/

theorem State.balanced.finishCollection (h : s.balanced) (seeking : s.member.participation = .seeking) (granted : s.granted)
    {c : Collection} (sound : entriesSound c.entries) : (s.finishCollection c).balanced := by
  have same := State.inBalanceWith.refl s
  unfold State.finishCollection
  split
  · split
    next t rs replayed =>
      exact (h.vacant (by rw [seeking]; rfl)).install h.levels seeking granted _ t rs (replay_sound (t := c.table) sound replayed _)
    · exact h.inBalance (same.abandon _)
  · exact h.inBalance (same.abandon _)

theorem State.balanced.collect (h : s.balanced) (seeking : s.member.participation = .seeking) (granted : s.granted) (tables : s.tablesSound)
    (q : Station) (seg : Segment) : (s.collect q seg).balanced := by
  have same := State.inBalanceWith.refl s
  unfold State.collect
  split
  next c collecting =>
    split
    · split
      · exact h.inBalance (same.abandon _)
      next index rows =>
        have stored := storeRows_sound (tables.2 c collecting) index rows
        unfold State.storeSegment
        dsimp only
        (repeat' split)
        · exact h.finishCollection seeking granted stored
        · exact h.inBalance (same.elsewhere rfl)
        · exact h.inBalance (same.abandon _)
    · exact h
  · split
    · unfold State.startCollection
      split
      · exact h.inBalance (same.elsewhere rfl)
      · exact h
    · exact h

theorem State.balanced.otherSegment (h : s.balanced) (calm : s.bus.calm) (granted : s.granted) (tables : s.tablesSound) (q : Station)
    (seg : Segment) : (s.otherSegment q seg).balanced := by
  have received := h.received calm .image q
  unfold State.otherSegment
  dsimp only
  split
  next seeking =>
    refine received.collect seeking (State.granted_congr (by simp) granted) ?_ q seg
    obtain ⟨-, -, -, -, collection, -⟩ := s.received_sameSeeking .image q
    exact State.tablesSound_of_same tables (by simp) collection
  next =>
    split
    · split
      · exact received.inBalance (State.inBalanceWith.refl _).noteSegmentZero
      · exact received
    · exact received

/-! ## The node's own frames of the other kinds (R36, R49, R56, R148) -/

/-- An own frame that changes no table, completed. -/
theorem State.balanced.completed (h : s.balanced) {body : FrameBody} (line : s.bus.line = .sending body) (plain : body.kind.changes = false)
    (k : FrameKind) : (s.completeOwn k).balanced := by
  refine (h.completeOwn line k).balanced ?_
  have zero := h.latch.2 fun b a e => by
    obtain rfl : body = .change b (.release a) := by simpa using line.symm.trans e
    cases plain
  simpa using zero

theorem State.balanced.completed_retired (h : s.balanced) {body : FrameBody} (line : s.bus.line = .sending body)
    (plain : body.kind.changes = false) {k : FrameKind} (claim : k ≠ .claim) (leave : k ≠ .leave) :
    ((s.completeOwn k).retire k).balanced :=
  (h.completed line plain k).inBalance ((State.inBalanceWith.refl _).retire claim fun e => absurd e leave)

theorem State.balanced.ownSeek (h : s.balanced) {body : FrameBody} (line : s.bus.line = .sending body) (plain : body.kind.changes = false) :
    s.ownSeek.balanced := by
  have retired := h.completed_retired line plain (k := .seek) nofun nofun
  unfold State.ownSeek
  dsimp only
  split
  · exact retired.inBalance ((State.inBalanceWith.refl _).elsewhere rfl)
  · exact retired

theorem State.balanced.ownSegment (h : s.balanced) {body : FrameBody} (line : s.bus.line = .sending body) (plain : body.kind.changes = false)
    (body' : FrameBody) : (s.ownSegment body').balanced := by
  have retired := h.completed_retired line plain (k := .image) nofun nofun
  unfold State.ownSegment
  dsimp only
  (repeat' split)
  · exact retired.inBalance ((State.inBalanceWith.refl _).advanceTrain _)
  · exact retired
  · exact retired

theorem State.balanced.ownGroup (h : s.balanced) {body : FrameBody} (line : s.bus.line = .sending body) (plain : body.kind.changes = false)
    (body' : FrameBody) : (s.ownGroup body').balanced := by
  have done := h.completed line plain .group
  unfold State.ownGroup
  dsimp only
  split
  · exact State.balanced.applyCode (done.inBalance ((State.inBalanceWith.refl _).elsewhere (by rfl))) _
  · exact done

/-! ## The end of a frame -/

/-- The end of a frame: nothing, the node's own, a duplicate, or another node's, each with the line it takes. -/
theorem State.frameEnd_keeps_by_line {P : State → Prop} {own : FrameBody → State → State} {other : State → State} (h : P s)
    (hown : ∀ body, s.bus.line = .sending body → body.kind = k → P (own body s).settle) (hdup : s.bus.line.receives = true → P (s.duplicate k))
    (hother : s.bus.line.receives = true → q ≠ s.address → P (other s).settle) : P (s.frameEnd k q own other) := by
  unfold State.frameEnd
  split
  next body line =>
    split
    next mine => exact hown body line mine.1
    · exact h
  case h_5 | h_6 | h_7 => exact h
  all_goals
    next line =>
      split
      · exact hdup (by rw [line]; rfl)
      next hq => exact hother (by rw [line]; rfl) hq

/-- The line is not received in SETUP. -/
def State.offInSetup (s : State) : Prop := s.member.participation = .setup → s.bus.line = .off

theorem State.offInSetup.started (h : s.offInSetup) (line : s.bus.line ≠ .off) : s.member.participation ≠ .setup :=
  fun setup => line (h setup)

theorem Line.ne_off_of_receives {l : Line} (h : l.receives = true) : l ≠ .off := fun off => by
  rw [off] at h
  cases h

/-- The ends of frames with the duplicate taken care of. -/
theorem State.balanced.frameEnd (h : s.balanced) (off : s.offInSetup) {own : FrameBody → State → State} {other : State → State}
    (hown : ∀ body, s.bus.line = .sending body → body.kind = k → (own body s).settle.balancedWhereListed)
    (hother : s.bus.calm → q ≠ s.address → (other s).balanced) : (s.frameEnd k q own other).balancedWhereListed :=
  State.frameEnd_keeps_by_line h.whereListed hown
    (fun receives =>
      (h.duplicate (off.started (Line.ne_off_of_receives receives)) (Bus.calm_of_receives receives) k).whereListed)
    fun receives hq => (hother (Bus.calm_of_receives receives) hq).settle

theorem State.balanced.changeEnd (h : s.balanced) (off : s.offInSetup) (sound : s.table.entries[s.address].sound) (q : Station) (b : Base)
    (c : Change) (slots : Slots) : (s.changeEnd q b c slots).balancedWhereListed := by
  refine h.frameEnd off (fun body line _ => ?_) fun calm hq => h.otherChange calm hq sound b c slots
  split
  next b' c' =>
    intro listed
    exact (h.ownChange line sound slots (State.queued_of_settled listed)).settle listed
  next => exact h.settle

end frames

end Sys2Proof.Machine
end

section
/-! SUPPORT. The balance through contention, the latch and transmit failures (R26, R38, R41 to R44, R113). -/

namespace Sys2Proof.Machine

section line

variable {s : State} {k : FrameKind} {l : Line}

theorem Bus.contends_of_line {b : Bus} (line : b.line = .contending k) (j : FrameKind) : b.contends j = (k == j) := by
  rw [Bus.contends, line]

theorem Bus.latched_of_contending {b : Bus} (line : b.line = .contending k) (j : FrameKind) : b.latched j = false := by
  rw [Bus.latched, line]

/-- The withdrawal of a CLAIM is held while it is contended with alone (R113). -/
theorem Bus.not_claimHeld_of_line {b : Bus} (line : b.line = .contending k) (other : k ≠ .claim) : b.claimHeld = false := by
  rw [Bus.claimHeld, Bus.contends_of_line line]
  simp [other]

/-! ## Contention (R42) -/

/-- A state-changing kind is allowed in step alone (Table 2.8). -/
theorem Participation.inStep_of_allows {p : Participation} (changes : k.changes = true) (allowed : p.allows k = true) : p.inStep = true := by
  cases p with
  | joining | active | leaving => rfl
  | setup | detached => cases allowed
  | seeking =>
    cases k with
    | cap | evict | release | leave | freeze | thaw | join | claim => cases allowed
    | alive | image | seek | group => cases changes

/-- The node contends with an eligible item. -/
theorem State.balanced.contend (h : s.balanced) (calm : s.bus.calm) (eligible : s.eligible k = true) :
    (s.setLine (.contending k)).balanced := by
  have not_held := h.sends.not_held calm
  obtain ⟨⟨allowed, there⟩, -⟩ : (s.member.participation.allows k = true
      ∧ (if k == .group then !s.bus.codes.isEmpty else s.bus.has k) = true) ∧ _ := by
    simpa only [State.eligible, Bool.and_eq_true] using eligible
  have latched (j : FrameKind) : (s.setLine (.contending k)).bus.latched j = false := Bus.latched_of_contending (k := k) rfl j
  have item (j : FrameKind) (contending : (s.setLine (.contending k)).bus.contends j = true) (hj : j ≠ .group) : s.bus.has j = true := by
    obtain rfl : k = j := Line.contending.inj (Bus.contends_iff.mp contending)
    simpa [hj] using there
  have not_claimHeld : (s.setLine (.contending k)).bus.claimHeld = false := Bus.claimHeld_of_not_held not_held
  refine ⟨⟨h.levels, ⟨fun some_leave => ?leave, fun j changes sent => ?changes, fun contending => item .claim contending nofun,
    fun held => absurd (not_held.symm.trans held) nofun⟩, ⟨fun c slot => ?filled, fun x claims => ⟨not_claimHeld, (h.claims.claiming x claims).2⟩,
    nofun, h.claims.unmarked⟩, h.account.absent, h.account.balance⟩, h.backed, nofun, fun _ => h.latched_zero calm⟩
  case leave =>
    rcases some_leave with has | contending | sent
    · exact h.sends.leave (.inl has)
    · exact h.sends.leave (.inl (item .leave contending nofun))
    · exact absurd ((latched .leave).symm.trans sent) nofun
  case changes =>
    rcases sent with contending | sent
    · obtain rfl : k = j := Line.contending.inj (Bus.contends_iff.mp contending)
      exact Participation.inStep_of_allows changes allowed
    · exact absurd ((latched j).symm.trans sent) nofun
  case filled =>
    obtain ⟨step, small, kept⟩ := h.claims.filled c slot
    refine ⟨step, small, ?_⟩
    rcases kept with orphaned | held | fits
    · exact .inl orphaned
    · exact absurd (calm.claimHeld.symm.trans held) nofun
    · exact .inr (.inr fits)

/-! ## The end of a contention not won (R44, R113, R128) -/

/-- The Bus Controller on a new line, with the withdrawal held of an item taken. -/
def Bus.droppedOn (b : Bus) (l : Line) (k : FrameKind) : Bus := { b with line := l, withdrawHeld := false }.drop k

/-- What was held for the item contended with is taken. -/
theorem State.balanced.takeHeldWithdrawal (h : s.balanced) (line : s.bus.line = .contending k) (calm : { s.bus with line := l }.calm) :
    ((s.setLine l).takeHeldWithdrawal k).balanced := by
  have zero : s.demand.latchedUnits = .replicate 4 0 := h.latch.2 fun b a e => absurd (line.symm.trans e) nofun
  by_cases held : s.bus.withdrawHeld = true
  · have fewer : ∀ i ∈ (s.bus.droppedOn l k).items, i ∈ s.bus.items := fun i hi => (List.mem_filter.mp hi).1
    have dropped_calm : (s.bus.droppedOn l k).calm := calm
    have taken : (s.setLine l).takeHeldWithdrawal k = if k = .claim then { s with bus := s.bus.droppedOn l k }.emptySlot
        else { s with bus := s.bus.droppedOn l k } := if_pos held
    rw [taken]
    split
    next claim =>
      subst claim
      have claimHeld : s.bus.claimHeld = true := Bool.and_eq_true_iff.mpr ⟨by rw [Bus.contends_of_line line]; rfl, held⟩
      refine (State.standing_emptySlot (s := { s with bus := s.bus.droppedOn l .claim }) h.levels (h.sends.newLine dropped_calm fewer rfl)
        ⟨h.account.absent, h.account.balance⟩ dropped_calm (fun x claims => ?_) fun i hi => h.claims.unmarked i (fewer i hi)).balanced
        (dropped_calm.congr (by simp)) ((State.emptySlot_account _).2.trans zero)
        (State.claimBacked_of_no_item (by
          simp only [State.emptySlot_frame]
          exact Bus.has_drop_self _ _))
      exact absurd ((h.claims.claiming x claims).1.symm.trans claimHeld) nofun
    next other =>
      exact (h.newLine (Bus.not_claimHeld_of_line line other) dropped_calm fewer rfl).balanced zero
  · replace held : s.bus.withdrawHeld = false := by simpa using held
    rw [State.takeHeldWithdrawal_of_not_held (by exact held)]
    exact (h.newLine (Bus.claimHeld_of_not_held held) calm (fun _ => id) held).balanced zero

theorem State.balanced.contentionOver (h : s.balanced) (line : s.bus.line = .contending k) (calm : { s.bus with line := l }.calm) :
    ((s.setLine l).contentionOver k).balanced := by
  have taken := h.takeHeldWithdrawal line calm
  unfold State.contentionOver
  dsimp only
  split
  · exact taken.inBalance (State.inBalanceWith.refl _).takeHeldCap
  · exact taken

/-! ## Transmit failures (R38, R39) -/

/-- The latch of a CLAIM undone: orphaned, the slot is emptied and its item goes; else the claim is posted as before (R113). -/
theorem State.ready.undoClaim (h : s.ready) (zero : s.demand.latchedUnits = .replicate 4 0) (b : Base) (k : ClassIx) (u : Byte) (tag : LoadIx) :
    (s.undoLatch (.change b (.claim k u tag))).balanced := by
  unfold State.undoLatch
  dsimp only
  split
  next c slot =>
    split
    next orphaned =>
      have idle (y : LoadIx) : (s.load y).state.claims = false := Bool.eq_false_iff.mpr fun claims => by
        obtain ⟨c', slot', -, live⟩ := h.claims.owned y claims
        obtain rfl := Option.some.inj (slot.symm.trans slot')
        exact absurd (live.symm.trans orphaned) nofun
      refine State.vacant.balanced (State.sendsSound.vacant ?_ h.calm rfl idle (Bus.has_drop_self _ _) zero) h.levels
        ⟨h.account.absent, h.account.balance⟩
      have dropped := h.sends.newLine (b := s.bus.drop .claim) h.calm (fun i hi => (List.mem_filter.mp hi).1) (h.sends.not_held h.calm)
      exact ⟨dropped.leave, dropped.changes, dropped.item, dropped.held⟩
    next live =>
      refine State.standing.balanced ⟨h.levels, ⟨h.sends.leave, h.sends.changes, h.sends.item, h.sends.held⟩,
        ⟨fun c' slot' => ?filled, fun x claims => ?claiming, fun b' k' u' tag' line => ?sent, h.claims.unmarked⟩,
        h.account.absent, h.account.balance⟩ h.calm zero fun _ => rfl
      case filled =>
        obtain rfl := Option.some.inj slot'
        exact h.claims.filled c slot
      case claiming =>
        obtain ⟨held, c', slot', load, live⟩ := h.claims.claiming x claims
        obtain rfl := Option.some.inj (slot.symm.trans slot')
        exact ⟨held, _, rfl, load, live⟩
      case sent => exact absurd ((h.calm .claim).2.symm.trans (Bus.latched_of_line line)) nofun
  next => exact h.balanced zero

theorem State.ready.undoLatch (h : s.ready) {body : FrameBody}
    (zero : (∀ b a, body ≠ .change b (.release a)) → s.demand.latchedUnits = .replicate 4 0) : (s.undoLatch body).balanced := by
  have same := State.inBalanceWith.refl s
  cases body with
  | change b c =>
    cases c with
    | claim k u tag => exact h.undoClaim (zero nofun) b k u tag
    | cap v => exact (h.balanced (zero nofun)).inBalance same.takeHeldCap
    | release a => exact h.toldLost (c := .release a) (fun other => absurd rfl other) nofun
    | freeze d => exact h.toldLost (c := .freeze d) (fun _ => zero nofun) nofun
    | evict q => exact h.toldLost (c := .evict q) (fun _ => zero nofun) nofun
    | leave => exact h.toldLost (c := .leave) (fun _ => zero nofun) nofun
    | thaw => exact h.toldLost (c := .thaw) (fun _ => zero nofun) nofun
    | join => exact h.toldLost (c := .join) (fun _ => zero nofun) nofun
  | image seg =>
    cases seg with
    | header i => exact (h.balanced (zero nofun)).inBalance (same.elsewhere rfl)
    | entries i rows => exact h.balanced (zero nofun)
  | alive => exact h.balanced (zero nofun)
  | seek => exact h.balanced (zero nofun)
  | group c => exact h.balanced (zero nofun)

theorem State.balanced.failTransmit (h : s.balanced) (off : s.offInSetup) : s.failTransmit.balancedWhereListed := by
  unfold State.failTransmit
  split
  next k line =>
    have started := off.started (by rw [line]; nofun)
    have ended := h.contentionOver (l := .integrating) line s.bus.calm_integrating
    exact (ended.countFailure (by simpa using started) k).settle
  next body line =>
    have started := off.started (by rw [line]; nofun)
    have not_held := h.sends.not_held_of_quiet fun k e => absurd (line.symm.trans e) nofun
    have integrates : (s.setLine .integrating).ready :=
      h.newLine (Bus.claimHeld_of_not_held not_held) s.bus.calm_integrating (fun _ => id) not_held
    have kept := integrates.inBalance ((State.inBalanceWith.refl _).keepItem body.kind ((s.setLine .integrating).bus.attempts body.kind))
    have undone := kept.undoLatch (body := body) fun other => h.latch.2 fun b a e => by
      obtain rfl : body = .change b (.release a) := by simpa using line.symm.trans e
      exact other b a rfl
    exact (undone.countFailure (by rw [(State.undoLatch_sameSeeking _ body).1]; simpa using started) body.kind).settle
  all_goals exact h.whereListed

end line

end Sys2Proof.Machine
end

section
/-! SUPPORT. The balance through the latch (R43, R44). -/

namespace Sys2Proof.Machine

section latch

variable {s : State} {k : FrameKind} {body : FrameBody}

theorem State.kind_of_latchBody (h : s.latchBody k = some body) : body.kind = k := by
  cases k with
  | cap | evict | freeze | claim | group =>
    obtain ⟨_, -, rfl⟩ := Option.map_eq_some_iff.mp h
    rfl
  | release | alive | leave | thaw | join | seek =>
    obtain rfl := Option.some.inj h
    rfl
  | image =>
    cases train : s.member.train with
    | none =>
      obtain rfl := Option.some.inj ((State.latchBody_header train).symm.trans h)
      rfl
    | some i =>
      simp only [State.latchBody, train] at h
      obtain ⟨_, -, rfl⟩ := Option.map_eq_some_iff.mp h
      rfl

/-- The line of a node that sends a body. -/
def State.sent (s : State) (body : FrameBody) : State := { s with bus := { s.bus with line := .sending body, withdrawHeld := false } }

theorem State.sendsSound.sent (h : s.sendsSound) (line : s.bus.line = .contending body.kind) : (s.sent body).sendsSound := by
  have contended (j : FrameKind) (latched : (s.sent body).bus.latched j = true) : s.bus.contends j = true := by
    obtain ⟨b, sending, kind⟩ := Bus.latched_iff.mp latched
    obtain rfl : body = b := Line.sending.inj sending
    rw [Bus.contends_iff, line, kind]
  refine ⟨fun some_leave => ?_, fun j changes sent => ?_, nofun, nofun⟩
  · rcases some_leave with has | contends | latched
    · exact h.leave (.inl has)
    · exact absurd contends nofun
    · exact h.leave (.inr (.inl (contended .leave latched)))
  · rcases sent with contends | latched
    · exact absurd contends nofun
    · exact h.changes j changes (.inl (contended j latched))

theorem State.claimsSound.sentOther (h : s.claimsSound) (line : s.bus.line = .contending body.kind) (other : body.kind ≠ .claim) :
    (s.sent body).claimsSound := by
  refine ⟨fun c slot => ?_, fun x claims => ⟨rfl, (h.claiming x claims).2⟩, fun b k u tag sending => ?_, h.unmarked⟩
  · obtain ⟨step, small, kept⟩ := h.filled c slot
    refine ⟨step, small, kept.imp_right fun kept => .inr (kept.resolve_left fun held => ?_)⟩
    exact absurd ((Bus.not_claimHeld_of_line line other).symm.trans held) nofun
  · obtain rfl : body = .change b (.claim k u tag) := Line.sending.inj sending
    exact absurd rfl other

/-- The latch of a body of another kind than CLAIM and RELEASE. -/
theorem State.balanced.sent (h : s.balanced) (line : s.bus.line = .contending body.kind) (claim : body.kind ≠ .claim)
    (release : body.kind ≠ .release) : (s.sent body).balanced :=
  ⟨⟨h.levels, h.sends.sent line, h.claims.sentOther line claim, h.account.absent, h.account.balance⟩, h.backed,
    fun b a sending => absurd (by rw [Line.sending.inj sending]; rfl) release,
    fun _ => h.latch.2 fun b a sending => absurd (line.symm.trans sending) nofun⟩

/-- What the posting block does at the latch of a body of another kind than CLAIM and RELEASE is no part of the balance. -/
theorem State.inBalanceWith.toldLatched {u : State} (h : s.inBalanceWith u) (claim : body.kind ≠ .claim) (release : body.kind ≠ .release) :
    s.inBalanceWith (u.toldLatched body) := by
  unfold State.toldLatched
  split
  · exact absurd rfl release
  · exact h.elsewhere rfl
  · exact h.elsewhere rfl
  · exact absurd rfl claim
  · exact h.elsewhere rfl
  · exact h

/-- The amounts of the open account fit the frame: the own entry holds them, and no entry holds more than 2047 (R1, R120). -/
theorem State.balanced.openUnits_fit (h : s.balanced) (inStep : s.member.participation.inStep = true)
    (sound : s.table.entries[s.address].sound) (c : ClassIx) : s.demand.openUnits[c] < 2 ^ 11 := by
  have balance := h.account.balance inStep c
  have most : s.table.entries[s.address].held[c] ≤ 2047 := (sound c).1
  omega

/-- The latch of RELEASE: the open account is in flight, amount by amount. -/
theorem State.balanced.latchRelease (h : s.balanced) (line : s.bus.line = .contending .release)
    (sound : s.table.entries[s.address].sound) : (s.latch .release).balanced := by
  have inStep : s.member.participation.inStep = true := h.sends.changes .release rfl (.inl (Bus.contends_iff.mpr line))
  have zero : s.demand.latchedUnits = .replicate 4 0 := h.latch.2 fun b a sending => absurd (line.symm.trans sending) nofun
  have fits := h.openUnits_fit inStep sound
  rw [State.latch_of_body rfl]
  have sends := h.sends.sent (body := .change s.table.base (.release (.replicate 4 0))) line
  have claims := h.claims.sentOther (body := .change s.table.base (.release (.replicate 4 0))) line nofun
  refine ⟨⟨h.levels, ⟨sends.leave, sends.changes, nofun, nofun⟩, ⟨claims.filled, claims.claiming,
      fun b k u tag sending => absurd (FrameBody.change.inj (Line.sending.inj sending)).2 nofun, h.claims.unmarked⟩,
    h.account.absent, fun _ c => ?balance⟩, h.backed, fun b a sending c => ?amounts, fun other => absurd rfl (other _ _)⟩
  case balance =>
    have balance := h.account.balance inStep c
    rw [zero, no_units_get] at balance
    have moved : s.occupiedIn c + 0 + s.demand.openUnits[c] = s.table.entries[s.address].held[c] := by omega
    exact (congrArg (fun n => s.occupiedIn c + n + s.demand.openUnits[c]) (no_units_get c)).trans moved
  case amounts =>
    obtain rfl := Change.release.inj (FrameBody.change.inj (Line.sending.inj sending)).2
    have fit := fits c
    fin_cases c <;> exact Nat.mod_eq_of_lt fit

/-- The latch of CLAIM: a withdrawal held is too late, and the claim is orphaned (R44, R113). -/
theorem State.balanced.latchClaim (h : s.balanced) (line : s.bus.line = .contending .claim) : (s.latch .claim).balanced := by
  have zero : s.demand.latchedUnits = .replicate 4 0 := h.latch.2 fun b a sending => absurd (line.symm.trans sending) nofun
  have contends : s.bus.contends .claim = true := Bus.contends_iff.mpr line
  obtain ⟨c, slot⟩ := Option.isSome_iff_exists.mp (h.backed (h.sends.item contends))
  obtain ⟨inStep, small, kept⟩ := h.claims.filled c slot
  have fixed : s.latchBody .claim = some (.change s.table.base (.claim c.cls (.ofNat 8 c.units) c.load)) := by
    simp [State.latchBody, slot]
  have told : s.toldLatched (.change s.table.base (.claim c.cls (.ofNat 8 c.units) c.load))
      = s.setSlot (some { c with latched := true, orphaned := c.orphaned || s.bus.withdrawHeld }) := by
    simp [State.toldLatched, slot]
  rw [State.latch_of_body fixed, told]
  have sends := h.sends.sent (body := .change s.table.base (.claim c.cls (.ofNat 8 c.units) c.load)) line
  refine ⟨⟨h.levels, ⟨sends.leave, sends.changes, nofun, nofun⟩,
    ⟨fun c' filled => ?filled, fun x claims => ?claiming, fun b k u tag sending => ?sent, h.claims.unmarked⟩,
    h.account.absent, h.account.balance⟩, fun _ => rfl,
    fun b a sending => absurd (FrameBody.change.inj (Line.sending.inj sending)).2 nofun, fun _ => zero⟩
  case filled =>
    obtain rfl := Option.some.inj filled
    refine ⟨inStep, small, ?_⟩
    rcases kept with orphaned | held | fits
    · exact .inl (by simp [orphaned])
    · exact .inl (by simp [(Bool.and_eq_true_iff.mp held).2])
    · exact .inr (.inr fits)
  case claiming =>
    obtain ⟨not_claimHeld, c', slot', load, live⟩ := h.claims.claiming x claims
    obtain rfl := Option.some.inj (slot.symm.trans slot')
    rw [Bus.claimHeld, contends, Bool.true_and] at not_claimHeld
    exact ⟨rfl, _, rfl, load, by simp [live, not_claimHeld]⟩
  case sent =>
    obtain ⟨-, rfl, rfl, -⟩ : s.table.base = b ∧ c.cls = k ∧ BitVec.ofNat 8 c.units = u ∧ c.load = tag := by simpa using sending
    exact ⟨_, rfl, rfl, rfl, (Nat.mod_eq_of_lt (Nat.lt_succ_of_le small)).symm⟩

theorem State.balanced.latchItem (h : s.balanced) (line : s.bus.line = .contending k) (sound : s.table.entries[s.address].sound) :
    (s.latch k).balanced := by
  by_cases claim : k = .claim
  · subst claim
    exact h.latchClaim line
  by_cases release : k = .release
  · subst release
    exact h.latchRelease line sound
  cases fixed : s.latchBody k with
  | none =>
    rw [State.latch, fixed]
    exact h
  | some body =>
    obtain rfl := State.kind_of_latchBody fixed
    rw [State.latch_of_body fixed]
    have told := h.inBalance ((State.inBalanceWith.refl s).toldLatched claim release)
    have sent := told.sent (by rw [State.toldLatched_bus]; exact line) claim release
    rwa [State.sent, State.toldLatched_bus] at sent

end latch

end Sys2Proof.Machine
end

section
/-! SUPPORT. The balance through the rows of the line and of frames: a part that is sound, and what each row leaves of it (Table 2.4). -/

namespace Sys2Proof.Machine

/-- The premises of a step of a running part, but for its records. -/
structure State.poised (s : State) : Prop where
  tables : s.tablesSound
  lists : s.listsSound
  parked : s.parkedSound
  balanced : s.balanced

/-- What every row keeps: a part that runs after it is in balance, where its lists are sound. -/
def State.balancedWhenRuns (s : State) : Prop := s.power.running = true → s.balancedWhereListed

/-- In SETUP and DETACHED the line is off and the send list empty (R8, R23). -/
theorem State.poised.off {s : State} (h : s.poised) (off : s.member.participation.onLine = false) :
    s.bus.line = .off ∧ s.bus.items = [] := by
  obtain ⟨-, items, -, line, -⟩ := h.parked off
  exact ⟨line, items⟩

theorem State.poised.offInSetup {s : State} (h : s.poised) : s.offInSetup := fun setup => (h.off (by rw [setup]; rfl)).1

/-- An update of fields that no premise reads. -/
theorem State.poised.elsewhere {s u : State} (h : s.poised) (table : u.table = s.table) (member : u.member = s.member)
    (bus : u.bus = s.bus) (loads : u.loads = s.loads) (demand : u.demand = s.demand) (same : u.balanceView = s.balanceView) : u.poised where
  tables := State.tablesSound_of_same h.tables table (by rw [member])
  lists := by
    unfold State.listsSound
    simp only [State.load, loads, demand]
    exact h.lists
  parked := by
    unfold State.parkedSound
    simp only [State.load, table, member, bus, loads]
    exact h.parked
  balanced := h.balanced.inBalance ((State.inBalanceWith.refl s).elsewhere same)

theorem State.poised.taken {s : State} (h : s.poised) (row : Instr) : (s.taken row).poised := h.elsewhere rfl rfl rfl rfl rfl rfl

theorem State.poised.storeCommand {s : State} (h : s.poised) (code arg : Byte) : (s.storeCommand code arg).poised :=
  h.elsewhere rfl rfl rfl rfl rfl rfl

theorem State.poised.setResult {s : State} (h : s.poised) (r : CommandResult) (bad : Byte) : (s.setResult r bad).poised :=
  h.elsewhere rfl rfl rfl rfl rfl rfl

theorem State.poised.whereListed {s : State} (h : s.poised) : s.balancedWhereListed := h.balanced.whereListed

/-- A row of a running part. -/
theorem State.whenRunning_balanced {s : State} (h : s.power.running = true → s.poised) {f : State → State}
    (hf : s.poised → (f s).balancedWhereListed) : (s.whenRunning f).balancedWhenRuns :=
  State.whenRunning_keeps (fun running => (h running).whereListed) fun running _ => hf (h running)

section rows

variable {s : State}

/-! ## The line (chapter 2) -/

theorem Line.receives_of_free {l : Line} (h : l.free = true) : l.receives = true := by cases l <;> trivial

theorem State.poised.discarded (h : s.poised) (receives : s.bus.line.receives = true) (why : DiscardReason) :
    (s.setLine (lineAfterDiscard why)).reportDiscard.balanced := by
  have calm : { s.bus with line := lineAfterDiscard why }.calm := by
    cases why with
    | badCheck => exact s.bus.calm_gap
    | stuffing | unknownKind | unknownSegment | dominantEnd => exact s.bus.calm_integrating
  have moved := h.balanced.setLine (Bus.calm_of_receives receives) calm
  unfold State.reportDiscard
  split
  · exact moved.inBalance ((State.inBalanceWith.refl _).abandon .lost)
  · exact moved

/-- The rows of the line but for the ends of frames. -/
def ofLine : Instr → Bool
  | .contention | .arbitrationLost | .itemLatch | .transmitFailure | .lineError | .integrationComplete | .frameDiscarded _
  | .ackObjSlotDrive _ _ => true
  | _ => false

theorem exec_line_balanced {c : Instr} {t : State} (hc : ofLine c = true) (h : s.power.running = true → s.poised)
    (he : exec c s = .next t) : t.balancedWhenRuns := by
  cases c with
  | contention =>
    obtain rfl := Host.Outcome.next.inj he
    refine State.whenRunning_balanced h fun h => ?_
    (repeat' split)
    next free _ _ chosen =>
      exact (h.balanced.contend (Bus.calm_of_receives (Line.receives_of_free free)) (List.find?_some chosen)).whereListed
    all_goals exact h.whereListed
  | arbitrationLost =>
    obtain rfl := Host.Outcome.next.inj he
    refine State.whenRunning_balanced h fun h => ?_
    split
    next line => exact (h.balanced.contentionOver line (s.bus.calm_following _)).settle
    all_goals exact h.whereListed
  | itemLatch =>
    obtain rfl := Host.Outcome.next.inj he
    refine State.whenRunning_balanced h fun h => ?_
    split
    next line => exact (h.balanced.latchItem line (h.tables.1 s.address)).whereListed
    all_goals exact h.whereListed
  | transmitFailure =>
    obtain rfl := Host.Outcome.next.inj he
    exact State.whenRunning_balanced h fun h => h.balanced.failTransmit h.offInSetup
  | lineError =>
    obtain rfl := Host.Outcome.next.inj he
    refine State.whenRunning_balanced h fun h => ?_
    split
    next gap => exact (h.balanced.setLine (Bus.calm_of_receives (by rw [gap]; rfl)) s.bus.calm_integrating).whereListed
    next => exact h.whereListed
  | integrationComplete =>
    obtain rfl := Host.Outcome.next.inj he
    refine State.whenRunning_balanced h fun h => ?_
    split
    next line =>
      have calm : s.bus.calm := Bus.calm_of_line (by rw [line]; nofun) (by rw [line]; nofun)
      exact (h.balanced.setLine (l := .idle) calm (Bus.calm_of_line nofun nofun)).whereListed
    next => exact h.whereListed
  | frameDiscarded why =>
    obtain rfl := Host.Outcome.next.inj he
    refine State.whenRunning_balanced h fun h => ?_
    split
    next receives => exact (h.discarded receives why).whereListed
    next => exact h.whereListed
  | ackObjSlotDrive q b =>
    obtain rfl := Host.Outcome.next.inj he
    refine State.whenRunning_balanced h fun h => ?_
    split
    case h_1 | h_2 | h_3 =>
      next line => exact (h.balanced.setLine (Bus.calm_of_receives (by rw [line]; rfl)) (s.bus.calm_following _)).whereListed
    all_goals exact h.whereListed
  | _ => cases hc

/-! ## The ends of frames (Table 2.4) -/

/-- The twelve rows of frame ends. -/
def ofFrame : Instr → Bool
  | .capFrame _ _ _ _ | .evictFrame _ _ _ _ | .releaseFrame _ _ _ _ | .leaveFrame _ _ _ | .freezeFrame _ _ _ _ | .thawFrame _ _ _
  | .joinFrame _ _ _ | .claimFrame _ _ _ _ _ _ | .aliveFrame _ | .seekFrame _ | .imageFrame _ _ | .groupFrame _ _ => true
  | _ => false

theorem exec_frame_balanced {c : Instr} {t : State} (hc : ofFrame c = true) (h : s.power.running = true → s.poised)
    (he : exec c s = .next t) : t.balancedWhenRuns := by
  cases c with
  | capFrame | evictFrame | releaseFrame | leaveFrame | freezeFrame | thawFrame | joinFrame | claimFrame =>
    obtain rfl := Host.Outcome.next.inj he
    exact State.whenRunning_balanced h fun h => h.balanced.changeEnd h.offInSetup (h.tables.1 s.address) _ _ _ _
  | aliveFrame q =>
    obtain rfl := Host.Outcome.next.inj he
    refine State.whenRunning_balanced h fun h => h.balanced.frameEnd h.offInSetup (fun body line kind => ?_) fun calm _ => ?_
    · exact (h.balanced.completed_retired line (k := .alive) (by rw [kind]; rfl) nofun nofun).settle
    · exact h.balanced.received calm .alive q
  | seekFrame q =>
    obtain rfl := Host.Outcome.next.inj he
    refine State.whenRunning_balanced h fun h => h.balanced.frameEnd h.offInSetup (fun body line kind => ?_) fun calm _ => ?_
    · exact (h.balanced.ownSeek line (by rw [kind]; rfl)).settle
    · have received := h.balanced.received calm .seek q
      dsimp only
      split
      · exact received.inBalance ((State.inBalanceWith.refl _).elsewhere rfl)
      · exact received
  | imageFrame q seg =>
    obtain rfl := Host.Outcome.next.inj he
    refine State.whenRunning_balanced h fun h => h.balanced.frameEnd h.offInSetup (fun body line kind => ?_) fun calm _ => ?_
    · exact (h.balanced.ownSegment line (by rw [kind]; rfl) body).settle
    · exact h.balanced.otherSegment calm (State.granted_of_listsSound h.lists) h.tables q seg
  | groupFrame q code =>
    obtain rfl := Host.Outcome.next.inj he
    refine State.whenRunning_balanced h fun h => h.balanced.frameEnd h.offInSetup (fun body line kind => ?_) fun calm _ => ?_
    · exact (h.balanced.ownGroup line (by rw [kind]; rfl) body).settle
    · exact (h.balanced.received calm .group q).applyCode code
  | _ => cases hc

end rows

end Sys2Proof.Machine
end

section
/-! SUPPORT. The balance through the commands (Table 10.5), the inputs (R90 to R92, R99, R126, R147) and the register port. -/

namespace Sys2Proof.Machine

section rows

variable {s t : State}

/-! ## Updates that the balance does not read -/

theorem State.inBalanceWith.placeCode (s : State) (code : Byte) : s.inBalanceWith (s.placeCode code) :=
  (State.inBalanceWith.refl s).elsewhere rfl

theorem State.inBalanceWith.setReq (s : State) (x : LoadIx) (level : Bool) : s.inBalanceWith (s.setReq x level) :=
  (State.inBalanceWith.refl s).elsewhere rfl

theorem State.inBalanceWith.setRdy (s : State) (x : LoadIx) (level : Bool) : s.inBalanceWith (s.setRdy x level) :=
  (State.inBalanceWith.refl s).elsewhere rfl

theorem State.inBalanceWith.setLimit (s : State) (level : Bool) : s.inBalanceWith (s.setLimit level) :=
  (State.inBalanceWith.refl s).elsewhere rfl

theorem State.inBalanceWith.setTrg (s : State) (i : Fin 2) (level : Bool) : s.inBalanceWith (s.setTrg i level) :=
  (State.inBalanceWith.refl s).elsewhere rfl

theorem State.inBalanceWith.takeFreeze (s : State) (d : TimeCode) : s.inBalanceWith (s.takeFreeze d) := by
  refine State.inBalanceWith.trans ?_ (.place (k := .freeze) _ nofun nofun)
  exact (State.inBalanceWith.refl s).elsewhere rfl

/-! ## Commands -/

theorem State.command_balanced (h : s.power.running = true → s.poised) {code arg : Byte} {f : State → State}
    (hf : ∀ u : State, u.poised → (f u).balancedWhereListed) (he : s.command code arg f = .next t) : t.balancedWhenRuns := by
  obtain rfl := Host.Outcome.next.inj he
  exact State.whenRunning_balanced h fun h => hf _ (h.storeCommand code arg)

theorem State.loadCommand_balanced (h : s.power.running = true → s.poised) {code arg : Byte} {f : LoadIx → State → State}
    (hf : ∀ (x : LoadIx) (u : State), u.poised → (f x u).balancedWhereListed)
    (he : s.command code arg (State.loadCommand · arg f) = .next t) : t.balancedWhenRuns :=
  State.command_balanced h (fun u hu => State.loadCommand_keeps (fun r => (hu.setResult r 0).whereListed) fun x _ => hf x u hu) he

theorem State.poised.softOnly (h : s.poised) (x : LoadIx) {f : State → State} (hf : (f s).balancedWhereListed) :
    (s.softOnly x f).balancedWhereListed := by
  unfold State.softOnly
  split
  · exact (h.setResult _ _).whereListed
  · exact hf

theorem State.poised.startCommand (h : s.poised) : s.startCommand.balancedWhereListed := by
  unfold State.startCommand
  split
  next setup =>
    split
    · exact (h.setResult _ _).whereListed
    next valid =>
      obtain ⟨line, items⟩ := h.off (by rw [setup]; rfl)
      exact ((h.setResult .done 0).balanced.startNode setup valid line items).whereListed
  next => exact (h.setResult _ _).whereListed

theorem State.poised.detachCommand (h : s.poised) : s.detachCommand.balancedWhereListed := by
  have done := (h.setResult .done 0).balanced
  unfold State.detachCommand
  split
  case h_1 | h_2 => exact (h.setResult _ _).whereListed
  case h_3 | h_4 =>
    next participation =>
      exact (State.enterDetached_balanced done.levels (by
        change s.member.participation ≠ _
        rw [participation]
        nofun)).whereListed
  next active => exact (done.enterLeaving active).settle
  next => exact done.whereListed

theorem State.poised.rejoinCommand (h : s.poised) : s.rejoinCommand.balancedWhereListed := by
  unfold State.rejoinCommand
  split
  next detached =>
    obtain ⟨line, items⟩ := h.off (by rw [detached]; rfl)
    exact ((h.setResult .done 0).balanced.rejoin detached line items).whereListed
  next => exact (h.setResult _ _).whereListed

/-- The commands but RESET_STATION. -/
def ofCommand : Instr → Bool
  | .start _ | .request _ | .withdraw _ | .setLevel _ | .inhibit _ | .permit _ | .clearFault _ | .sendGroup _ | .setCap _ | .freeze _
  | .detach _ | .rejoin _ | .unassignedCommand _ _ => true
  | _ => false

theorem exec_command_balanced {c : Instr} (hc : ofCommand c = true) (h : s.power.running = true → s.poised) (he : exec c s = .next t) :
    t.balancedWhenRuns := by
  have done {u : State} (hu : u.poised) : (u.setResult .done).balanced := (hu.setResult .done 0).balanced
  cases c with
  | start arg => exact State.command_balanced (f := State.startCommand) h (fun u hu => hu.startCommand) he
  | request arg =>
    exact State.loadCommand_balanced h (fun x u hu => hu.softOnly x (f := fun s => ((s.setResult .done).wantLoad x).settle)
      ((done hu).inBalance ((State.inBalanceWith.refl _).wantLoad x)).settle) he
  | withdraw arg =>
    exact State.loadCommand_balanced h (fun x u hu => hu.softOnly x (f := fun s => ((s.setResult .done).unwantLoad x).settle)
      ((done hu).unwantLoad x).settle) he
  | setLevel arg =>
    refine State.loadCommand_balanced h (fun x u hu => ?_) he
    split
    · exact ((done hu).wishLevel x _).settle
    · exact (hu.setResult _ _).whereListed
  | inhibit arg => exact State.loadCommand_balanced h (fun x u hu => ((done hu).inhibitLoad x).settle) he
  | permit arg =>
    exact State.loadCommand_balanced h (fun x u hu => ((done hu).inBalance ((State.inBalanceWith.refl _).permitLoad x)).settle) he
  | clearFault arg =>
    refine State.loadCommand_balanced h (fun x u hu => ?_) he
    split
    next fault => exact ((done hu).inBalance ((State.inBalanceWith.refl _).clearFaultLoad fault)).settle
    next => exact (hu.setResult _ _).whereListed
  | sendGroup arg =>
    simp only [exec, execSendGroup] at he
    refine State.command_balanced h (fun u hu => ?_) he
    (repeat' split)
    · exact (hu.setResult _ _).whereListed
    · exact ((done hu).inBalance (.placeCode _ arg)).whereListed
    · exact (hu.setResult _ _).whereListed
  | setCap arg =>
    simp only [exec, execSetCap] at he
    refine State.command_balanced h (fun u hu => ?_) he
    split
    · exact ((done hu).inBalance ((State.inBalanceWith.refl _).takeCap _)).whereListed
    · exact (hu.setResult _ _).whereListed
  | freeze arg =>
    simp only [exec, execFreeze] at he
    refine State.command_balanced h (fun u hu => ?_) he
    (repeat' split)
    · exact ((done hu).inBalance (.takeFreeze _ _)).whereListed
    · exact (hu.setResult _ _).whereListed
    · exact (hu.setResult _ _).whereListed
  | detach arg => exact State.command_balanced (f := State.detachCommand) h (fun u hu => hu.detachCommand) he
  | rejoin arg => exact State.command_balanced (f := State.rejoinCommand) h (fun u hu => hu.rejoinCommand) he
  | unassignedCommand code arg =>
    exact State.command_balanced (f := fun s => s.setResult .badArg) h (fun u hu => (hu.setResult _ _).whereListed) he
  | _ => cases hc

/-! ## Inputs -/

/-- A row of a timer or an input. -/
theorem State.poised.takeRow (h : s.poised) {row : Instr} {stands : Bool} {f : State → State}
    (hf : (s.taken row).balanced → (f (s.taken row)).balancedWhereListed) : (s.takeRow row stands f).balancedWhereListed :=
  State.takeRow_keeps (h.taken row).whereListed (hf (h.taken row).balanced)

/-- The four rows of debounced inputs. -/
def ofInput : Instr → Bool
  | .reqDebouncedChange _ _ | .rdyDebouncedChange _ _ | .limitDebouncedChange _ | .trgDebouncedAssertion _ => true
  | _ => false

theorem State.balanced.reqChanged (h : s.balanced) (x : LoadIx) (asserted : Bool) : (s.reqChanged x asserted).balancedWhereListed := by
  unfold State.reqChanged
  (repeat' split)
  · exact (h.inBalance ((State.inBalanceWith.refl s).wantLoad x)).settle
  · exact (h.unwantLoad x).settle
  · exact h.whereListed

theorem State.balanced.rdyDropped (h : s.balanced) (x : LoadIx) : (s.rdyDropped x).balancedWhereListed := by
  unfold State.rdyDropped
  split
  · exact (h.faultLoad x .dropout).settle
  · exact h.whereListed

theorem State.inBalanceWith.limitChanged (s : State) (asserted : Bool) : s.inBalanceWith (s.limitChanged asserted) := by
  unfold State.limitChanged
  split
  · exact (State.inBalanceWith.refl s).takeCap _
  · exact .refl s

theorem State.inBalanceWith.triggered (s : State) (i : Fin 2) : s.inBalanceWith (s.triggered i) := by
  unfold State.triggered
  (repeat' split)
  · exact .placeCode s _
  · exact (State.inBalanceWith.refl s).post _ _
  · exact .refl s

theorem exec_input_balanced {c : Instr} (hc : ofInput c = true) (h : s.power.running = true → s.poised) (he : exec c s = .next t) :
    t.balancedWhenRuns := by
  cases c with
  | reqDebouncedChange x asserted =>
    obtain rfl := Host.Outcome.next.inj he
    refine State.whenRunning_balanced h fun h => h.takeRow fun h => ?_
    split
    · exact h.whereListed
    · exact (h.inBalance (.setReq _ x asserted)).reqChanged x asserted
  | rdyDebouncedChange x asserted =>
    obtain rfl := Host.Outcome.next.inj he
    refine State.whenRunning_balanced h fun h => h.takeRow fun h => ?_
    have changed := h.inBalance (.setRdy _ x asserted)
    (repeat' split)
    · exact h.whereListed
    · exact changed.whereListed
    · exact changed.rdyDropped x
  | limitDebouncedChange asserted =>
    obtain rfl := Host.Outcome.next.inj he
    refine State.whenRunning_balanced h fun h => h.takeRow fun h => ?_
    split
    · exact h.whereListed
    · exact (h.inBalance ((State.inBalanceWith.setLimit _ asserted).trans (.limitChanged _ asserted))).whereListed
  | trgDebouncedAssertion i =>
    obtain rfl := Host.Outcome.next.inj he
    exact State.whenRunning_balanced h fun h => h.takeRow fun h =>
      (h.inBalance ((State.inBalanceWith.setTrg _ i true).trans (.triggered _ i))).whereListed
  | _ => cases hc

end rows

end Sys2Proof.Machine
end

section
/-! SUPPORT. The balance through timers, resets and the time base, and the statement of R120. -/

namespace Sys2Proof.Machine

section rows

variable {s t : State}

/-! ## Timers -/

theorem State.balanced.endSeekWait (h : s.balanced) : s.endSeekWait.balancedWhereListed := by
  have waited : { s with member := { s.member with seekWait := none } }.balanced :=
    h.inBalance ((State.inBalanceWith.refl s).elsewhere rfl)
  unfold State.endSeekWait
  dsimp only
  (repeat' split)
  next => exact waited.whereListed
  next => exact (waited.inBalance (State.inBalanceWith.refl _).sendSeek).whereListed
  next idle _ =>
    have seeking : s.member.participation = .seeking := by
      by_contra other
      exact idle (.inl other)
    exact ((waited.vacant (by rw [seeking]; rfl)).found waited.levels seeking).settle

/-- The seven rows of timers. -/
def ofTimer : Instr → Bool
  | .fairGapExpiry | .seekWaitExpiry | .imageGapExpiry | .silenceTimerExpiry _ | .quietTimerExpiry | .rampTimerExpiry _
  | .freezeTimerExpiry => true
  | _ => false

theorem exec_timer_balanced {c : Instr} (hc : ofTimer c = true) (h : s.power.running = true → s.poised) (he : exec c s = .next t) :
    t.balancedWhenRuns := by
  cases c with
  | fairGapExpiry =>
    obtain rfl := Host.Outcome.next.inj he
    exact State.whenRunning_balanced h fun h => h.takeRow fun h =>
      (h.inBalance ((State.inBalanceWith.refl _).elsewhere (by rfl))).whereListed
  | seekWaitExpiry =>
    obtain rfl := Host.Outcome.next.inj he
    refine State.whenRunning_balanced h fun h => h.takeRow fun h => ?_
    split
    · exact h.endSeekWait
    · exact h.whereListed
  | imageGapExpiry =>
    obtain rfl := Host.Outcome.next.inj he
    refine State.whenRunning_balanced h fun h => h.takeRow fun h => ?_
    split
    · exact (h.inBalance ((State.inBalanceWith.refl _).abandon .gap)).whereListed
    · exact h.whereListed
  | silenceTimerExpiry q =>
    obtain rfl := Host.Outcome.next.inj he
    refine State.whenRunning_balanced h fun h => h.takeRow fun h => ?_
    split
    · refine (h.inBalance (State.inBalanceWith.standEvict ?_)).whereListed
      exact (State.inBalanceWith.refl _).elsewhere rfl
    · exact h.whereListed
  | quietTimerExpiry =>
    obtain rfl := Host.Outcome.next.inj he
    refine State.whenRunning_balanced h fun h => h.takeRow fun h => ?_
    split
    · refine (h.inBalance (State.inBalanceWith.trans ?_ (.place (k := .alive) _ nofun nofun))).whereListed
      exact (State.inBalanceWith.refl _).elsewhere rfl
    · exact h.whereListed
  | rampTimerExpiry x =>
    obtain rfl := Host.Outcome.next.inj he
    refine State.whenRunning_balanced h fun h => h.takeRow fun h => ?_
    split
    next ramping => exact (h.endRamp ramping).settle
    next => exact h.whereListed
  | freezeTimerExpiry =>
    obtain rfl := Host.Outcome.next.inj he
    refine State.whenRunning_balanced h fun h => h.takeRow fun h => ?_
    split
    · refine (h.inBalance (State.inBalanceWith.standThaw ?_)).whereListed
      exact (State.inBalanceWith.refl _).elsewhere rfl
    · exact h.whereListed
  | _ => cases hc

/-! ## Resets (R160, R161) -/

/-- A reset part is in SETUP, out of step, with nothing of the balance about. -/
theorem State.resetBlocks_balanced (s : State) (enables : BitVec 18) (cause : ResetCause) : (s.resetBlocks enables cause).balanced := by
  have vacant : (s.resetBlocks enables cause).vacant := by
    unfold State.resetBlocks
    refine State.vacant.inBalance (s := _) ?_ (State.inBalanceWith.refl _).postPhase
    exact State.vacant_of_calm Bus.stopped_calm rfl rfl rfl (fun x => by simp [State.load, Loads.reset, LoadRecord.reset, LoadState.claims]) rfl rfl
  have setup : (s.resetBlocks enables cause).member.participation = .setup := by simp [State.resetBlocks, Membership.cleared]
  exact vacant.balanced_out (fun started => absurd setup started) (by rw [setup]; rfl)

/-- The rows of power, RSTN and RESET_STATION. -/
def ofReset : Instr → Bool
  | .powerOnResetBegin | .powerOnReset _ | .rstnAsserted | .rstnReleased | .resetStation _ => true
  | _ => false

theorem Power.not_running_of_low {p : Power} (low : p.rstnLow = true) : p.running ≠ true := by simp [Power.running, low]

theorem exec_reset_balanced {c : Instr} (hc : ofReset c = true) (h : s.power.running = true → s.poised) (he : exec c s = .next t) :
    t.balancedWhenRuns := by
  have reset (u : State) (enables : BitVec 18) (cause : ResetCause) : (u.resetBlocks enables cause).balancedWhenRuns :=
    fun _ => (u.resetBlocks_balanced enables cause).whereListed
  have same : s.balancedWhenRuns := fun running => (h running).whereListed
  cases c with
  | powerOnResetBegin =>
    obtain rfl := Host.Outcome.next.inj he
    exact fun running => absurd running nofun
  | powerOnReset straps =>
    obtain rfl := Host.Outcome.next.inj he
    dsimp only
    split
    · exact fun running => absurd running nofun
    · exact reset _ _ _
  | rstnAsserted =>
    obtain rfl := Host.Outcome.next.inj he
    split
    · exact same
    · exact fun running => absurd running (Power.not_running_of_low rfl)
  | rstnReleased =>
    obtain rfl := Host.Outcome.next.inj he
    (repeat' split)
    · exact reset _ _ _
    · exact reset _ _ _
    next phase =>
      refine fun running => absurd running ?_
      simp [Power.running, phase]
    · exact same
  | resetStation arg =>
    exact State.command_balanced h (fun u _ => (u.resetBlocks_balanced u.port.enables .command).whereListed) he
  | _ => cases hc

/-! ## The register port (R153, R154, R158) -/

/-- What `State.vacant` reads, unchanged. -/
theorem State.vacant.of_same {u : State} (h : s.vacant) (bus : u.bus = s.bus) (participation : u.member.participation = s.member.participation)
    (records : u.loads.records = s.loads.records) (demand : u.demand = s.demand) : u.vacant where
  quiet := by rw [bus]; exact h.quiet
  held := by rw [bus]; exact h.held
  leave := by rw [bus, participation]; exact h.leave
  slot := by rw [demand]; exact h.slot
  idle x := by rw [State.load_of_records records]; exact h.idle x
  item := by rw [bus]; exact h.item
  latchedUnits := by rw [demand]; exact h.latchedUnits

theorem State.recheckReq_same (s : State) (x : LoadIx) :
    ((s.recheckReq x).bus, (s.recheckReq x).member, (s.recheckReq x).loads.records, (s.recheckReq x).demand)
      = (s.bus, s.member, s.loads.records, s.demand) := by
  unfold State.recheckReq
  dsimp only
  split <;> rfl

theorem State.recheckAll_same (s : State) : (allLoads.foldl State.recheckReq s).bus = s.bus
    ∧ (allLoads.foldl State.recheckReq s).member = s.member ∧ (allLoads.foldl State.recheckReq s).loads.records = s.loads.records
    ∧ (allLoads.foldl State.recheckReq s).demand = s.demand := by
  simpa only [Prod.mk.injEq] using
    foldl_keeps State.recheckReq (fun u => (u.bus, u.member, u.loads.records, u.demand)) State.recheckReq_same allLoads s

/-- A setting is written in SETUP, where the balance asks nothing of the settings (R154). -/
theorem State.balanced.writeSetting (h : s.balanced) (v : Word16) : (s.writeSetting v).balanced := by
  unfold State.writeSetting
  split
  next setup =>
    split
    next k _ =>
      have out : s.member.participation.inStep = false := by rw [setup]; rfl
      obtain ⟨bus, member, records, demand⟩ := State.recheckAll_same { s with settings := s.settings.write v k }
      have participation := congrArg Membership.participation member
      exact ((h.vacant out).of_same bus participation records demand).balanced_out
        (fun started => absurd (participation.trans setup) started) (by rw [participation]; exact out)
    next => exact h
  next => exact h

/-- The rows of the port that are no command. -/
def ofPort : Instr → Bool
  | .eventARead _ | .statusWrite _ | .settingDataWrite _ => true
  | _ => false

theorem exec_port_balanced {c : Instr} (hc : ofPort c = true) (h : s.power.running = true → s.poised) (he : exec c s = .next t) :
    t.balancedWhenRuns := by
  cases c with
  | eventARead empty =>
    obtain rfl := Host.Outcome.next.inj he
    refine State.whenRunning_balanced h fun h => ?_
    (repeat' split)
    · exact h.whereListed
    · exact (h.balanced.inBalance ((State.inBalanceWith.refl _).elsewhere (by rfl))).whereListed
    · exact h.whereListed
  | statusWrite v =>
    obtain rfl := Host.Outcome.next.inj he
    refine State.whenRunning_balanced h fun h => ?_
    unfold State.writeStatus
    split
    · exact (h.balanced.inBalance ((State.inBalanceWith.refl _).elsewhere (by rfl))).whereListed
    · exact h.whereListed
  | settingDataWrite v =>
    obtain rfl := Host.Outcome.next.inj he
    exact State.whenRunning_balanced h fun h => (h.balanced.writeSetting v).whereListed
  | _ => cases hc

/-! ## Every row -/

theorem exec_balanced (h : s.power.running = true → s.poised) (c : Instr) (t : State) (he : exec c s = .next t) : t.balancedWhenRuns := by
  have stored (p : Port) (running : s.power.running = true) : { s with port := p }.poised :=
    (h running).elsewhere rfl rfl rfl rfl rfl rfl
  refine exec_keeps_of_rows (P := State.balancedWhenRuns) (fun c t hc he => ?_) (fun p running => (stored p running).whereListed) c t he
  cases c with
  | powerOnResetBegin | powerOnReset | rstnAsserted | rstnReleased | resetStation => exact exec_reset_balanced rfl h he
  | start | request | withdraw | setLevel | inhibit | permit | clearFault | sendGroup | setCap | freeze | detach | rejoin
  | unassignedCommand => exact exec_command_balanced rfl h he
  | eventARead | statusWrite | settingDataWrite => exact exec_port_balanced rfl h he
  | registerWrite a v => exact absurd rfl (hc a v)
  | contention | arbitrationLost | itemLatch | transmitFailure | lineError | integrationComplete | frameDiscarded
  | ackObjSlotDrive => exact exec_line_balanced rfl h he
  | capFrame | evictFrame | releaseFrame | leaveFrame | freezeFrame | thawFrame | joinFrame | claimFrame | aliveFrame | seekFrame
  | imageFrame | groupFrame => exact exec_frame_balanced rfl h he
  | fairGapExpiry | seekWaitExpiry | imageGapExpiry | silenceTimerExpiry | quietTimerExpiry | rampTimerExpiry
  | freezeTimerExpiry => exact exec_timer_balanced rfl h he
  | reqDebouncedChange | rdyDebouncedChange | limitDebouncedChange | trgDebouncedAssertion => exact exec_input_balanced rfl h he

/-! ## The time base -/

/-- A millisecond counts timers; of what the balance reads, the line may come out of its gap (R25). -/
theorem State.balanced.tick (h : s.balanced) : s.tick.balanced := by
  refine State.whenRunning_keeps h fun _ => ?_
  have aged : (s.setLine s.bus.line.afterGap).balanced := by
    unfold Line.afterGap
    split
    next line =>
      exact h.setLine (Bus.calm_of_receives (by rw [line]; rfl)) (l := .idle) (Bus.calm_of_line nofun nofun)
    next => exact h
  have load (x : LoadIx) : ((s.loads.tick s.pins).records[x]).state = (s.load x).state := by simp [Loads.tick, State.load]
  refine aged.inBalance ⟨rfl, rfl, fun _ => rfl, fun x => congrArg LoadState.claims (load x), fun x _ => ?units, rfl, rfl, fun _ _ k => ?balance,
    .of_items rfl rfl fun _ _ => Iff.rfl, .inl⟩
  case units => exact congrArg (fun l : LoadState => l.units (s.cfg x)) (load x)
  case balance =>
    refine congrArg (fun n => n + s.demand.openUnits[k]) ?_
    refine State.occupiedIn_of_units ?_ (fun x => ?_) k
    · rfl
    · exact congrArg (fun l : LoadState => l.units (s.cfg x)) (load x)

theorem State.tick_power (s : State) : s.tick.power = s.power :=
  State.whenRunning_keeps (P := fun u => u.power = s.power) rfl fun _ => rfl

end rows

/-- Settles O29: every row keeps the balance of a running part, the claim slot and the amounts in flight with it; the lists that the step
leaves sound are those that composition reads. -/
theorem holdingBalanceStays : Obligations.HoldingBalanceStays := by
  unfold Obligations.HoldingBalanceStays
  intro s t tables records lists parked balance step_eq
  have poised (running : s.power.running = true) : s.poised :=
    ⟨tables, lists, parked, (State.balanceSound_iff s).mp balance running⟩
  obtain ⟨-, listed⟩ := (loadsAndListsStaySound s t step_eq).1 records lists
  refine (State.balanceSound_iff t).mpr fun running => ?_
  unfold step at step_eq
  split at step_eq
  next =>
    obtain rfl := Host.Outcome.next.inj step_eq
    exact (poised (by rwa [State.tick_power] at running)).balanced.tick
  next c rest _ =>
    have rest_poised (running : s.power.running = true) : { s with pending := rest }.poised :=
      (poised running).elsewhere rfl rfl rfl rfl rfl rfl
    exact exec_balanced rest_poised c t step_eq running listed

end Sys2Proof.Machine
end

section
/-! SUPPORT. The Cap Unit and the FREEZE command (R126 to R128, R138), and the debounced inputs LIMIT and TRGx (R145, R147). -/

namespace Sys2Proof.Machine

/-! ## A setting of the cap request (R128) -/

section rows

variable {s : State} {w : Word16} {arg : Byte}

theorem State.takeCap_of_busy (busy : s.bus.capBusy = true) (w : Word16) :
    s.takeCap w = { s with cap := { s.cap with held := some w } } := if_pos busy

theorem State.takeCap_of_not_inStep (idle : s.bus.capBusy = false) (out : s.member.participation.inStep = false) (w : Word16) :
    s.takeCap w = s.setRequest (some w) := by
  rw [State.takeCap, if_neg (by rw [idle]; nofun), if_neg (by rw [out]; nofun)]

/-- The cap in force asked for: no request is left, and the CAP item, neither contended for nor in flight, leaves the list. -/
theorem State.takeCap_of_eq (idle : s.bus.capBusy = false) (in_step : s.member.participation.inStep = true) (same : w = s.table.cap) :
    s.takeCap w = (s.setRequest none).dropItem .cap := by
  obtain ⟨contends, latched⟩ := Bool.or_eq_false_iff.mp idle
  rw [State.takeCap, if_neg (by rw [idle]; nofun), if_pos in_step, if_pos same]
  exact (if_neg (by simp [contends])).trans (if_neg (by simp [latched]))

theorem State.takeCap_of_ne (idle : s.bus.capBusy = false) (in_step : s.member.participation.inStep = true) (other : w ≠ s.table.cap) :
    s.takeCap w = (s.setRequest (some w)).send .cap := by
  rw [State.takeCap, if_neg (by rw [idle]; nofun), if_pos in_step, if_neg other]

/-- Another cap asked for becomes the request, with a CAP item in ACTIVE alone. -/
theorem State.takeCap_requests (idle : s.bus.capBusy = false) (in_step : s.member.participation.inStep = true)
    (other : w ≠ s.table.cap) : (s.takeCap w).cap = { s.cap with request := some w }
      ∧ (s.member.participation = .active → (s.takeCap w).bus.has .cap = true)
      ∧ (s.member.participation ≠ .active → (s.takeCap w).bus = s.bus) := by
  have allows : (s.setRequest (some w)).member.participation.allows .cap = (s.member.participation == .active) :=
    Participation.allows_cap _
  rw [State.takeCap_of_ne idle in_step other]
  refine ⟨by simp, fun active => State.send_has _ _ (allows.trans (beq_iff_eq.mpr active)), fun inactive => ?_⟩
  rw [State.send_of_not_allowed _ _ (allows.trans (beq_false_of_ne inactive))]
  rfl

theorem State.takeCap_limit (s : State) (w : Word16) : (s.takeCap w).cap.limit = s.cap.limit := by
  unfold State.takeCap
  (repeat' split) <;> simp

/-- A setting of the cap request changes the Cap Unit and the items of the send list alone. -/
theorem State.takeCap_eq (s : State) (w : Word16) :
    s.takeCap w = { s with cap := (s.takeCap w).cap, bus := { s.bus with items := (s.takeCap w).bus.items } } := by
  rcases Bool.eq_false_or_eq_true s.bus.capBusy with busy | idle
  · rw [State.takeCap_of_busy busy]
  rcases Bool.eq_false_or_eq_true s.member.participation.inStep with in_step | out
  · by_cases same : w = s.table.cap
    · rw [State.takeCap_of_eq idle in_step same]
      rfl
    · rw [State.takeCap_of_ne idle in_step same, State.send_eq]
      rfl
  · rw [State.takeCap_of_not_inStep idle out]
    rfl

/-! ## SET_CAP and FREEZE (R127, R138) -/

/-- A command that is taken in ACTIVE alone. -/
theorem State.command_of_active (running : s.power.running = true) (active : s.member.participation = .active) (code arg : Byte)
    (f : State → State) : s.command code arg (fun u => if u.member.participation = .active then f u else u.setResult .refused) =
      .next (f (s.storeCommand code arg)) :=
  (State.command_of_running running code arg _).trans (congrArg Host.Outcome.next (if_pos active))

theorem State.command_of_inactive (running : s.power.running = true) (inactive : s.member.participation ≠ .active) (code arg : Byte)
    (f : State → State) : s.command code arg (fun u => if u.member.participation = .active then f u else u.setResult .refused) =
      .next (s.answered code arg .refused 0) :=
  (State.command_of_running running code arg _).trans (congrArg Host.Outcome.next (if_neg inactive))

theorem exec_setCap (running : s.power.running = true) (active : s.member.participation = .active) (arg : Byte) :
    exec (.setCap arg) s = .next ((s.answered 0x09 arg .done 0).takeCap s.port.commandArg) :=
  State.command_of_active running active 0x09 arg fun u => (u.setResult .done).takeCap u.port.commandArg

theorem exec_setCap_of_refused (running : s.power.running = true) (inactive : s.member.participation ≠ .active) (arg : Byte) :
    exec (.setCap arg) s = .next (s.answered 0x09 arg .refused 0) := by
  change execSetCap arg s = _
  exact State.command_of_inactive running inactive ..

theorem timeArgument_of_lt (h : arg.toNat < 128) : timeArgument arg = some (arg.setWidth 7) := if_pos h

theorem timeArgument_of_le (h : 128 ≤ arg.toNat) : timeArgument arg = none := if_neg (not_lt.mpr h)

/-- FREEZE in ACTIVE, by whether its argument is a time code. -/
theorem exec_freeze_eq (running : s.power.running = true) (active : s.member.participation = .active) (arg : Byte) :
    exec (.freeze arg) s = .next ((timeArgument arg).elim (s.answered 0x0A arg .badArg 0)
      fun d => (s.answered 0x0A arg .done 0).takeFreeze d) := by
  change execFreeze arg s = _
  refine (State.command_of_active running active 0x0A arg _).trans (congrArg Host.Outcome.next ?_)
  cases timeArgument arg <;> rfl

theorem exec_freeze (running : s.power.running = true) (active : s.member.participation = .active) (time : arg.toNat < 128) :
    exec (.freeze arg) s = .next ((s.answered 0x0A arg .done 0).takeFreeze (arg.setWidth 7)) := by
  rw [exec_freeze_eq running active, timeArgument_of_lt time, Option.elim_some]

theorem exec_freeze_of_badArg (running : s.power.running = true) (active : s.member.participation = .active) (bad : 128 ≤ arg.toNat) :
    exec (.freeze arg) s = .next (s.answered 0x0A arg .badArg 0) := by
  rw [exec_freeze_eq running active, timeArgument_of_le bad, Option.elim_none]

theorem exec_freeze_of_refused (running : s.power.running = true) (inactive : s.member.participation ≠ .active) (arg : Byte) :
    exec (.freeze arg) s = .next (s.answered 0x0A arg .refused 0) := by
  change execFreeze arg s = _
  exact State.command_of_inactive running inactive ..

end rows

/-- Settles O17: SET_CAP by the cases of a cap setting; FREEZE by its argument, and the posting of its item. -/
theorem setCapAndFreezeSetRequests : Obligations.SetCapAndFreezeSetRequests := by
  unfold Obligations.SetCapAndFreezeSetRequests
  refine ⟨fun s arg running => ⟨fun inactive => exec_setCap_of_refused running inactive arg, fun active => ?cap⟩,
    fun s arg running => ⟨fun inactive => exec_freeze_of_refused running inactive arg,
      fun active bad => exec_freeze_of_badArg running active bad, fun active time => ?freeze⟩⟩
  case cap =>
    have in_step : s.member.participation.inStep = true := by rw [active]; rfl
    have row := exec_setCap running active arg
    refine ⟨_, row, by simp, fun busy => ?_, fun idle same => ?_, fun idle other => ?_, ?_⟩
    · rw [State.takeCap_of_busy (by exact busy)]
      exact ⟨rfl, rfl⟩
    · rw [State.takeCap_of_eq (by exact idle) (by exact in_step) (by exact same)]
      exact ⟨rfl, s.bus.has_drop_self .cap⟩
    · have ⟨request, posted, _⟩ := State.takeCap_requests (s := s.answered 0x09 arg .done 0) idle in_step other
      exact ⟨request, posted active⟩
    · exact (State.takeCap_eq ..).trans (by simp [State.answered])
  case freeze =>
    refine ⟨_, exec_freeze running active time, by simp [State.takeFreeze], by simp [State.takeFreeze, State.answered],
      State.send_has _ _ ?_, (State.send_eq ..).trans (by simp [State.takeFreeze, State.answered])⟩
    change s.member.participation.allows .freeze = true
    rw [active]
    rfl

/-! ## LIMIT and the trigger inputs (R126, R145, R147) -/

section inputs

variable {s : State} {b : Bool} {i : Fin 2}

/-- A LIMIT change whose level differs, taken. -/
theorem exec_limitDebouncedChange (running : s.power.running = true)
    (stands : .limitDebouncedChange b ∈ s.due → 32 ≤ s.cap.limit.count) (differs : s.cap.limit.level ≠ b) :
    exec (.limitDebouncedChange b) s = .next (((s.taken (.limitDebouncedChange b)).setLimit b).limitChanged b) := by
  change execLimitDebouncedChange b s = _
  rw [execLimitDebouncedChange, State.whenRunning_of_running running,
    State.takeRow_of_stands _ _ _ _ fun due => Debouncer.settled_of_le (n := Config.longDebounceMs) (stands due)]
  exact congrArg Host.Outcome.next (if_neg differs)

/-- A LIMIT change that the time base has queued, and whose count has fallen since. -/
theorem exec_limitDebouncedChange_of_late (running : s.power.running = true) (due : .limitDebouncedChange b ∈ s.due)
    (late : s.cap.limit.count < 32) : exec (.limitDebouncedChange b) s = .next (s.taken (.limitDebouncedChange b)) := by
  change execLimitDebouncedChange b s = _
  rw [execLimitDebouncedChange, State.whenRunning_of_running running,
    Debouncer.settled_of_lt (n := Config.longDebounceMs) late, State.takeRow_of_late _ _ _ due]

/-- In SETUP LIMIT asks for nothing. -/
theorem State.limitChanged_of_setup (setup : s.member.participation = .setup) (b : Bool) : s.limitChanged b = s :=
  if_neg (by rw [setup]; nofun)

theorem State.limitChanged_of_started (started : s.member.participation ≠ .setup) (b : Bool) :
    s.limitChanged b = s.takeCap (if b then s.settings.limitCap else s.settings.normalCap) :=
  if_pos (Participation.started_of_ne started)

theorem exec_trgDebouncedAssertion (running : s.power.running = true)
    (stands : .trgDebouncedAssertion i ∈ s.due → 32 ≤ (s.group.trg[i]).count) :
    exec (.trgDebouncedAssertion i) s = .next (((s.taken (.trgDebouncedAssertion i)).setTrg i true).triggered i) := by
  change execTrgDebouncedAssertion i s = _
  rw [execTrgDebouncedAssertion, State.whenRunning_of_running running,
    State.takeRow_of_stands _ _ _ _ fun due => Debouncer.settled_of_le (n := Config.longDebounceMs) (stands due)]

/-- A trigger's assertion that the time base has queued, and whose count has fallen since. -/
theorem exec_trgDebouncedAssertion_of_late (running : s.power.running = true) (due : .trgDebouncedAssertion i ∈ s.due)
    (late : (s.group.trg[i]).count < 32) : exec (.trgDebouncedAssertion i) s = .next (s.taken (.trgDebouncedAssertion i)) := by
  change execTrgDebouncedAssertion i s = _
  rw [execTrgDebouncedAssertion, State.whenRunning_of_running running,
    Debouncer.settled_of_lt (n := Config.longDebounceMs) late, State.takeRow_of_late _ _ _ due]

/-- GROUP may be posted wherever the node follows the line (Table 2.8). -/
theorem Participation.allows_group (p : Participation) : p.allows .group = p.onLine := by cases p <;> rfl

theorem State.canPlaceCode_iff (s : State) :
    s.canPlaceCode = true ↔ s.bus.codes.length < 4 ∧ s.member.participation.onLine = true := by
  rw [State.canPlaceCode, Participation.allows_group, Bool.and_eq_true, decide_eq_true_iff]
  rfl

section enabled

variable (enabled : (s.settings.triggers[i]).enabled = true) (on_line : s.member.participation.onLine = true)
include enabled on_line

theorem State.triggered_of_room (room : s.bus.codes.length < 4) : s.triggered i = s.placeCode (s.settings.triggers[i]).code :=
  (if_pos ⟨enabled, on_line⟩).trans (if_pos (s.canPlaceCode_iff.mpr ⟨room, on_line⟩))

theorem State.triggered_of_full (full : 4 ≤ s.bus.codes.length) : s.triggered i = s.post .groupDropped (argOf i.val) :=
  (if_pos ⟨enabled, on_line⟩).trans (if_neg fun h => not_lt.mpr full (s.canPlaceCode_iff.mp h).1)

end enabled

theorem State.triggered_of_ignored (h : (s.settings.triggers[i]).enabled = false ∨ s.member.participation.onLine = false) :
    s.triggered i = s := by
  refine if_neg fun ⟨enabled, on_line⟩ => ?_
  rcases h with disabled | parked
  · exact absurd (disabled.symm.trans enabled) nofun
  · exact absurd (parked.symm.trans on_line) nofun

/-- A trigger's assertion changes the send list's codes and the event queue alone. -/
theorem State.triggered_eq (s : State) (i : Fin 2) :
    s.triggered i = { s with bus := (s.triggered i).bus, port := (s.triggered i).port } := by
  unfold State.triggered
  split
  · split
    · rfl
    · rw [State.post, State.postAt_eq]
  · rfl

end inputs

/-- Settles O49: LIMIT as a setting of the cap request in the state that its debouncer leaves; a trigger by the room on the code list. -/
theorem limitAndTriggerInputs : Obligations.LimitAndTriggerInputs := by
  unfold Obligations.LimitAndTriggerInputs
  refine fun s running => ⟨fun stands b differs => ?limit, fun b due late => exec_limitDebouncedChange_of_late running due late,
    fun i => ⟨fun stands => ?trigger, fun due late => exec_trgDebouncedAssertion_of_late running due late⟩⟩
  case limit =>
    have row := exec_limitDebouncedChange running (stands b) differs
    generalize hu : (s.taken (.limitDebouncedChange b)).setLimit b = u at row
    have cap : u.cap = { s.cap with limit := { level := b, count := 0 } } := by rw [← hu]; rfl
    have pins : u.pins = { s.pins with limit := b } := by rw [← hu]; rfl
    obtain ⟨bus, member, table, port, settings⟩ :
        u.bus = s.bus ∧ u.member = s.member ∧ u.table = s.table ∧ u.port = s.port ∧ u.settings = s.settings := by
      rw [← hu]; exact ⟨rfl, rfl, rfl, rfl, rfl⟩
    by_cases setup : s.member.participation = .setup
    · rw [State.limitChanged_of_setup (by rw [member, setup])] at row
      refine ⟨u, _, row, rfl, by rw [cap], pins, table, port, fun _ => by rw [cap]; exact ⟨rfl, rfl⟩,
        fun started => absurd setup started, fun out => ?_, fun in_step => ?_⟩
      · rcases out with e | e <;> rw [setup] at e <;> cases e
      · rw [setup] at in_step
        cases in_step
    · rw [State.limitChanged_of_started (by rwa [member]), settings] at row
      generalize (if b then s.settings.limitCap else s.settings.normalCap) = w at row
      have only := u.takeCap_eq w
      refine ⟨u.takeCap w, w, row, rfl, by rw [u.takeCap_limit, cap], by rw [only, ← pins], by rw [only, ← table], by rw [only, ← port],
        fun h => absurd h setup, fun _ busy => ?busy, fun out idle => ?out, fun in_step idle => ⟨fun same => ?same, fun other => ?other⟩⟩
      case busy =>
        rw [State.takeCap_of_busy (by rwa [bus])]
        exact ⟨rfl, by rw [cap], bus⟩
      case out =>
        rw [State.takeCap_of_not_inStep (by rwa [bus]) (by rw [member]; rcases out with e | e <;> rw [e] <;> rfl)]
        rfl
      case same =>
        rw [State.takeCap_of_eq (by rwa [bus]) (by rwa [member]) (by rwa [table])]
        exact ⟨rfl, u.bus.has_drop_self .cap⟩
      case other =>
        rw [← bus] at idle ⊢
        rw [← member] at in_step ⊢
        rw [← table] at other
        have ⟨request, posted, left⟩ := State.takeCap_requests idle in_step other
        exact ⟨congrArg CapUnit.request request, posted, left⟩
  case trigger =>
    have row := exec_trgDebouncedAssertion running stands
    generalize hu : (s.taken (.trgDebouncedAssertion i)).setTrg i true = u at row
    have trg : u.group.trg = s.group.trg.set i { level := true, count := 0 } := by rw [← hu]; rfl
    have pins : u.pins = { s.pins with trg := s.pins.trg.set i true } := by rw [← hu]; rfl
    obtain ⟨bus, member, table, port, settings⟩ :
        u.bus = s.bus ∧ u.member = s.member ∧ u.table = s.table ∧ u.port = s.port ∧ u.settings = s.settings := by
      rw [← hu]; exact ⟨rfl, rfl, rfl, rfl, rfl⟩
    have only := u.triggered_eq i
    refine ⟨_, row, by rw [only, ← table], by rw [only, ← trg], by rw [only, ← pins], fun enabled on_line room => ?room,
      fun enabled on_line full => ?full, fun ignored => ?ignored⟩
    case room =>
      rw [State.triggered_of_room (by rwa [settings]) (by rwa [member]) (by rwa [bus]), ← port, ← bus, ← settings]
      exact ⟨rfl, rfl⟩
    case full =>
      rw [State.triggered_of_full (by rwa [settings]) (by rwa [member]) (by rwa [bus])]
      exact ⟨by simp [bus], State.post_port_congr port (by rw [table]) _ _⟩
    case ignored =>
      rw [State.triggered_of_ignored (by rwa [settings, member])]
      exact ⟨bus, port⟩

end Sys2Proof.Machine
end

section
/-! SUPPORT. The shed plan of a table (R131, R132), and the local shed order against its target (R133). -/

namespace Sys2Proof.Machine

/-! ## The order of visits (R131) -/

/-- A visit ahead of another: of a higher class, or of a higher station in the same class. -/
def visitsFirst (v w : ClassIx × Station) : Prop := w.1 < v.1 ∨ w.1 = v.1 ∧ w.2 < v.2

theorem planOrder_pairwise : planOrder.Pairwise visitsFirst := by
  refine List.pairwise_flatMap.mpr ⟨fun k _ => List.pairwise_map.mpr ?_, ?_⟩
  · exact (List.pairwise_reverse.mpr (List.pairwise_lt_finRange 32)).imp fun later => .inr ⟨rfl, later⟩
  · refine (List.pairwise_reverse.mpr (List.pairwise_lt_finRange 4)).imp fun higher v hv w hw => .inl ?_
    obtain ⟨_, -, rfl⟩ := List.mem_map.mp hv
    obtain ⟨_, -, rfl⟩ := List.mem_map.mp hw
    exact higher

theorem mem_planOrder (v : ClassIx × Station) : v ∈ planOrder := by
  simp [planOrder, Prod.ext_iff]

theorem visitsFirst_irrefl (v : ClassIx × Station) : ¬ visitsFirst v v := by
  simp [visitsFirst]

theorem visitsFirst_asymm {v w : ClassIx × Station} (h : visitsFirst v w) : ¬ visitsFirst w v := by
  rintro (back | ⟨same', back⟩) <;> rcases h with higher | ⟨same, higher⟩
  · exact absurd back higher.asymm
  · exact absurd back (same ▸ lt_irrefl _)
  · exact absurd higher (same' ▸ lt_irrefl _)
  · exact absurd back higher.asymm

/-- The plan visits everyone once. -/
theorem not_mem_before {v : ClassIx × Station} {l r : List (ClassIx × Station)} (split : planOrder = l ++ v :: r) : v ∉ l := by
  have ordered := split ▸ planOrder_pairwise
  obtain ⟨-, -, across⟩ := List.pairwise_append.mp ordered
  exact fun h => visitsFirst_irrefl v (across v h v List.mem_cons_self)

/-- What is visited first stands before. -/
theorem mem_before_of_visitsFirst {v w : ClassIx × Station} {l r : List (ClassIx × Station)} (split : planOrder = l ++ v :: r)
    (first : visitsFirst w v) : w ∈ l := by
  obtain ⟨-, after, -⟩ := List.pairwise_append.mp (split ▸ planOrder_pairwise)
  rcases List.mem_append.mp (split ▸ mem_planOrder w) with before | rest
  · exact before
  rcases List.mem_cons.mp rest with rfl | behind
  · exact absurd first (visitsFirst_irrefl w)
  · exact absurd ((List.pairwise_cons.mp after).1 w behind) (visitsFirst_asymm first)

/-! ## The plan (R131) -/

/-- What a visit finds to give: the holding of a MEMBER entry. -/
def Table.gives (t : Table) (v : ClassIx × Station) : Nat := if t.entries[v.2].member then t.entries[v.2].held[v.1] else 0

theorem Table.visit_eq (t : Table) (n : Nat) (v : ClassIx × Station) : t.visit n v = min (t.gives v) n := by
  unfold Table.visit Table.gives
  split <;> simp

theorem Table.planFrom_visits (t : Table) : ∀ (n : Nat) (vs : List (ClassIx × Station)), (t.planFrom n vs).map (·.1) = vs
  | _, [] => rfl
  | _, v :: vs => congrArg (v :: ·) (t.planFrom_visits _ vs)

/-- The visits share out the excess as far as they find something to give. -/
theorem Table.planFrom_sum (t : Table) : ∀ (n : Nat) (vs : List (ClassIx × Station)),
    ((t.planFrom n vs).map (·.2)).sum = min (vs.map t.gives).sum n
  | _, [] => by simp [Table.planFrom]
  | n, v :: vs => by
    simp only [Table.planFrom, List.map_cons, List.sum_cons, t.planFrom_sum _ vs, t.visit_eq]
    omega

/-- Later visits share out what the earlier ones have left of the excess. -/
theorem Table.planFrom_append (t : Table) (ws : List (ClassIx × Station)) : ∀ (n : Nat) (vs : List (ClassIx × Station)),
    t.planFrom n (vs ++ ws) = t.planFrom n vs ++ t.planFrom (n - (vs.map t.gives).sum) ws
  | _, [] => rfl
  | n, v :: vs => by
    have left : n - t.visit n v - (vs.map t.gives).sum = n - ((v :: vs).map t.gives).sum := by
      rw [t.visit_eq, List.map_cons, List.sum_cons]
      omega
    simp only [List.cons_append, Table.planFrom, t.planFrom_append ws _ vs, left]

/-- An obligation is what the station has to give, up to what the visits before have left of the excess. -/
theorem Table.obligation_eq (t : Table) {q : Station} {k : ClassIx} {l r : List (ClassIx × Station)}
    (split : planOrder = l ++ (k, q) :: r) :
    t.obligation q k = min (t.gives (k, q)) (t.total - t.cap.toNat - (l.map t.gives).sum) := by
  have before : (t.planFrom (t.total - t.cap.toNat) l).find? (fun p => p.1 == (k, q)) = none := by
    refine List.find?_eq_none.mpr fun p hp is_it => not_mem_before split ?_
    have visited := List.mem_map_of_mem (f := (·.1)) hp
    rwa [t.planFrom_visits, eq_of_beq is_it] at visited
  rw [Table.obligation, Table.plan, split, t.planFrom_append, List.find?_append, before]
  simp [Table.planFrom, t.visit_eq]

theorem Table.obligation_le_gives (t : Table) (q : Station) (k : ClassIx) : t.obligation q k ≤ t.gives (k, q) := by
  obtain ⟨l, r, split⟩ := List.append_of_mem (mem_planOrder (k, q))
  rw [t.obligation_eq split]
  exact min_le_left _ _

/-- Where a visit still finds an excess, every visit before has given all. -/
theorem Table.obligation_of_visitsFirst {t : Table} {q p : Station} {k j : ClassIx} (asked : 0 < t.obligation q k)
    (first : visitsFirst (j, p) (k, q)) : t.obligation p j = t.gives (j, p) := by
  obtain ⟨l, r, split⟩ := List.append_of_mem (mem_planOrder (k, q))
  obtain ⟨l₁, l₂, earlier⟩ := List.append_of_mem (mem_before_of_visitsFirst split first)
  rw [t.obligation_eq split, earlier] at asked
  rw [t.obligation_eq (l := l₁) (r := l₂ ++ (k, q) :: r) (by rw [split, earlier, List.append_assoc, List.cons_append])]
  simp only [List.map_append, List.map_cons, List.sum_append, List.sum_cons] at asked
  omega

theorem Entry.total_eq_sum (e : Entry) : e.total = ∑ k : ClassIx, if e.member then e.held[k] else 0 := by
  rw [Entry.total_eq, Fin.sum_univ_four]
  split <;> rfl

/-- The visits find the total to give. -/
theorem Table.sum_gives (t : Table) : (planOrder.map t.gives).sum = t.total := by
  have of_class (k : ClassIx) : ((allStations.reverse.map fun q => (k, q)).map t.gives).sum = ∑ q : Station, t.gives (k, q) := by
    rw [List.map_map, List.map_reverse, List.sum_reverse, Fin.sum_univ_def]
    rfl
  calc (planOrder.map t.gives).sum
      = (allClasses.reverse.map fun k => ∑ q : Station, t.gives (k, q)).sum := by
        rw [planOrder, List.map_flatMap, List.flatMap, List.sum_flatten, List.map_map]
        exact congrArg List.sum (List.map_congr_left fun k _ => of_class k)
    _ = ∑ k : ClassIx, ∑ q : Station, t.gives (k, q) := by rw [List.map_reverse, List.sum_reverse, Fin.sum_univ_def]
    _ = ∑ q : Station, ∑ k : ClassIx, t.gives (k, q) := Finset.sum_comm
    _ = t.total := by
      rw [t.total_eq_sum]
      exact Finset.sum_congr rfl fun q _ => (t.entries[q].total_eq_sum).symm

/-- Settles O50: the visits find the total to give, and each is asked for what those before have left of the excess. -/
theorem shedPlanSharesExcess : Obligations.ShedPlanSharesExcess := by
  unfold Obligations.ShedPlanSharesExcess
  refine fun t _ => ⟨?sum, fun q k => ?bound, fun q k absent => ?absent, fun q p k j asked first member => ?order⟩
  case sum =>
    rw [Table.plan, t.planFrom_sum, t.sum_gives]
    exact min_eq_right (Nat.sub_le _ _)
  case bound =>
    refine (t.obligation_le_gives q k).trans ?_
    unfold Table.gives
    split
    · exact le_rfl
    · exact Nat.zero_le _
  case absent =>
    refine Nat.eq_zero_of_le_zero ((t.obligation_le_gives q k).trans (le_of_eq ?_))
    exact if_neg (Bool.eq_false_iff.mp absent)
  case order =>
    exact (Table.obligation_of_visitsFirst asked first).trans (if_pos member)

/-! ## The local shed order (R132, R133) -/

theorem shedKeeps_of_met {s : State} {k : ClassIx} {n : Nat} (met : s.occupiedIn k ≤ n) (l : List LoadIx) : shedKeeps k n l s = s := by
  cases l with
  | nil => rfl
  | cons => exact if_pos met

theorem shedOffs_of_met {s : State} {k : ClassIx} {n : Nat} (met : s.occupiedIn k ≤ n) (l : List LoadIx) : shedOffs k n l s = s := by
  cases l with
  | nil => rfl
  | cons => exact if_pos met

/-- A class within its target sheds nothing. -/
theorem State.shedClass_of_met {s : State} {k : ClassIx} {n : Nat} (met : s.occupiedIn k ≤ n) : s.shedClass k n = s := by
  rw [State.shedClass, shedKeeps_of_met met, shedOffs_of_met met]

/-- What the plan of table t asks of station a in one class is shed. -/
def planStep (t : Table) (a : Station) (s : State) (k : ClassIx) : State :=
  if 0 < t.obligation a k then s.shedClass k (t.entries[a].held[k] - t.obligation a k) else s

theorem State.executePlan_eq (s : State) : s.executePlan = allClasses.reverse.foldl (planStep s.table s.address) s := rfl

theorem planStep_shedsOnly (t : Table) (a : Station) (s : State) (k : ClassIx) : s.shedsOnly k (planStep t a s k) := by
  unfold planStep
  split
  · exact (State.shedsOnly.refl k s).shedClass _
  · exact State.shedsOnly.refl k s

/-- A class that the plan asks for units occupies at most the holding less them. -/
theorem State.executePlan_occupiedIn_le {s : State} (granted : s.granted) {k : ClassIx} (asked : 0 < s.table.obligation s.address k) :
    s.executePlan.occupiedIn k ≤ s.table.entries[s.address].held[k] - s.table.obligation s.address k := by
  rw [s.executePlan_eq]
  refine foldl_establishes (I := State.granted)
    (P := fun j u => 0 < s.table.obligation s.address j →
      u.occupiedIn j ≤ s.table.entries[s.address].held[j] - s.table.obligation s.address j)
    (fun u j => (planStep_shedsOnly _ _ u j).granted) (fun u j hu asked => ?self) (fun u i j ne within asked => ?other)
    allClasses.reverse s k granted (.inl (List.mem_reverse.mpr (List.mem_finRange k))) asked
  case self =>
    rw [planStep, if_pos asked]
    exact State.shedClass_le hu j _
  case other =>
    rw [(planStep_shedsOnly s.table s.address u i).occupiedIn ne]
    exact within asked

/-- Settles O51: the second pass turns every energized load of the class off until the target is met; classes shed one by one. -/
theorem localShedMeetsTarget : Obligations.LocalShedMeetsTarget := by
  unfold Obligations.LocalShedMeetsTarget
  intro s k target lists _
  have granted := State.granted_of_listsSound lists
  exact ⟨State.shedClass_le granted k target, State.shedClass_of_met, State.executePlan_occupiedIn_le granted⟩

end Sys2Proof.Machine
end

section
/-! SUPPORT. The freeze timer: its expiry, which sets the thaw mark, and the applied FREEZE and THAW that move it (R140, R141). -/

namespace Sys2Proof.Machine

/-! ## The expiry (R140) -/

/-- A node whose freeze timer has run out: the timer stopped, the thaw mark set, a THAW item not posted yet. -/
def State.thawMarked (s : State) : State := { s with freeze := { s.freeze with timer := none, thawMark := true } }

theorem exec_freezeTimerExpiry {s : State} (running : s.power.running = true) (timed : s.freeze.timer.isSome = true)
    (stands : .freezeTimerExpiry ∈ s.due → s.freeze.timer = some 0) :
    exec .freezeTimerExpiry s = .next (s.taken .freezeTimerExpiry).thawMarked.standThaw := by
  change execFreezeTimerExpiry s = _
  rw [execFreezeTimerExpiry, State.whenRunning_of_running running,
    State.takeRow_of_stands _ _ _ _ fun due => by rw [stands due]; rfl, if_pos (by exact timed)]
  rfl

theorem exec_freezeTimerExpiry_of_late {s : State} (running : s.power.running = true) (due : .freezeTimerExpiry ∈ s.due)
    (late : s.freeze.timer ≠ some 0) : exec .freezeTimerExpiry s = .next (s.taken .freezeTimerExpiry) := by
  change execFreezeTimerExpiry s = _
  rw [execFreezeTimerExpiry, State.whenRunning_of_running running, ended_of_ne late, State.takeRow_of_late _ _ _ due]

theorem State.standThaw_eq (s : State) : s.standThaw = { s with bus := { s.bus with items := s.standThaw.bus.items } } := by
  unfold State.standThaw
  split
  · exact s.send_eq _
  · rfl

/-- Out of step no THAW item is placed, whatever mark stands (R141). -/
theorem State.standThaw_of_out_of_step {s : State} (out : s.member.participation.inStep = false) : s.standThaw = s := by
  simp [State.standThaw, out]

/-! ## An applied FREEZE and an applied THAW (R140, R141) -/

theorem State.freezeApplied_freeze (s : State) (d : TimeCode) : (s.freezeApplied d).freeze = { s.freeze with
    timer := if s.freeze.remaining < durationMs d then some (durationMs d) else s.freeze.timer, thawMark := false } := by
  simp [State.freezeApplied]

theorem State.thawApplied_freeze (s : State) : s.thawApplied.freeze = { s.freeze with timer := none, thawMark := false } := by
  simp [State.thawApplied]

theorem State.withdrawItem_has_of_calm {s : State} (calm : s.bus.calm) (k : FrameKind) : (s.withdrawItem k).bus.has k = false := by
  rw [State.withdrawItem_of_calm calm]
  exact Bus.has_drop_self _ _

/-- Settles O47: the row by its timer's stand, a THAW item by the standing posting; an applied FREEZE or THAW by the Freeze Unit's update
and the withdrawal. -/
theorem freezeTimerAndThawMark : Obligations.FreezeTimerAndThawMark := by
  unfold Obligations.FreezeTimerAndThawMark
  refine ⟨fun s running timed stands => ?expiry, fun s running due late => exec_freezeTimerExpiry_of_late running due late,
    fun s d => ⟨s.freezeApplied_freeze d, s.thawApplied_freeze, fun gap => ?withdrawn⟩⟩
  case expiry =>
    refine ⟨_, exec_freezeTimerExpiry running timed stands, ?freeze, ?table, fun in_step => ?posted, fun out => ?unposted, ?frame⟩
    case freeze => simp [State.thawMarked]
    case table => simp [State.thawMarked]
    case posted =>
      rw [State.standThaw_has, show (s.taken .freezeTimerExpiry).thawMarked.member.participation.inStep = true from in_step]
      simp [State.thawMarked]
    case unposted =>
      rw [State.standThaw_of_out_of_step (by exact out)]
      rfl
    case frame =>
      rw [State.standThaw_eq]
      rfl
  case withdrawn =>
    have calm : s.bus.calm := Bus.calm_of_line (by simp [gap]) (by simp [gap])
    exact ⟨State.withdrawItem_has_of_calm (by exact calm) .thaw, State.withdrawItem_has_of_calm (by exact calm) .thaw⟩

end Sys2Proof.Machine
end

section
/-! SUPPORT. SEND_GROUP, and its race with a trigger's assertion for the last place of the code list (R145 to R147). -/

namespace Sys2Proof.Machine

/-! ## SEND_GROUP (R146) -/

section rows

variable {s : State}

theorem exec_sendGroup_eq (running : s.power.running = true) (arg : Byte) :
    exec (.sendGroup arg) s = .next
      (if !s.member.participation.onLine then s.answered 0x08 arg .refused 0
       else if s.canPlaceCode then (s.answered 0x08 arg .done 0).placeCode arg
       else s.answered 0x08 arg .full 0) := by
  change execSendGroup arg s = _
  exact State.command_of_running running 0x08 arg _

theorem exec_sendGroup_of_parked (running : s.power.running = true) (parked : s.member.participation.onLine = false) (arg : Byte) :
    exec (.sendGroup arg) s = .next (s.answered 0x08 arg .refused 0) := by
  rw [exec_sendGroup_eq running, if_pos (by rw [parked]; rfl)]

variable (running : s.power.running = true) (on_line : s.member.participation.onLine = true)
include running on_line

theorem exec_sendGroup_of_room (room : s.bus.codes.length < 4) (arg : Byte) :
    exec (.sendGroup arg) s = .next ((s.answered 0x08 arg .done 0).placeCode arg) := by
  rw [exec_sendGroup_eq running, on_line, if_neg nofun, if_pos (s.canPlaceCode_iff.mpr ⟨room, on_line⟩)]

theorem exec_sendGroup_of_full (full : 4 ≤ s.bus.codes.length) (arg : Byte) :
    exec (.sendGroup arg) s = .next (s.answered 0x08 arg .full 0) := by
  rw [exec_sendGroup_eq running, on_line, if_neg nofun, if_neg fun h => not_lt.mpr full (s.canPlaceCode_iff.mp h).1]

end rows

theorem Participation.onLine_eq_false {p : Participation} (parked : p = .setup ∨ p = .detached) : p.onLine = false := by
  rcases parked with rfl | rfl <;> rfl

theorem Participation.onLine_of_ne {p : Participation} (started : p ≠ .setup) (attached : p ≠ .detached) : p.onLine = true := by
  cases p with
  | setup => exact absurd rfl started
  | detached => exact absurd rfl attached
  | seeking | joining | active | leaving => rfl

/-- A posting leaves the result of the last command. -/
theorem State.post_result (s : State) (c : EventCode) (a : Byte) : (s.post c a).port.result = s.port.result := by
  rw [State.post_port, Port.offer]
  (repeat' split) <;> rfl

/-! ## The last place (R145, R147) -/

section race

variable {s : State} {i : Fin 2} (running : s.power.running = true) (on_line : s.member.participation.onLine = true)
  (last : s.bus.codes.length = 3) (enabled : (s.settings.triggers[i]).enabled = true)
  (stands : .trgDebouncedAssertion i ∈ s.due → 32 ≤ (s.group.trg[i]).count)
include running on_line last enabled stands

/-- The command taken first has the place, and the trigger's code is dropped. -/
theorem exec_sendGroup_then_trigger (arg : Byte) :
    ∃ t u, exec (.sendGroup arg) s = .next t ∧ exec (.trgDebouncedAssertion i) t = .next u ∧ u.port.result = .done
      ∧ u.bus.codes = s.bus.codes ++ [arg] ∧ u.port = (t.post .groupDropped (argOf i.val)).port := by
  have full : 4 ≤ (s.bus.codes ++ [arg]).length := by rw [List.length_append, last]; rfl
  refine ⟨_, _, exec_sendGroup_of_room running on_line (by omega) arg,
    exec_trgDebouncedAssertion (by exact running) (by exact stands), ?_⟩
  rw [State.triggered_of_full (by exact enabled) (by exact on_line) (by exact full)]
  refine ⟨State.post_result .., ?_, State.post_port_congr (by rfl) (by rfl) _ _⟩
  simp only [State.post_frame]
  rfl

/-- The trigger's edge taken first has the place, and the command answers FULL. -/
theorem exec_trigger_then_sendGroup (arg : Byte) :
    ∃ t u, exec (.trgDebouncedAssertion i) s = .next t ∧ exec (.sendGroup arg) t = .next u ∧ u.port.result = .full
      ∧ u.bus.codes = s.bus.codes ++ [(s.settings.triggers[i]).code] := by
  have full : 4 ≤ (s.bus.codes ++ [(s.settings.triggers[i]).code]).length := by rw [List.length_append, last]; rfl
  have placed : exec (.trgDebouncedAssertion i) s = .next (((s.taken (.trgDebouncedAssertion i)).setTrg i true).placeCode
      (s.settings.triggers[i]).code) := by
    rw [exec_trgDebouncedAssertion running stands,
      State.triggered_of_room (by exact enabled) (by exact on_line) (by change s.bus.codes.length < 4; omega)]
    rfl
  exact ⟨_, _, placed, exec_sendGroup_of_full (by exact running) (by exact on_line) (by exact full) arg, rfl, rfl⟩

end race

/-- Settles O16: SEND_GROUP by the room on the code list; of two that find one free place, each order fills it with the first. -/
theorem sendGroupPlacesCode : Obligations.SendGroupPlacesCode := by
  unfold Obligations.SendGroupPlacesCode
  refine fun s arg running => ⟨fun parked => exec_sendGroup_of_parked running (Participation.onLine_eq_false parked) arg,
    fun started attached => ?_⟩
  have on_line := Participation.onLine_of_ne started attached
  exact ⟨fun room => exec_sendGroup_of_room running on_line room arg, fun full => exec_sendGroup_of_full running on_line full arg,
    fun last i enabled stands => ⟨exec_sendGroup_then_trigger running on_line last enabled stands arg,
      exec_trigger_then_sendGroup running on_line last enabled stands arg⟩⟩

end Sys2Proof.Machine
end

section
/-! SUPPORT. Group windows: which codes a window matches, and the resolved action of a code for a load (R149). -/

namespace Sys2Proof.Machine

/-! ## Matching -/

/-- A code matches a window in every bit position that the mask holds. -/
theorem GroupWindow.matchesCode_iff (w : GroupWindow) (code : Byte) :
    w.matchesCode code = true ↔ ∀ i, i < 8 → w.mask.getLsbD i = true → code.getLsbD i = w.base.getLsbD i := by
  have bit_zero (i : Nat) : ((code ^^^ w.base) &&& w.mask).getLsbD i = false
      ↔ (w.mask.getLsbD i = true → code.getLsbD i = w.base.getLsbD i) := by
    rw [BitVec.getLsbD_and, BitVec.getLsbD_xor]
    cases code.getLsbD i <;> cases w.base.getLsbD i <;> cases w.mask.getLsbD i <;> decide
  rw [GroupWindow.matchesCode, decide_eq_true_iff]
  constructor
  · intro zero i _
    rw [← bit_zero, zero]
    exact BitVec.getLsbD_zero
  · exact fun agrees => BitVec.eq_of_getLsbD_eq fun i hi => ((bit_zero i).mpr (agrees i hi)).trans BitVec.getLsbD_zero.symm

/-! ## Precedence -/

theorem Action.mem_precedence (a : Action) : a ∈ Action.precedence := by cases a <;> decide

theorem Action.number_injective : Function.Injective Action.number := by
  intro a b
  cases a <;> cases b <;> decide

/-- The order of precedence is the order of the action codes. -/
theorem Action.precedence_pairwise : Action.precedence.Pairwise fun a b => a.number < b.number := by decide

theorem Action.find?_precedence_eq_none (p : Action → Bool) : Action.precedence.find? p = none ↔ ∀ a, ¬p a = true := by
  rw [List.find?_eq_none]
  exact ⟨fun h a => h a a.mem_precedence, fun h a _ => h a⟩

/-- The action found is asked for, and each that is asked for comes no earlier. -/
theorem Action.find?_precedence_sound {p : Action → Bool} {a : Action} (found : Action.precedence.find? p = some a) :
    p a = true ∧ ∀ b, p b = true → a.number ≤ b.number := by
  obtain ⟨asked, before, after, order, passed⟩ := List.find?_eq_some_iff_append.mp found
  refine ⟨asked, fun b hb => ?_⟩
  have sorted := Action.precedence_pairwise
  have member := b.mem_precedence
  rw [order] at sorted member
  obtain ⟨-, sorted, -⟩ := List.pairwise_append.mp sorted
  rcases List.mem_append.mp member with earlier | later
  · have not_asked := passed b earlier
    rw [hb] at not_asked
    cases not_asked
  · rcases List.mem_cons.mp later with rfl | later
    · exact le_rfl
    · exact ((List.pairwise_cons.mp sorted).1 b later).le

theorem Action.find?_precedence_eq_some (p : Action → Bool) (a : Action) :
    Action.precedence.find? p = some a ↔ p a = true ∧ ∀ b, p b = true → a.number ≤ b.number := by
  refine ⟨Action.find?_precedence_sound, fun ⟨asked, first⟩ => ?_⟩
  cases found : Action.precedence.find? p with
  | none => exact absurd asked ((Action.find?_precedence_eq_none p).mp found a)
  | some b =>
    obtain ⟨asked', first'⟩ := Action.find?_precedence_sound found
    rw [Action.number_injective (le_antisymm (first' a asked) (first b asked'))]

/-! ## The resolved action -/

/-- Window i is enabled, matches the code and names the load. -/
def State.windowActs (s : State) (code : Byte) (x : LoadIx) (i : Fin 4) : Prop :=
  (s.settings.windows[i]).enabled = true ∧ (s.settings.windows[i]).matchesCode code = true
    ∧ (s.settings.windows[i]).loads.getLsbD x.val = true

/-- A window asks for an action. -/
theorem State.windowActs_any_iff (s : State) (code : Byte) (x : LoadIx) (a : Action) :
    (s.settings.windows.toList.any fun w => w.enabled && w.matchesCode code && w.loads.getLsbD x.val && (w.action == a)) = true
      ↔ ∃ i, s.windowActs code x i ∧ (s.settings.windows[i]).action = a := by
  simp only [List.any_eq_true, Vector.mem_toList_iff, Vector.mem_iff_getElem, Bool.and_eq_true, beq_iff_eq]
  constructor
  · rintro ⟨w, ⟨i, hi, rfl⟩, ⟨⟨enabled, matching⟩, names⟩, asks⟩
    exact ⟨⟨i, hi⟩, ⟨enabled, matching, names⟩, asks⟩
  · rintro ⟨i, ⟨enabled, matching, names⟩, asks⟩
    exact ⟨_, ⟨i, i.isLt, rfl⟩, ⟨⟨enabled, matching⟩, names⟩, asks⟩

theorem State.resolve_eq_none (s : State) (code : Byte) (x : LoadIx) :
    s.resolve code x = none ↔ ∀ i, ¬s.windowActs code x i := by
  rw [State.resolve, Action.find?_precedence_eq_none]
  simp only [State.windowActs_any_iff]
  exact ⟨fun none_asks i acts => none_asks _ ⟨i, acts, rfl⟩, fun none_acts a ⟨i, acts, _⟩ => none_acts i acts⟩

theorem State.resolve_eq_some (s : State) (code : Byte) (x : LoadIx) (a : Action) :
    s.resolve code x = some a ↔ (∃ i, s.windowActs code x i ∧ (s.settings.windows[i]).action = a)
      ∧ ∀ i, s.windowActs code x i → a.number ≤ (s.settings.windows[i]).action.number := by
  rw [State.resolve, Action.find?_precedence_eq_some]
  simp only [State.windowActs_any_iff]
  exact and_congr_right fun _ => ⟨fun first i acts => first _ ⟨i, acts, rfl⟩,
    fun first b ⟨i, acts, asks⟩ => asks ▸ first i acts⟩

/-- Settles O43: matching bit by bit; the first action of the order of precedence that a window asks for. -/
theorem groupActionsResolveByPrecedence : Obligations.GroupActionsResolveByPrecedence := by
  unfold Obligations.GroupActionsResolveByPrecedence
  refine ⟨GroupWindow.matchesCode_iff, fun s code x => ⟨s.resolve_eq_none code x, fun a => ?_⟩⟩
  simpa only [State.windowActs, and_assoc, and_imp] using s.resolve_eq_some code x a

end Sys2Proof.Machine
end

section
/-! SUPPORT. What each resolved action makes of the record of its load (R93, R95, R96, R102 to R104, R150), and what a code makes of the
loads that its windows name. -/

namespace Sys2Proof.Machine

/-! ## Records moved -/

namespace LoadRecord

/-- A record turned off: OFF with its ramp stopped, but in OFF and in FAULT as it was (Table 5.6). -/
def turnedOff (r : LoadRecord) : LoadRecord :=
  if r.state = .off ∨ r.state = .fault then r else { r with state := .off, ramp := none }

/-- A record offered to the demand queue: WAITING from OFF where it is wanted and not inhibited (R94). -/
def entered (r : LoadRecord) : LoadRecord :=
  if r.state = .off ∧ r.wanted = true ∧ r.inhibited = false then { r with state := .waiting } else r

/-- A record with the wish FULL: from the level KEEP back to RAISE_WAIT (R96). -/
def wishedFull (r : LoadRecord) : LoadRecord :=
  { r with wish := .full, state := if r.wish = .keep ∧ r.state = .keep then .raiseWait else r.state }

/-- A record with the wish KEEP: a load of the full level goes to KEEP where it has keep units, a raising load gives up (R95, R96). -/
def wishedKeep (c : LoadSettings) (r : LoadRecord) : LoadRecord :=
  if r.wish = .keep then r
  else
    match r.state with
    | .ramping | .on => if 0 < c.keep.toNat then { r with wish := .keep, state := .keep, ramp := none } else { r with wish := .keep }
    | .raiseWait | .raiseClaim => { r with wish := .keep, state := .keep }
    | .off | .waiting | .claiming | .keep | .fault => { r with wish := .keep }

variable {c : LoadSettings} {r : LoadRecord}

theorem wishedFull_state_of_keep (raises : r.state = .keep ∧ r.wish = .keep) :
    r.wishedFull.state = .raiseWait := if_pos raises.symm

theorem wishedFull_state_of_other (stays : ¬(r.state = .keep ∧ r.wish = .keep)) :
    r.wishedFull.state = r.state := if_neg fun e => stays e.symm

theorem wishedKeep_fields (c : LoadSettings) (r : LoadRecord) :
    (r.wishedKeep c).wish = .keep ∧ (r.wishedKeep c).wanted = r.wanted := by
  unfold wishedKeep
  split
  next keep => exact ⟨keep, rfl⟩
  next => (repeat' split) <;> exact ⟨rfl, rfl⟩

theorem wishedKeep_state_of_high (full : r.wish = .full) (high : r.state = .ramping ∨ r.state = .on) :
    (r.wishedKeep c).state = if 0 < c.keep.toNat then .keep else r.state := by
  rw [wishedKeep, if_neg (by rw [full]; nofun)]
  rcases high with e | e <;> rw [e] <;> dsimp only <;> split <;> rfl

theorem wishedKeep_state_of_raising (full : r.wish = .full) (raising : r.state = .raiseWait ∨ r.state = .raiseClaim) :
    (r.wishedKeep c).state = .keep := by
  rw [wishedKeep, if_neg (by rw [full]; nofun)]
  rcases raising with e | e <;> rw [e]

theorem wishedKeep_state_of_idle (idle : r.wish = .keep ∨ r.state ∈ [.off, .waiting, .claiming, .keep, .fault]) :
    (r.wishedKeep c).state = r.state := by
  rw [wishedKeep]
  split
  · rfl
  next other =>
    have still := idle.resolve_left other
    split
    case h_1 e | h_2 e | h_3 e | h_4 e => rw [e] at still; exact absurd still (by decide)
    all_goals rfl

end LoadRecord

/-- The record that a resolved action makes of a load's record, before composition. -/
def Action.record (c : LoadSettings) (r : LoadRecord) : Action → LoadRecord
  | .inhibit => if r.inhibited then r else { r with inhibited := true }.turnedOff
  | .keep => r.wishedKeep c
  | .withdraw => if c.source = .soft ∧ r.wanted = true then { r with wanted := false }.turnedOff else r
  | .permit => if r.inhibited then { r with inhibited := false }.entered else r
  | .request =>
    if c.source = .soft then (if r.wanted then r.wishedFull else { r.wishedFull with wanted := true }.entered) else r

section records

variable {s : State} {x : LoadIx}

theorem Level.eq_full_of_ne_keep {l : Level} (h : l ≠ .keep) : l = .full := by
  cases l with
  | full => rfl
  | keep => exact absurd rfl h

theorem State.turnOff_load_eq (s : State) (x : LoadIx) : (s.turnOff x).load x = (s.load x).turnedOff := by
  unfold LoadRecord.turnedOff
  split
  next idle => rw [State.turnOff_of_idle idle]
  next active =>
    obtain ⟨off, fault⟩ := not_or.mp active
    rw [State.turnOff_of_active off fault, State.dropLoad_load, if_pos rfl]

theorem State.enterQueue_load_eq (s : State) (x : LoadIx) : (s.enterQueue x).load x = (s.load x).entered := by
  unfold LoadRecord.entered
  split
  next enters => rw [State.enterQueue_of_enters enters, State.enqueue_load, State.load_setLoad_self]
  next stays => rw [State.enterQueue_of_stays stays]

theorem State.wishFull_load_eq (s : State) (x : LoadIx) : (s.wishFull x).load x = (s.load x).wishedFull := by
  unfold LoadRecord.wishedFull
  split
  next raises => rw [State.wishFull_of_keep raises.2 raises.1, State.enqueue_load, State.load_setLoad_self]
  next stays =>
    by_cases full : (s.load x).wish = .full
    · rw [State.wishFull, if_pos full, ← full]
    · have not_keep : (s.load x).state ≠ .keep := fun state =>
        stays ⟨by_contra fun other => full (Level.eq_full_of_ne_keep other), state⟩
      rw [State.wishFull_of_not_keep not_keep, State.load_setLoad_self]

/-- Where the level KEEP moves no load, the wish alone changes. -/
theorem State.wishKeep_of_idle (wish : (s.load x).wish = .full)
    (idle : (s.load x).state ∉ [.ramping, .on, .raiseWait, .raiseClaim] ∨
      ((s.load x).state = .ramping ∨ (s.load x).state = .on) ∧ ¬0 < (s.cfg x).keep.toNat) :
    s.wishKeep x = s.setLoad x { s.load x with wish := .keep } := by
  rw [State.wishKeep, if_neg (by rw [wish]; nofun)]
  dsimp only
  rw [State.load_setLoad_self]
  dsimp only
  split
  case h_1 e | h_2 e =>
    refine if_neg fun lowers => ?_
    rcases idle with other | ⟨-, no_units⟩
    · rw [e] at other
      exact other (by decide)
    · exact no_units lowers.2
  case h_3 e | h_4 e =>
    rw [e] at idle
    rcases idle with other | ⟨high, -⟩
    · exact absurd (by decide) other
    · rcases high with h | h <;> cases h
  case h_5 => rfl

theorem State.wishKeep_load_eq (s : State) (x : LoadIx) : (s.wishKeep x).load x = (s.load x).wishedKeep (s.cfg x) := by
  have wished (r : LoadRecord) : (s.setLoad x r).load x = r := s.load_setLoad_self x r
  by_cases keep : (s.load x).wish = .keep
  · rw [State.wishKeep, if_pos keep, LoadRecord.wishedKeep, if_pos keep]
  have full : (s.load x).wish = .full := Level.eq_full_of_ne_keep keep
  rw [LoadRecord.wishedKeep, if_neg keep]
  split
  case h_1 e | h_2 e =>
    split
    next units =>
      rw [State.wishKeep_of_high full (by rw [e]; simp) units, State.load]
      simp only [State.freeUnits_frame]
      exact wished _
    next no_units => rw [State.wishKeep_of_idle full (.inr ⟨by rw [e]; simp, no_units⟩), wished]
  case h_3 e =>
    rw [State.wishKeep_of_raiseWait full e]
    exact wished _
  case h_4 e =>
    rw [State.wishKeep_of_raiseClaim full e, State.endClaim_load]
    exact wished _
  all_goals
    next e => rw [State.wishKeep_of_idle full (.inl (by rw [e]; decide)), wished]

theorem State.act_load_eq (s : State) (x : LoadIx) (a : Action) : (s.act x a).load x = a.record (s.cfg x) (s.load x) := by
  have flagged (r : LoadRecord) : (s.setLoad x r).load x = r := s.load_setLoad_self x r
  cases a with
  | inhibit =>
    change (s.inhibitLoad x).load x = if (s.load x).inhibited then s.load x else { s.load x with inhibited := true }.turnedOff
    unfold State.inhibitLoad
    split
    · rfl
    · rw [State.turnOff_load_eq, flagged]
  | keep => exact s.wishKeep_load_eq x
  | withdraw =>
    change (if (s.cfg x).source = .soft then s.unwantLoad x else s).load x
      = if (s.cfg x).source = .soft ∧ (s.load x).wanted = true then { s.load x with wanted := false }.turnedOff else s.load x
    unfold State.unwantLoad
    by_cases soft : (s.cfg x).source = .soft <;> by_cases wanted : (s.load x).wanted = true
    · rw [if_pos soft, if_pos wanted, if_pos ⟨soft, wanted⟩, State.turnOff_load_eq, flagged]
    · rw [if_pos soft, if_neg wanted, if_neg fun h => wanted h.2]
    all_goals rw [if_neg soft, if_neg fun h => soft h.1]
  | permit =>
    change (s.permitLoad x).load x = if (s.load x).inhibited then { s.load x with inhibited := false }.entered else s.load x
    unfold State.permitLoad
    split
    · rw [State.enterQueue_load_eq, flagged]
    · rfl
  | request =>
    change (if (s.cfg x).source = .soft then s.wantLoad x else s).load x
      = if (s.cfg x).source = .soft then
          (if (s.load x).wanted then (s.load x).wishedFull else { (s.load x).wishedFull with wanted := true }.entered)
        else s.load x
    split
    · unfold State.wantLoad
      dsimp only
      rw [s.wishFull_wanted x]
      split
      · exact s.wishFull_load_eq x
      · rw [State.enterQueue_load_eq, State.load_setLoad_self, s.wishFull_load_eq x]
    · rfl

/-- What the wish KEEP can do: nothing, the wish alone, a load of the full level lowered, or a raising load kept with its claim ended. -/
theorem State.wishKeep_cases (s : State) (x : LoadIx) :
    s.wishKeep x = s
      ∨ s.wishKeep x = s.setLoad x { s.load x with wish := .keep }
      ∨ s.wishKeep x = (s.setLoad x { s.load x with wish := .keep }).lowerToKeep x
      ∨ ((s.load x).state = .raiseWait ∨ (s.load x).state = .raiseClaim)
        ∧ (s.wishKeep x = s.keptFromRaising x ∨ s.wishKeep x = (s.keptFromRaising x).endClaim x) := by
  by_cases raising : (s.load x).wish = .full ∧ ((s.load x).state = .raiseWait ∨ (s.load x).state = .raiseClaim)
  · exact .inr (.inr (.inr ⟨raising.2, State.wishKeep_of_raising raising.1 raising.2⟩))
  unfold State.wishKeep
  split
  · exact .inl rfl
  next other =>
    have full : (s.load x).wish = .full := Level.eq_full_of_ne_keep other
    dsimp only
    rw [State.load_setLoad_self]
    dsimp only
    split
    case h_1 | h_2 => exact .inr (.inr (.inl rfl))
    case h_3 e => exact absurd ⟨full, .inl e⟩ raising
    case h_4 e => exact absurd ⟨full, .inr e⟩ raising
    case h_5 => exact .inr (.inl rfl)

theorem State.lowerToKeep_load_of_ne (s : State) {x y : LoadIx} (h : x ≠ y) : (s.lowerToKeep x).load y = s.load y := by
  unfold State.lowerToKeep
  dsimp only
  split
  · rw [State.load]
    simp only [State.freeUnits_frame]
    exact s.load_setLoad_of_ne _ h
  · rfl

theorem State.wishKeep_load_of_ne (s : State) {x y : LoadIx} (h : x ≠ y) : (s.wishKeep x).load y = s.load y := by
  have other (r : LoadRecord) : (s.setLoad x r).load y = s.load y := s.load_setLoad_of_ne r h
  rcases s.wishKeep_cases x with e | e | e | ⟨-, e | e⟩ <;> rw [e]
  · exact other _
  · rw [State.lowerToKeep_load_of_ne _ h, other]
  · exact other _
  · rw [State.endClaim_load]
    exact other _

theorem State.act_load_of_ne (s : State) {x y : LoadIx} (h : x ≠ y) (a : Action) : (s.act x a).load y = s.load y := by
  cases a with
  | inhibit =>
    change (s.inhibitLoad x).load y = _
    unfold State.inhibitLoad
    split
    · rfl
    · rw [State.turnOff_load_of_ne h, State.load_setLoad_of_ne _ _ h]
  | keep => exact s.wishKeep_load_of_ne h
  | withdraw =>
    change (if (s.cfg x).source = .soft then s.unwantLoad x else s).load y = _
    unfold State.unwantLoad
    (repeat' split)
    · rw [State.turnOff_load_of_ne h, State.load_setLoad_of_ne _ _ h]
    · rfl
    · rfl
  | permit =>
    change (s.permitLoad x).load y = _
    unfold State.permitLoad
    split
    · rw [State.enterQueue_load_of_ne _ h, State.load_setLoad_of_ne _ _ h]
    · rfl
  | request =>
    change (if (s.cfg x).source = .soft then s.wantLoad x else s).load y = _
    split
    · exact s.wantLoad_load_of_ne h
    · rfl

/-! ## The loads of a code -/

/-- The record that a code makes of a load's record, before composition. -/
def State.codeRecord (s : State) (code : Byte) (x : LoadIx) : LoadRecord :=
  ((s.resolve code x).map (Action.record (s.cfg x) (s.load x))).getD (s.load x)

theorem State.codeRecord_of_none {code : Byte} (h : s.resolve code x = none) : s.codeRecord code x = s.load x := by
  rw [State.codeRecord, h]
  rfl

theorem State.codeRecord_of_some {code : Byte} {a : Action} (h : s.resolve code x = some a) :
    s.codeRecord code x = a.record (s.cfg x) (s.load x) := by
  rw [State.codeRecord, h]
  rfl

theorem State.resolve_congr {s u : State} (settings : u.settings = s.settings) (code : Byte) (x : LoadIx) :
    u.resolve code x = s.resolve code x := by
  unfold State.resolve
  rw [settings]

theorem State.codeRecord_congr {s u : State} {x : LoadIx} (settings : u.settings = s.settings) (load : u.load x = s.load x)
    (code : Byte) : u.codeRecord code x = s.codeRecord code x := by
  rw [State.codeRecord, State.codeRecord, State.resolve_congr settings, State.cfg_congr settings, load]

theorem State.actOn_of_none {code : Byte} (h : s.resolve code x = none) : State.actOn code s x = s := by rw [State.actOn, h]

theorem State.actOn_of_some {code : Byte} {a : Action} (h : s.resolve code x = some a) : State.actOn code s x = s.act x a := by
  rw [State.actOn, h]

theorem State.actOn_load_eq (s : State) (code : Byte) (x : LoadIx) : (State.actOn code s x).load x = s.codeRecord code x := by
  cases resolved : s.resolve code x with
  | none => rw [State.actOn_of_none resolved, State.codeRecord_of_none resolved]
  | some a => rw [State.actOn_of_some resolved, State.codeRecord_of_some resolved, State.act_load_eq]

theorem State.actOn_load_of_ne (s : State) (code : Byte) {x y : LoadIx} (h : x ≠ y) : (State.actOn code s x).load y = s.load y := by
  cases resolved : s.resolve code x with
  | none => rw [State.actOn_of_none resolved]
  | some a => rw [State.actOn_of_some resolved, State.act_load_of_ne s h]

/-- Each load listed moves once, by the action that the settings resolve for it. -/
theorem foldl_actOn_load (code : Byte) (y : LoadIx) : ∀ (l : List LoadIx) (s : State), l.Nodup →
    (l.foldl (State.actOn code) s).load y = if y ∈ l then s.codeRecord code y else s.load y
  | [], _, _ => by rw [if_neg List.not_mem_nil]; rfl
  | x :: l, s, once => by
    obtain ⟨absent, once⟩ := List.nodup_cons.mp once
    have settings : (State.actOn code s x).settings = s.settings := by simp
    rw [List.foldl_cons, foldl_actOn_load code y l _ once]
    by_cases same : x = y
    · subst same
      rw [if_neg absent, if_pos List.mem_cons_self, State.actOn_load_eq]
    · have other := s.actOn_load_of_ne code same
      rw [State.codeRecord_congr settings other, other]
      simp only [List.mem_cons, Ne.symm same, false_or]

/-- A window that matches the code stands enabled. -/
def State.codeMatches (s : State) (code : Byte) : Bool := s.settings.windows.toList.any fun w => w.enabled && w.matchesCode code

theorem State.applyCode_of_match {code : Byte} (h : s.codeMatches code = true) :
    s.applyCode code = allLoads.foldl (State.actOn code) (s.post .groupMatched code) := if_pos h

theorem State.applyCode_of_no_match {code : Byte} (h : s.codeMatches code ≠ true) : s.applyCode code = s := if_neg h

/-- Without a window that matches, no action is resolved. -/
theorem State.resolve_of_no_match {code : Byte} (h : s.codeMatches code ≠ true) (x : LoadIx) : s.resolve code x = none := by
  refine (s.resolve_eq_none code x).mpr fun i ⟨enabled, matching, _⟩ => h (List.any_eq_true.mpr ⟨s.settings.windows[i], ?_, ?_⟩)
  · exact Vector.mem_toList_iff.mpr (Vector.getElem_mem i.isLt)
  · rw [enabled, matching]
    rfl

theorem State.applyCode_load (s : State) (code : Byte) (x : LoadIx) : (s.applyCode code).load x = s.codeRecord code x := by
  by_cases matched : s.codeMatches code = true
  · have posted : (s.post .groupMatched code).load x = s.load x := by simp only [State.load, State.post_frame]
    rw [State.applyCode_of_match matched, foldl_actOn_load code x _ _ (List.nodup_finRange 8), if_pos (List.mem_finRange x),
      State.codeRecord_congr (by simp) posted]
  · rw [State.applyCode_of_no_match matched, State.codeRecord_of_none (State.resolve_of_no_match matched x)]

theorem State.applyCode_port (s : State) (code : Byte) :
    (s.applyCode code).port = if s.codeMatches code = true then (s.post .groupMatched code).port else s.port := by
  split
  next matched =>
    rw [State.applyCode_of_match matched]
    exact foldl_keeps _ State.port (fun u x => by simp) _ _
  next unmatched => rw [State.applyCode_of_no_match unmatched]

end records

end Sys2Proof.Machine
end

section
/-! SUPPORT. What a code leaves of the units and of the send list: units that a load no longer occupies stand in the open part of the account
(R120, R150), and the items of the send list alone may change. -/

namespace Sys2Proof.Machine

/-! ## Units -/

/-- The settings stand, and with keep units within full units no unit is lost: what the loads of a class no longer occupy stands in
the open part of its account. -/
structure State.keepsUnits (s u : State) : Prop where
  settings : u.settings = s.settings
  balance : (∀ x : LoadIx, (s.cfg x).keep.toNat ≤ (s.cfg x).full.toNat) → ∀ k : ClassIx,
    u.occupiedIn k + u.demand.openUnits[k] = s.occupiedIn k + s.demand.openUnits[k]

theorem LoadRecord.entered_units (r : LoadRecord) (c : LoadSettings) : r.entered.state.units c = r.state.units c := by
  unfold LoadRecord.entered
  split
  next enters => rw [enters.1]; rfl
  next => rfl

theorem LoadRecord.wishedFull_units (r : LoadRecord) (c : LoadSettings) : r.wishedFull.state.units c = r.state.units c := by
  unfold LoadRecord.wishedFull
  dsimp only
  split
  next raises => rw [raises.2]; rfl
  next => rfl

theorem State.keptFromRaising_load (s : State) (x y : LoadIx) : (s.keptFromRaising x).load y =
    if x = y then { s.load x with wish := .keep, state := .keep } else s.load y := s.load_setLoad x y _

namespace State.keepsUnits

variable {s u v : State}

theorem refl (s : State) : s.keepsUnits s := ⟨rfl, fun _ _ => rfl⟩

theorem trans (h : s.keepsUnits u) (h' : u.keepsUnits v) : s.keepsUnits v where
  settings := h'.settings.trans h.settings
  balance fits k := (h'.balance (fun x => by rw [State.cfg_congr h.settings]; exact fits x) k).trans (h.balance fits k)

/-- An update of what the units do not depend on. -/
theorem elsewhere (h : s.keepsUnits u) (settings : v.settings = u.settings) (loads : v.loads = u.loads)
    (account : v.demand.openUnits = u.demand.openUnits) : s.keepsUnits v :=
  h.trans ⟨settings, fun _ k => by rw [account, State.occupiedIn_congr u v k (by rw [loads]) settings]⟩

/-- One load moves to a state of the same units. -/
theorem moved (h : s.keepsUnits u) {x : LoadIx} (settings : v.settings = u.settings) (others : ∀ y, x ≠ y → v.load y = u.load y)
    (units : (v.load x).state.units (u.cfg x) = (u.load x).state.units (u.cfg x))
    (account : v.demand.openUnits = u.demand.openUnits) : s.keepsUnits v := by
  refine h.trans ⟨settings, fun _ k => State.balance_of_freed settings others (n := 0) ?_ (by rw [account, addAt_zero]) k⟩
  rw [Nat.add_zero, State.occupied, State.occupied, State.cfg_congr settings, units]

theorem setLoad (h : s.keepsUnits u) {x : LoadIx} {r : LoadRecord} (same : r.state = (u.load x).state) : s.keepsUnits (u.setLoad x r) :=
  h.moved (x := x) rfl (fun _ => u.load_setLoad_of_ne r) (by rw [State.load_setLoad_self, same]) rfl

theorem lowerToKeep (h : s.keepsUnits u) (x : LoadIx) : s.keepsUnits (u.lowerToKeep x) :=
  h.trans ⟨by simp, fun fits k =>
    have ⟨lowered, _⟩ := unitsFreedAreAccounted u x k (fits x)
    lowered⟩

theorem turnOff (h : s.keepsUnits u) (x : LoadIx) : s.keepsUnits (u.turnOff x) :=
  h.trans ⟨by simp, fun fits k =>
    have ⟨_, off, _⟩ := unitsFreedAreAccounted u x k (fits x)
    off⟩

theorem enterQueue (h : s.keepsUnits u) (x : LoadIx) : s.keepsUnits (u.enterQueue x) := by
  refine h.moved (x := x) (by simp) (fun _ => u.enterQueue_load_of_ne)
    (by rw [State.enterQueue_load_eq, LoadRecord.entered_units]) ?_
  unfold State.enterQueue
  split <;> rfl

theorem wishFull (h : s.keepsUnits u) (x : LoadIx) : s.keepsUnits (u.wishFull x) := by
  refine h.moved (x := x) (by simp) (fun _ => u.wishFull_load_of_ne)
    (by rw [State.wishFull_load_eq, LoadRecord.wishedFull_units]) ?_
  unfold State.wishFull State.raiseFromKeep
  (repeat' split) <;> rfl

/-- A raising load that stays at the keep level occupies its keep units as before. -/
theorem keptFromRaising (h : s.keepsUnits u) {x : LoadIx} (raising : (u.load x).state = .raiseWait ∨ (u.load x).state = .raiseClaim) :
    s.keepsUnits (u.keptFromRaising x) := by
  refine h.moved (x := x) rfl (fun y hy => by rw [State.keptFromRaising_load, if_neg hy]) ?_ rfl
  rw [State.keptFromRaising_load, if_pos rfl]
  rcases raising with e | e <;> rw [e] <;> rfl

theorem endClaim (h : s.keepsUnits u) (x : LoadIx) : s.keepsUnits (u.endClaim x) :=
  h.elsewhere (by simp) (by simp) (u.endClaim_account x).1

theorem wishKeep (h : s.keepsUnits u) (x : LoadIx) : s.keepsUnits (u.wishKeep x) := by
  have wished : s.keepsUnits (u.setLoad x { u.load x with wish := .keep }) := h.setLoad rfl
  rcases u.wishKeep_cases x with e | e | e | ⟨raising, e | e⟩ <;> rw [e]
  · exact h
  · exact wished
  · exact wished.lowerToKeep x
  · exact h.keptFromRaising raising
  · exact (h.keptFromRaising raising).endClaim x

theorem act (h : s.keepsUnits u) (x : LoadIx) (a : Action) : s.keepsUnits (u.act x a) := by
  cases a with
  | inhibit =>
    change s.keepsUnits (u.inhibitLoad x)
    unfold State.inhibitLoad
    split
    · exact h
    · exact (h.setLoad (by rfl)).turnOff x
  | keep => exact h.wishKeep x
  | withdraw =>
    change s.keepsUnits (if (u.cfg x).source = .soft then u.unwantLoad x else u)
    unfold State.unwantLoad
    (repeat' split)
    · exact (h.setLoad (by rfl)).turnOff x
    · exact h
    · exact h
  | permit =>
    change s.keepsUnits (u.permitLoad x)
    unfold State.permitLoad
    split
    · exact (h.setLoad (by rfl)).enterQueue x
    · exact h
  | request =>
    change s.keepsUnits (if (u.cfg x).source = .soft then u.wantLoad x else u)
    unfold State.wantLoad
    dsimp only
    (repeat' split)
    · exact h.wishFull x
    · exact ((h.wishFull x).setLoad (by rfl)).enterQueue x
    · exact h

theorem applyCode (h : s.keepsUnits u) (code : Byte) : s.keepsUnits (u.applyCode code) := by
  unfold State.applyCode
  split
  · refine List.foldlRecOn _ _ (h.elsewhere (by simp) (by simp) (by simp)) fun v hv x _ => ?_
    unfold State.actOn
    split
    · exact hv.act x _
    · exact hv
  · exact h

theorem settle (h : s.keepsUnits u) : s.keepsUnits u.settle :=
  h.trans ⟨by simp, fun _ k => by rw [u.settle_occupiedIn, u.settle_openUnits]⟩

end State.keepsUnits

/-! ## The send list -/

namespace State.itemsOnly

variable {ks : List FrameKind} {s u : State}

theorem turnOff (h : s.itemsOnly ks u) (hks : .claim ∈ ks ∧ .release ∈ ks) (x : LoadIx) : s.itemsOnly ks (u.turnOff x) := by
  unfold State.turnOff
  split
  · exact h
  · exact h
  · exact h.dropLoad hks x .off

theorem wishKeep (h : s.itemsOnly ks u) (hks : .claim ∈ ks ∧ .release ∈ ks) (x : LoadIx) : s.itemsOnly ks (u.wishKeep x) := by
  rcases u.wishKeep_cases x with e | e | e | ⟨-, e | e⟩ <;> rw [e]
  · exact h
  · exact h.elsewhere rfl
  · exact State.itemsOnly.lowerToKeep (h.elsewhere (by rfl)) hks.2 x
  · exact h.elsewhere rfl
  · exact State.itemsOnly.endClaim (h.elsewhere (by rfl)) hks.1 x

theorem act (h : s.itemsOnly ks u) (hks : .claim ∈ ks ∧ .release ∈ ks) (x : LoadIx) (a : Action) : s.itemsOnly ks (u.act x a) := by
  cases a with
  | inhibit =>
    change s.itemsOnly ks (u.inhibitLoad x)
    unfold State.inhibitLoad
    split
    · exact h
    · exact State.itemsOnly.turnOff (h.elsewhere (by rfl)) hks x
  | keep => exact h.wishKeep hks x
  | withdraw =>
    change s.itemsOnly ks (if (u.cfg x).source = .soft then u.unwantLoad x else u)
    unfold State.unwantLoad
    (repeat' split)
    · exact State.itemsOnly.turnOff (h.elsewhere (by rfl)) hks x
    · exact h
    · exact h
  | permit =>
    change s.itemsOnly ks (u.permitLoad x)
    exact h.elsewhere (by simp)
  | request =>
    change s.itemsOnly ks (if (u.cfg x).source = .soft then u.wantLoad x else u)
    split
    · exact h.elsewhere (by simp)
    · exact h

theorem applyCode (h : s.itemsOnly ks u) (hks : .claim ∈ ks ∧ .release ∈ ks) (code : Byte) : s.itemsOnly ks (u.applyCode code) := by
  unfold State.applyCode
  split
  · refine foldl (fun v x calm => ?_) _ (h.post .groupMatched code)
    unfold State.actOn
    split
    · exact (refl calm ks).act hks x _
    · exact refl calm ks
  · exact h

end State.itemsOnly

end Sys2Proof.Machine
end

section
/-! SUPPORT. A GROUP frame, another node's or the node's own: the load records at its end, and the row (R148, R150). -/

namespace Sys2Proof.Machine

/-! ## What a resolved action has come to at the end of the handling -/

section ends

variable {a b : LoadState}

theorem LoadState.composedTo.eq_of_idle (h : a.composedTo b) (waiting : a ≠ .waiting) (raiseWait : a ≠ .raiseWait) : b = a := by
  rcases h with same | ⟨e, -⟩ | ⟨e, -⟩
  · exact same
  · exact absurd e waiting
  · exact absurd e raiseWait

theorem LoadState.composedTo.of_waiting (h : LoadState.waiting.composedTo b) : b = .waiting ∨ b = .claiming := by
  rcases h with same | ⟨-, claims⟩ | ⟨e, -⟩
  · exact .inl same
  · exact .inr claims
  · cases e

theorem LoadState.composedTo.of_raiseWait (h : LoadState.raiseWait.composedTo b) : b = .raiseWait ∨ b = .raiseClaim := by
  rcases h with same | ⟨e, -⟩ | ⟨-, claims⟩
  · exact .inl same
  · cases e
  · exact .inr claims

/-- What composition at the end of a handling can make of a load's record: its state alone, by `LoadState.composedTo`. -/
def LoadRecord.composedTo (r t : LoadRecord) : Prop := t = { r with state := t.state } ∧ r.state.composedTo t.state

theorem State.settle_composedTo (s : State) (x : LoadIx) : (s.load x).composedTo (s.settle.load x) := s.settle_load x

namespace LoadRecord.composedTo

variable {c : LoadSettings} {r t : LoadRecord}

theorem wanted (h : r.composedTo t) : t.wanted = r.wanted := by rw [h.1]
theorem wish (h : r.composedTo t) : t.wish = r.wish := by rw [h.1]
theorem inhibited (h : r.composedTo t) : t.inhibited = r.inhibited := by rw [h.1]
theorem state (h : r.composedTo t) : r.state.composedTo t.state := h.2

theorem turnedOff (h : r.turnedOff.composedTo t) : t.inhibited = r.inhibited ∧ t.wanted = r.wanted
    ∧ t.state = if r.state = .fault then .fault else .off := by
  have off : r.turnedOff.inhibited = r.inhibited ∧ r.turnedOff.wanted = r.wanted
      ∧ r.turnedOff.state = if r.state = .fault then .fault else .off := by
    unfold LoadRecord.turnedOff
    split
    next idle => rcases idle with e | e <;> rw [e] <;> exact ⟨rfl, rfl, rfl⟩
    next active => exact ⟨rfl, rfl, (if_neg fun fault => active (.inr fault)).symm⟩
  obtain ⟨inhibited, wanted, state⟩ := off
  refine ⟨h.inhibited.trans inhibited, h.wanted.trans wanted, (h.state.eq_of_idle ?_ ?_).trans state⟩ <;>
  · rw [state]
    split <;> nofun

theorem entered (h : r.entered.composedTo t) : t.inhibited = r.inhibited ∧ t.wanted = r.wanted ∧ t.wish = r.wish
    ∧ (if r.state = .off ∧ r.wanted = true ∧ r.inhibited = false then t.state = .waiting ∨ t.state = .claiming
      else r.state.composedTo t.state) := by
  unfold LoadRecord.entered at h
  split at h
  next enters => exact ⟨h.inhibited, h.wanted, h.wish, by rw [if_pos enters]; exact h.state.of_waiting⟩
  next stays => exact ⟨h.inhibited, h.wanted, h.wish, by rw [if_neg stays]; exact h.state⟩

/-- INHIBIT (R103). -/
theorem inhibit (h : (Action.inhibit.record c r).composedTo t) : t.inhibited = true ∧ t.wanted = r.wanted
    ∧ (r.inhibited = false → t.state = (if r.state = .fault then .fault else .off))
    ∧ (r.inhibited = true → r.state.composedTo t.state) := by
  unfold Action.record at h
  dsimp only at h
  split at h
  next before => exact ⟨h.inhibited.trans before, h.wanted, fun e => absurd (before.symm.trans e) nofun, fun _ => h.state⟩
  next before =>
    obtain ⟨inhibited, wanted, state⟩ := h.turnedOff
    exact ⟨inhibited, wanted, fun _ => state, fun e => absurd e before⟩

/-- PERMIT (R104). -/
theorem permit (h : (Action.permit.record c r).composedTo t) : t.inhibited = false ∧ t.wanted = r.wanted
    ∧ (if r.inhibited = true ∧ r.state = .off ∧ r.wanted = true then t.state = .waiting ∨ t.state = .claiming
      else r.state.composedTo t.state) := by
  unfold Action.record at h
  dsimp only at h
  split at h
  next before =>
    obtain ⟨inhibited, wanted, -, state⟩ := h.entered
    refine ⟨inhibited, wanted, ?_⟩
    simpa only [before, true_and, and_true] using state
  next before =>
    rw [if_neg fun e => before e.1]
    exact ⟨h.inhibited.trans (Bool.eq_false_of_not_eq_true before), h.wanted, h.state⟩

/-- WITHDRAW, of a SOFT load alone (R93, R102). -/
theorem withdraw (h : (Action.withdraw.record c r).composedTo t) : t.wanted = (r.wanted && c.source == .pin)
    ∧ (if c.source = .soft ∧ r.wanted = true then t.state = (if r.state = .fault then .fault else .off)
      else r.state.composedTo t.state) := by
  unfold Action.record at h
  dsimp only at h
  split at h
  next withdrawn =>
    obtain ⟨-, wanted, state⟩ := h.turnedOff
    rw [if_pos withdrawn, withdrawn.1]
    exact ⟨wanted.trans (Bool.and_false _).symm, state⟩
  next stays =>
    rw [if_neg stays, h.wanted]
    refine ⟨?_, h.state⟩
    cases source : c.source with
    | pin => exact (Bool.and_true _).symm
    | soft => exact (Bool.eq_false_of_not_eq_true fun wanted => stays ⟨source, wanted⟩).trans (Bool.and_false _).symm

/-- REQUEST, of a SOFT load alone (R93, R94, R96). -/
theorem request (h : (Action.request.record c r).composedTo t) : t.wanted = (r.wanted || c.source == .soft)
    ∧ t.wish = (if c.source = .soft then .full else r.wish)
    ∧ (if c.source = .soft ∧ r.state = .keep ∧ r.wish = .keep then t.state = .raiseWait ∨ t.state = .raiseClaim
      else if c.source = .soft ∧ r.state = .off ∧ r.wanted = false ∧ r.inhibited = false then t.state = .waiting ∨ t.state = .claiming
      else r.state.composedTo t.state) := by
  unfold Action.record at h
  dsimp only at h
  split at h
  next soft =>
    rw [if_pos soft, soft, beq_self_eq_true, Bool.or_true]
    split at h
    next wanted =>
      refine ⟨h.wanted.trans wanted, h.wish, ?_⟩
      have not_entered : ¬(Source.soft = .soft ∧ r.state = .off ∧ r.wanted = false ∧ r.inhibited = false) :=
        fun ⟨_, _, unwanted, _⟩ => absurd (wanted.symm.trans unwanted) nofun
      rw [if_neg not_entered]
      by_cases raises : r.state = .keep ∧ r.wish = .keep
      · rw [if_pos ⟨rfl, raises⟩]
        exact (LoadRecord.wishedFull_state_of_keep raises ▸ h.state).of_raiseWait
      · rw [if_neg fun e => raises e.2]
        exact LoadRecord.wishedFull_state_of_other raises ▸ h.state
    next unwanted =>
      obtain ⟨-, wanted, wish, state⟩ := h.entered
      refine ⟨wanted, wish, ?_⟩
      by_cases raises : r.state = .keep ∧ r.wish = .keep
      · have raised := LoadRecord.wishedFull_state_of_keep raises
        dsimp only at state
        rw [raised, if_neg fun e => absurd e.1 nofun] at state
        rw [if_pos ⟨rfl, raises⟩]
        exact state.of_raiseWait
      · have kept := LoadRecord.wishedFull_state_of_other raises
        dsimp only at state
        rw [kept] at state
        rw [if_neg fun e => raises e.2]
        simpa only [true_and, unwanted, LoadRecord.wishedFull] using state
  next pin =>
    have not_soft {p : Prop} : ¬(c.source = .soft ∧ p) := fun e => pin e.1
    rw [if_neg not_soft, if_neg not_soft, if_neg pin, beq_false_of_ne pin, Bool.or_false]
    exact ⟨h.wanted, h.wish, h.state⟩

/-- KEEP (R95, R96). -/
theorem keep (h : (Action.keep.record c r).composedTo t) : t.wish = .keep ∧ t.wanted = r.wanted
    ∧ (r.wish = .full → r.state = .ramping ∨ r.state = .on → t.state = (if 0 < c.keep.toNat then .keep else r.state))
    ∧ (r.wish = .full → r.state = .raiseWait ∨ r.state = .raiseClaim → t.state = .keep)
    ∧ (r.wish = .keep ∨ r.state ∈ [.off, .waiting, .claiming, .keep, .fault] → r.state.composedTo t.state) := by
  have ⟨wish, wanted⟩ := LoadRecord.wishedKeep_fields c r
  have state : (r.wishedKeep c).state.composedTo t.state := h.state
  refine ⟨h.wish.trans wish, h.wanted.trans wanted, fun full high => ?_, fun full raising => ?_, fun idle => ?_⟩
  · rw [LoadRecord.wishedKeep_state_of_high full high] at state
    rcases high with e | e <;> rw [e] at state ⊢ <;> exact state.eq_of_idle (by split <;> nofun) (by split <;> nofun)
  · rw [LoadRecord.wishedKeep_state_of_raising full raising] at state
    exact state.eq_of_idle nofun nofun
  · rwa [LoadRecord.wishedKeep_state_of_idle idle] at state

end LoadRecord.composedTo

end ends

/-! ## The row -/

section row

variable {s : State} {q : Station} {code : Byte}

/-- The node's own GROUP frame completed, and its code off the list, before the code is applied (R145). -/
def State.groupSent (s : State) : State :=
  { s.completeOwn .group with bus := { (s.completeOwn .group).bus with codes := (s.completeOwn .group).bus.codes.tail } }

theorem exec_groupFrame_of_own (running : s.power.running = true) (line : s.bus.line = .sending (.group code)) :
    exec (.groupFrame s.address code) s = .next (s.groupSent.applyCode code).settle := by
  change execGroupFrame s.address code s = _
  rw [execGroupFrame, State.whenRunning_of_running running, State.frameEnd_of_own (k := .group) line rfl]
  rfl

theorem exec_groupFrame_of_other (running : s.power.running = true) (line : s.bus.line.receives = true) (other : q ≠ s.address) :
    exec (.groupFrame q code) s = .next ((s.received .group q).applyCode code).settle := by
  change execGroupFrame q code s = _
  rw [execGroupFrame, State.whenRunning_of_running running, State.frameEnd_of_other line other]

/-- The state in which a code is applied: the line in its gap, and nothing that the code reads changed. -/
structure State.codeTakenIn (s u : State) : Prop where
  line : u.bus.line = .gap
  table : u.table = s.table
  settings : u.settings = s.settings
  loads : u.loads = s.loads
  demand : u.demand = s.demand
  port : u.port = s.port

theorem State.groupSent_codes (s : State) : s.groupSent.bus.codes = s.bus.codes.tail :=
  congrArg List.tail (s.completeOwn_itemsOnly .group).codes

theorem State.groupSent_codeTakenIn (s : State) : s.codeTakenIn s.groupSent where
  line := (s.completeOwn_itemsOnly .group).line
  table := by simp [State.groupSent]
  settings := by simp [State.groupSent]
  loads := by simp [State.groupSent]
  demand := by simp [State.groupSent]
  port := by simp [State.groupSent]

theorem State.received_codeTakenIn (s : State) (k : FrameKind) (q : Station) : s.codeTakenIn (s.received k q) where
  line := (State.received_itemsOnly k q).line
  table := by simp
  settings := by simp
  loads := by simp
  demand := by simp
  port := by simp

/-- The row of a GROUP frame: a state in which its code is taken, with the codes that are then left, and the end of the handling. -/
theorem exec_groupFrame (running : s.power.running = true)
    (ends : (q ≠ s.address ∧ s.bus.line = .idle) ∨ (q = s.address ∧ s.bus.line = .sending (.group code))) :
    ∃ u, exec (.groupFrame q code) s = .next (u.applyCode code).settle ∧ s.codeTakenIn u
      ∧ (q = s.address → u.bus.codes = s.bus.codes.tail) ∧ (q ≠ s.address → u.bus.codes = s.bus.codes) := by
  rcases ends with ⟨other, idle⟩ | ⟨rfl, line⟩
  · exact ⟨_, exec_groupFrame_of_other running (by rw [idle]; rfl) other, s.received_codeTakenIn .group q,
      fun own => absurd own other, fun _ => (State.received_itemsOnly .group q).codes⟩
  · exact ⟨_, exec_groupFrame_of_own running line, s.groupSent_codeTakenIn, fun _ => s.groupSent_codes, fun other => absurd rfl other⟩

namespace State.codeTakenIn

variable {u : State} (h : s.codeTakenIn u)
include h

theorem applied_itemsOnly (code : Byte) : u.itemsOnly FrameKind.all (u.applyCode code).settle := by
  have calm : u.bus.calm := Bus.calm_of_line (by simp [h.line]) (by simp [h.line])
  exact ((State.itemsOnly.refl calm _).applyCode (by decide) code).settle (by decide)

theorem applied_keepsUnits (code : Byte) : s.keepsUnits (u.applyCode code).settle :=
  (((State.keepsUnits.refl s).elsewhere h.settings h.loads (by rw [h.demand])).applyCode code).settle

theorem applied_load (code : Byte) (x : LoadIx) : (s.codeRecord code x).composedTo ((u.applyCode code).settle.load x) := by
  have record : (u.applyCode code).load x = s.codeRecord code x := by
    rw [State.applyCode_load, State.codeRecord_congr h.settings (by rw [State.load, h.loads, State.load])]
  exact record ▸ (u.applyCode code).settle_composedTo x

theorem applied_load_of_some {code : Byte} {x : LoadIx} {a : Action} (resolved : s.resolve code x = some a) :
    (a.record (s.cfg x) (s.load x)).composedTo ((u.applyCode code).settle.load x) :=
  State.codeRecord_of_some resolved ▸ h.applied_load code x

theorem applied_load_of_none {code : Byte} {x : LoadIx} (resolved : s.resolve code x = none) :
    (s.load x).composedTo ((u.applyCode code).settle.load x) := State.codeRecord_of_none resolved ▸ h.applied_load code x

theorem applied_port (code : Byte) : (u.applyCode code).settle.port =
    if s.codeMatches code = true then (s.post .groupMatched code).port else s.port := by
  have matches_same : u.codeMatches code = s.codeMatches code := by rw [State.codeMatches, h.settings]; rfl
  have posted := State.post_port_congr h.port (by rw [h.table]) .groupMatched code
  simp only [State.settle_frame]
  rw [State.applyCode_port, matches_same, posted, h.port]

end State.codeTakenIn

end row

/-- Settles O44: the code is taken in a state that it reads as it was; each load's record moves once, by its resolved action, and the end
of the handling adds a claim at most. -/
theorem groupFrameActsOnLoads : Obligations.GroupFrameActsOnLoads := by
  unfold Obligations.GroupFrameActsOnLoads
  intro s q code running _ ends
  obtain ⟨u, row, taken, sent, received⟩ := exec_groupFrame running ends
  have bus := taken.applied_itemsOnly code
  have units := taken.applied_keepsUnits code
  refine ⟨_, row, bus.line.trans taken.line, by simp [taken.table], units.settings, fun own => bus.codes.trans (sent own),
    fun other => bus.codes.trans (received other), taken.applied_port code, units.balance, fun x =>
    ⟨fun no_action => taken.applied_load_of_none no_action,
      fun inhibit => (taken.applied_load_of_some inhibit).inhibit, fun permit => (taken.applied_load_of_some permit).permit,
      fun keep => (taken.applied_load_of_some keep).keep, fun withdraw => (taken.applied_load_of_some withdraw).withdraw,
      fun request => (taken.applied_load_of_some request).request⟩⟩

end Sys2Proof.Machine
end
